-- ==== Sys2Proof/Word.lean ====
section
/-! DEFINITION. The words and index types of the 2408: bytes on the links, and the numbers that name
records, nodes, outlets, stations and channels. -/

namespace Sys2Proof

/-- One byte of the Service Link, one character of the Feeder Chain (11, opening paragraph; 11.5). -/
abbrev Byte := BitVec 8

/-- A 16-bit field of a frame (11.2, 11.6). -/
abbrev Half := BitVec 16

/-- A record's slot: record number 1..64 is index 0..63 (01 1.1). -/
abbrev RecNo := Fin 64

/-- A node's entry: address 1..16 is index 0..15 (02 2.1). -/
abbrev NodeNo := Fin 16

/-- An outlet of a node: outlet 1..4 is index 0..3 (00_scope, Outlet). -/
abbrev OutletNo := Fin 4

/-- A saw station: station 1..3 is index 0..2 (07 7.1). -/
abbrev StationNo := Fin 3

/-- An analogue channel 0..15 (08 8.1). -/
abbrev ChannelNo := Fin 16

end Sys2Proof
end

