-- ==== Sys2Proof/Syntax.lean ====
section
/-! DEFINITION. The commands of the 2408: one constructor for each row of spec/opcode_table.json, with the
operands its rule gives it. Request operands are the payload fields of 11.2, as the frame carries them. -/

namespace Sys2Proof

/-- A character received on the Feeder Chain, with whether its stop bit was valid (R39). -/
structure LineChar where
  byte   : Byte
  stopOk : Bool
  deriving DecidableEq, Repr

/-- The two push-button inputs of a saw station (07 7.1). -/
inductive StationInput where
  | start
  | stop
  deriving DecidableEq, Repr

/-- The commands. -/
inductive Instr where
  -- Allotment requests (chapter 1)
  | allotCreate (holder : Half) (node outlet cls rank : Byte) (cap quota : Half)
  | allotAmend (number presence : Byte) (holder cap quota : Half) (cls rank node outlet : Byte)
  | allotActivate (number : Byte)
  | allotSuspend (number : Byte)
  | allotRetire (number : Byte)
  | allotLookup (number : Byte)
  | allotFind (key : Byte) (tag : Half) (start node outlet : Byte)
  | allotList (state start : Byte)
  | tripClear (number : Byte)
  | dayTurn
  -- Plant and saw requests (chapters 9 and 7)
  | plantStart
  | plantStop
  | plantClear
  | plantGet
  | sawClear (station : Byte)
  | sawGet
  -- Requests of the chain, the sequencer, the governor and the reserve (chapters 2, 8, 4, 5)
  | nodeGet (node : Byte)
  | readingsGet
  | sampleNow (channel : Byte)
  | governorGet
  | stageRetest (stage : Byte)
  | reserveGet
  -- Requests of the Service Link port (chapter 10)
  | settingGet (id index : Byte)
  | settingPut (id index : Byte) (rest : List Byte)
  | settingsStore
  | statusGet (acknowledge : Byte)
  | restart
  -- Service Link events and resets (chapter 10)
  | serviceLinkByte (byte : Byte) (stopOk : Bool)
  | serviceGapTimerExpiry
  | replySent
  | settingsStoreComplete
  | powerOnReset
  | pinReset
  | startUpComplete
  -- Feeder Chain events (chapter 2)
  | roundTimerExpiry
  | lineTurnaroundEnd
  | frameSent
  | replyBegins
  | replyWindowExpiry
  | replyReceived (chars : List LineChar)
  | receptionTimeout
  -- Frequency, speed and governor events (chapters 3 and 4)
  | crossingEdge (count : BitVec 32)
  | gapTimerExpiry
  | holdTimerExpiry
  | shaftPulse (trackB : Bool)
  | indexEdge
  | arborPulse (station : StationNo)
  | speedWindowEnd
  | slipTimerExpiry
  -- Ladder and record timers (chapters 6 and 1)
  | stepTimerExpiry
  | stepPauseExpiry
  | firstCollapseTimerExpiry
  | secondCollapseTimerExpiry
  | holdoffExpiry (record : RecNo)
  | liveTimerFull (record : RecNo)
  | cooloffExpiry (record : RecNo)
  -- Saw station events (chapter 7)
  | inputLevelChange (station : StationNo) (input : StationInput) (active : Bool)
  | inputFilterExpiry (station : StationNo) (input : StationInput)
  | waitTimerExpiry (station : StationNo)
  | engageTimerExpiry (station : StationNo)
  | dipTimerExpiry (station : StationNo)
  | jamTimerExpiry (station : StationNo)
  | refusalShowExpiry (station : StationNo)
  -- Converter events (chapter 8)
  | conversionComplete (raw : BitVec 12)
  | scanTimerExpiry
  | freshnessTimerExpiry (channel : ChannelNo)
  | calibrationComplete (raw : BitVec 12)
  -- Water and gate events (chapter 9)
  | synchronisingTimerExpiry
  | runupTimerExpiry
  | shortTimerExpiry
  | recoveryTimerExpiry
  | levelTimerExpiry
  | levelLostTimerExpiry
  | frequencyOverspeedExpiry
  | shaftOverspeedExpiry
  | gateTimeoutExpiry
  | gateStepPulse
  | resetPinAsserted
  deriving DecidableEq, Repr

end Sys2Proof
end

