-- ==== Sys2Proof/Decode.lean ====
section
/-! DEFINITION. Commands from words: no row of spec/opcode_table.json gives bits, so no word spells one. (The
bytes of a request frame are read by the Service Link port, Machine/Link.lean.) -/

namespace Sys2Proof

/-- The command that a word of the table spells: none, since the table gives no row any bits. -/
def decodeTableWord (_nbits _w : Nat) : Option Instr := none

end Sys2Proof
end

