-- ==== Sys2Proof/Machine/State.lean ====
section
/-! DEFINITION. The state of the 2408, block by block as 00_scope lists the blocks, as plain data; the reasons a
step can stop; and the state right after the power-on reset of a new installation. -/

namespace Sys2Proof.Machine

/-! ## Values shared by the blocks -/

/-- A timer: `none` is stopped, `some n` is running with `n` counts of the 8 MHz reference left (log 1). A timer
at `some 0` is due: its expiry command has not been taken yet. -/
abbrev Timer := Option Nat

/-- What a check code finds at a read (01 1.8, 09 R158, 10 R185). -/
inductive Verdict where
  | clean
  | oneFlip   -- one flipped bit: the read yields the contents corrected
  | lost      -- uncorrectable: the contents are what the damaged section reads as
  deriving DecidableEq, Repr

/-- A section of the non-volatile array with what its check code finds at its next read, in place of the code (log 6). -/
structure Coded (α : Type) where
  value   : α
  verdict : Verdict
  deriving DecidableEq, Repr

/-- An outlet: node 1..16 and outlet 1..4, by index (00_scope, Outlet). -/
structure OutletId where
  node   : NodeNo
  outlet : OutletNo
  deriving DecidableEq, Repr

/-! ## Allotment records (chapter 1) -/

/-- The states of a record (01 1.1). -/
inductive RecState where
  | vacant | dormant | shed | restoring | live | tripped | quotaOut | retiring | suspect
  deriving DecidableEq, Repr

/-- The classes of an allotment (01 1.1). -/
inductive AllotClass where
  | essential | publicLoad | domestic | deferrable
  deriving DecidableEq, Repr

/-- The shed causes (01 1.1). -/
inductive ShedCause where
  | ladder | collapse | waterShort | plant | unexpectedOpen | restoreFail | suspended
  deriving DecidableEq, Repr

/-- The terms section of a record (01 1.1). Outlet and class are absent in a VACANT slot alone (R1). -/
structure Terms where
  state       : RecState
  holder      : Half
  outlet      : Option OutletId
  cls         : Option AllotClass
  rank        : Nat
  cap         : Nat
  quota       : Option Nat
  stagedClass : Option AllotClass
  stagedRank  : Option Nat
  deriving DecidableEq, Repr

/-- The account section of a record (01 1.1). -/
structure Account where
  today     : Nat
  kwh       : Nat
  wh        : Nat
  recent    : Nat
  cause     : Option ShedCause
  corrected : Nat
  deriving DecidableEq, Repr

/-- The working fields of a record (01 1.1), and for each of its three whole-second counts the counts of the
reference already gone of the second under way (the model's own, log 5). -/
structure Working where
  reading     : Option Nat
  fresh       : Bool
  preShed     : Option Nat
  baseline    : Option Nat
  overRun     : Nat
  openRun     : Nat
  closedRun   : Nat
  liveTimer   : Nat
  holdoff     : Nat
  cooloff     : Nat
  liveFrac    : Nat
  holdoffFrac : Nat
  cooloffFrac : Nat
  deriving DecidableEq, Repr

/-- One slot of the record array: two sections, each under its own check code (01 1.1). -/
structure Slot where
  terms   : Coded Terms
  account : Coded Account
  deriving DecidableEq, Repr

/-- The terms of a VACANT slot: state VACANT and nothing else (R1). -/
def Terms.vacant : Terms :=
  { state := .vacant, holder := 0, outlet := none, cls := none, rank := 0, cap := 0, quota := none,
    stagedClass := none, stagedRank := none }

/-- The account of a new record, of a VACANT slot and of a lost account section (R1, R7, R29). -/
def Account.zero : Account :=
  { today := 0, kwh := 0, wh := 0, recent := 0, cause := none, corrected := 0 }

/-- Working fields absent or 0 (R1, R7, R31). -/
def Working.zero : Working :=
  { reading := none, fresh := false, preShed := none, baseline := none, overRun := 0, openRun := 0,
    closedRun := 0, liveTimer := 0, holdoff := 0, cooloff := 0, liveFrac := 0, holdoffFrac := 0,
    cooloffFrac := 0 }

/-- A VACANT slot (R1). -/
def Slot.vacant : Slot := { terms := ⟨.vacant, .clean⟩, account := ⟨.zero, .clean⟩ }

/-! ## The non-volatile array -/

/-- The trip causes (R158). -/
inductive TripCause where
  | overspeed | reverse | bearingHot | gateFault | runupFail | freqLost | recordLost
  deriving DecidableEq, Repr

/-- The plant record (R158, R137). -/
structure PlantRecord where
  cause    : Option TripCause
  lockouts : Vector Bool 3
  deriving DecidableEq, Repr

/-- The non-volatile record array (00_scope, NVA). The page is its 283 bytes, the check code in the last two (R193). -/
structure Nva where
  slots       : Vector Slot 64
  map         : Vector (Coded (Option RecNo)) 64
  plantRecord : Coded PlantRecord
  page        : List Byte
  deriving DecidableEq, Repr

/-! ## Feeder Chain Link (chapter 2) -/

/-- The node states (R41). -/
inductive NodeState where
  | absent | joining | present | silent
  deriving DecidableEq, Repr

/-- One entry of the node table, less its outlets (02 2.1). -/
structure Node where
  state     : NodeState
  missed    : Nat
  replied   : Bool
  valid     : Nat
  discarded : Nat
  failsafe  : Nat
  deriving DecidableEq, Repr

/-- The order and marks of one outlet (02 2.1): `closed` is the order. -/
structure Outlet where
  closed    : Bool
  essential : Bool
  answered  : Bool
  deriving DecidableEq, Repr

/-- Where the chain stands in a round: the slot's node, whether its frame is the CALL, and the part of the slot
under way with the time left of it (R34, R38). -/
inductive LinePhase where
  | idle
  | turnaround (node : NodeNo) (call : Bool) (left : Nat)
  | sending (node : NodeNo) (call : Bool) (frame : List Byte)
  | window (node : NodeNo) (call : Bool) (left : Nat)
  | receiving (node : NodeNo) (call : Bool) (left : Nat)
  deriving DecidableEq, Repr

/-- The FCL's own state (02 2.1, R32). -/
structure Fcl where
  nodes       : Vector Node 16
  outlets     : Vector Outlet 64
  callPointer : NodeNo
  roundTimer  : Timer
  pollList    : List NodeNo
  toPoll      : List NodeNo
  callDone    : Bool
  phase       : LinePhase
  deriving DecidableEq, Repr

/-! ## Frequency and Speed Unit (chapter 3) -/

/-- The shaft's direction (R59). -/
inductive Direction where
  | none | forward | reverse
  deriving DecidableEq, Repr

/-- The FSU's state (03 3.2, 3.5, 3.7, 3.8). The shaft speed is valid while the pickup fault is clear. -/
structure Fsu where
  captureCount : BitVec 32
  lastCrossing : Option (BitVec 32)
  reference    : Option (BitVec 32)
  gap          : Timer
  rejections   : Nat
  freq         : Nat
  freqValid    : Bool
  window       : Timer
  forward      : Nat
  reverse      : Nat
  revolution   : Int
  armed        : Bool
  badRun       : Nat
  goodRun      : Nat
  pickupFault  : Bool
  shaftSpeed   : Nat
  direction    : Direction
  arborCount   : Vector Nat 3
  arborSpeed   : Vector Nat 3
  slip         : Timer
  slipSpent    : Bool
  deriving DecidableEq, Repr

/-! ## Ballast Governor (chapter 4) -/

/-- The governor states (R67 to R69). -/
inductive GovState where
  | inactive | active | holding
  deriving DecidableEq, Repr

/-- The ballast stages. -/
inductive Stage where
  | a | b | c | d | trim
  deriving DecidableEq, Repr

/-- A set of banks (04 4.1). -/
structure Banks where
  a : Bool
  b : Bool
  c : Bool
  d : Bool
  deriving DecidableEq, Repr

/-- The health of a stage (R80). -/
inductive Health where
  | untested | healthy | faulted
  deriving DecidableEq, Repr

/-- The health of the five stages. -/
structure Healths where
  a    : Health
  b    : Health
  c    : Health
  d    : Health
  trim : Health
  deriving DecidableEq, Repr

/-- The governor's state (04 4.1): e, I, D, c, t, E, R under names of their own. -/
structure Bgv where
  state     : GovState
  err       : Int
  integ     : Nat
  demand    : Nat
  coarse    : Nat
  trim      : Nat
  effective : Nat
  reserve   : Nat
  target    : Banks
  switched  : Banks
  health    : Healths
  hold      : Timer
  deriving DecidableEq, Repr

/-! ## Reserve Unit (chapter 5) -/

/-- A holder of reserve (R86). -/
inductive Holder where
  | allotment (record : RecNo)
  | station (station : StationNo)
  deriving DecidableEq, Repr

/-- An entry of the reservation table (R86). -/
structure Reservation where
  holder : Holder
  amount : Nat
  deriving DecidableEq, Repr

/-- The RSV's state (R86, R96). `due` is the model's own: an event of R92 has occurred and the evaluation it
calls for has not been taken (log 11). -/
structure Rsv where
  table         : List Reservation
  allowanceUsed : Bool
  due           : Bool
  deriving DecidableEq, Repr

/-! ## Supply Ladder (chapter 6) -/

/-- An entry of the restoration watch (R112). -/
structure Restoration where
  record : RecNo
  rounds : Nat
  deriving DecidableEq, Repr

/-- The SLD's state (06, opening table). -/
structure Sld where
  step           : Timer
  pause          : Timer
  collapse1      : Timer
  collapse1Spent : Bool
  collapse2      : Timer
  collapse2Spent : Bool
  watch          : List Restoration
  deriving DecidableEq, Repr

/-! ## Saw Permit Unit (chapter 7) -/

/-- The station states (07 7.1). -/
inductive SawState where
  | idle | waiting | engaging | running | windingDown | lockedOut
  deriving DecidableEq, Repr

/-- The last outcomes (07 7.1). -/
inductive SawOutcome where
  | none | refusedPlant | refusedStop | waitExpired | abortStop | abortDip | abortVoltage | abortTimeout
  | abortPlant | abortCollapse | abortWaterShort | jammed
  deriving DecidableEq, Repr

/-- The record of one station (07 7.1). The clutch and the lamp follow it (R122, R136). -/
structure Station where
  state        : SawState
  startPressed : Bool
  stopOpen     : Bool
  rawStart     : Bool
  rawStop      : Bool
  startFilter  : Timer
  stopFilter   : Timer
  wait         : Timer
  engage       : Timer
  voltPending  : Bool
  dip          : Timer
  jam          : Timer
  refusal      : Timer
  outcome      : SawOutcome
  deriving DecidableEq, Repr

/-! ## Measurement Sequencer (chapter 8) -/

/-- The converter states (R141). -/
inductive MsqState where
  | calibrating | running | failed
  deriving DecidableEq, Repr

/-- What caused a conversion (08 8.3). -/
inductive Source where
  | none | routine | slot1 | slot2 | slot3 | slot4 | calibration
  deriving DecidableEq, Repr

/-- What the converter is doing. `completing` stands only inside the event of R143, between the completion and
its fifth step, which frees the converter. -/
inductive Activity where
  | free
  | converting (source : Source) (channel : ChannelNo)
  | completing
  deriving DecidableEq, Repr

/-- The reading states (R144). -/
inductive ReadingState where
  | absent | fresh | stale
  deriving DecidableEq, Repr

/-- An entry of the reading table with its window watch (08 8.3, 8.6). -/
structure Reading where
  raw     : Option Nat
  value   : Option Int
  state   : ReadingState
  timer   : Timer
  source  : Source
  alarm   : Bool
  outside : Nat
  inside  : Nat
  deriving DecidableEq, Repr

/-- Slot 1's pending set of the stage channels (R149): channels 5 to 9 under their stages' names. -/
structure StageSet where
  a    : Bool
  b    : Bool
  c    : Bool
  d    : Bool
  trim : Bool
  deriving DecidableEq, Repr

/-- The MSQ's state (R141, R145 to R155). -/
structure Msq where
  state         : MsqState
  secondAttempt : Bool
  conv          : Activity
  entries       : Vector Reading 16
  slot1         : StageSet
  slot2         : Bool
  slot3         : Bool
  slot4         : Option ChannelNo
  pointer       : Nat
  runCount      : Nat
  scan          : Timer
  deriving DecidableEq, Repr

/-! ## Water and Gate Controller (chapter 9) -/

/-- The plant states (09 9.1). -/
inductive PlantState where
  | standstill | runUp | onLine | waterShort | runDown | tripped
  deriving DecidableEq, Repr

/-- The gate move's states (R174). -/
inductive MoveState where
  | idle | stepping | checking | faulted
  deriving DecidableEq, Repr

/-- The gate direction line (R174). -/
inductive GateDirection where
  | none | open | close
  deriving DecidableEq, Repr

/-- The WGC's state (09). `pulse` measures the time to the next step pulse and `pulses` counts the pulses sent,
the model's view of the step output (log 26). -/
structure Wgc where
  plant       : PlantState
  gateTarget  : Nat
  emergency   : Bool
  move        : MoveState
  direction   : GateDirection
  timeout     : Timer
  pulse       : Timer
  pulses      : Nat
  sync        : Timer
  runup       : Timer
  short       : Timer
  recovery    : Timer
  level       : Timer
  levelLost   : Timer
  freqOver    : Timer
  shaftOver   : Timer
  rackDiff    : Option Int
  netHead     : Option Int
  rackAlarm   : Bool
  residual    : Bool
  waste       : Bool
  evalPending : Bool
  wasteHeld   : Bool
  deriving DecidableEq, Repr

/-! ## Service Link port (chapter 10) and the settings (chapter 11) -/

/-- PICKUP_MODE (03 3.5). -/
inductive PickupMode where
  | single | quadrature
  deriving DecidableEq, Repr

/-- The working settings, in the order of 11.6. Per-stage, per-station and per-channel settings are vectors. -/
structure Settings where
  fset          : Nat
  kp            : Nat
  ki            : Nat
  ballastFull   : Nat
  stageAmps     : Vector Nat 5
  voltNominal   : Nat
  shaftTeeth    : Nat
  shaftNominal  : Nat
  pickupMode    : PickupMode
  arborNominal  : Vector Nat 3
  shedOffset    : Nat
  shedDelay     : Nat
  stepInterval  : Nat
  restoreBand   : Nat
  restoreMargin : Nat
  holdoff       : Nat
  tripCount     : Nat
  tripCooloff   : Nat
  sawDraw       : Vector Nat 3
  sawMargin     : Nat
  engageDip     : Nat
  engageTime    : Nat
  sawWait       : Nat
  inputFilter   : Nat
  roundPeriod   : Nat
  scanInterval  : Nat
  runLength     : Nat
  routine       : List ChannelNo
  offset        : Vector Nat 16
  gain          : Vector Nat 16
  low           : Vector Int 16
  high          : Vector Int 16
  count         : Vector Nat 16
  targetLevel   : Nat
  deadband      : Nat
  startLevel    : Nat
  stopLevel     : Nat
  residualLevel : Nat
  headMin       : Nat
  gateFloor     : Nat
  gateCeiling   : Nat
  gateStep      : Nat
  levelInterval : Nat
  runupGate     : Nat
  runupTime     : Nat
  wasteLevel    : Nat
  shortMargin   : Nat
  rackAlarm     : Nat
  rackTrip      : Nat
  deriving DecidableEq, Repr

/-- The default of every setting (11.6; LOW, HIGH and COUNT as 8.6 gives). -/
def Settings.defaults : Settings :=
  { fset := 50000, kp := 300, ki := 40, ballastFull := 24000, stageAmps := #v[480, 240, 120, 60, 60],
    voltNominal := 2300, shaftTeeth := 60, shaftNominal := 600, pickupMode := .quadrature,
    arborNominal := #v[200, 200, 200], shedOffset := 800, shedDelay := 20, stepInterval := 3,
    restoreBand := 300, restoreMargin := 300, holdoff := 10, tripCount := 3, tripCooloff := 60,
    sawDraw := #v[9000, 4000, 2500], sawMargin := 500, engageDip := 48500, engageTime := 8, sawWait := 120,
    inputFilter := 16, roundPeriod := 500, scanInterval := 100, runLength := 0,
    routine := [0, 1, 2, 3, 4, 5, 6, 7, 8, 9, 10, 11, 12, 13, 14, 15],
    offset := Vector.replicate 16 0, gain := Vector.replicate 16 1024,
    low := (Vector.replicate 16 (-32767)).set 13 220,
    high := (((Vector.replicate 16 32767).set 10 850).set 11 850).set 15 1100,
    count := Vector.replicate 16 3,
    targetLevel := 1200, deadband := 20, startLevel := 1000, stopLevel := 700, residualLevel := 40,
    headMin := 1500, gateFloor := 150, gateCeiling := 1000, gateStep := 10, levelInterval := 10,
    runupGate := 400, runupTime := 120, wasteLevel := 3000, shortMargin := 1000, rackAlarm := 80,
    rackTrip := 200 }

/-- The event flags (10 10.5), in the order of their bits (11.3). -/
inductive Flag where
  | restarted | trip | runDown | waterShort | residualShort | rackAlarm | levelLost | bankFault
  | pickupFault | beltSlip | sawLocked | nodeJoined | nodeSilent | nodeDisobeys | recordCorrected | recordSuspect
  | window | batteryLow | dieHot | calFault | settingsDefaulted
  deriving DecidableEq, Repr

/-- The receiver's states (R178). -/
inductive RxState where
  | hunting | collecting
  deriving DecidableEq, Repr

/-- The store state (10 10.3); STORING keeps the values fixed at its start (R184). -/
inductive StoreState where
  | idle
  | storing (fixed : Settings)
  deriving DecidableEq, Repr

/-- The SVL's state (10). `flags` holds the event flags at the bits 11.3 gives; `reply` is the reply frame in the
transmitter. -/
structure Svl where
  rx            : RxState
  buffer        : List Byte
  bytesDue      : Option Nat
  gap           : Timer
  serving       : Bool
  reply         : Option (List Byte)
  restartCalled : Bool
  startedUp     : Bool
  settings      : Settings
  defaulted     : Bool
  unstored      : Bool
  store         : StoreState
  flags         : BitVec 21
  windowSet     : BitVec 16
  deriving DecidableEq, Repr

/-! ## The whole part -/

/-- The 2408: its non-volatile array, its blocks, the reset pin (`held`), and the model's own counter of free
values (log 17) and queue of waiting commands. -/
structure State where
  nva     : Nva
  atb     : Vector Working 64
  fcl     : Fcl
  fsu     : Fsu
  bgv     : Bgv
  rsv     : Rsv
  sld     : Sld
  spu     : Vector Station 3
  msq     : Msq
  wgc     : Wgc
  svl     : Svl
  held    : Bool
  free    : Nat
  pending : List Instr
  deriving DecidableEq, Repr

/-- Why a step stops with a fault: never. The spec gives the 2408 no event that stops it (log 34). -/
inductive Fault where
  deriving DecidableEq, Repr

/-- Why a step is refused. -/
inductive Refusal where
  /-- Raised by an arm of exec for a command with no meaning yet; safe. No arm raises it. -/
  | notModelled (mnemonic : String)
  deriving DecidableEq, Repr

/-! ## Reset -/

/-- The non-volatile array of a new installation (log 15): every slot VACANT, no binding, no trip cause and no
lock-out, and a settings page that was never written, all ones (R193). -/
def Nva.factory : Nva :=
  { slots := Vector.replicate 64 Slot.vacant
    map := Vector.replicate 64 ⟨none, .clean⟩
    plantRecord := ⟨{ cause := none, lockouts := Vector.replicate 3 false }, .clean⟩
    page := List.replicate 283 0xFF#8 }

/-- The node table and round state after a reset (R32). -/
def Fcl.reset : Fcl :=
  { nodes := Vector.replicate 16
      { state := .absent, missed := 0, replied := false, valid := 0, discarded := 0, failsafe := 0 }
    outlets := Vector.replicate 64 { closed := false, essential := false, answered := false }
    callPointer := 0, roundTimer := none, pollList := [], toPoll := [], callDone := false, phase := .idle }

/-- The FSU after a reset (R65); `window` is 100 ms in counts. -/
def Fsu.reset (mode : PickupMode) : Fsu :=
  { captureCount := 0, lastCrossing := none, reference := none, gap := none, rejections := 0, freq := 50000,
    freqValid := false, window := some 800000, forward := 0, reverse := 0, revolution := 0, armed := false,
    badRun := 0, goodRun := 0, pickupFault := false, shaftSpeed := 0,
    direction := match mode with | .quadrature => .forward | .single => .none,
    arborCount := Vector.replicate 3 0, arborSpeed := Vector.replicate 3 0, slip := none, slipSpent := false }

/-- The empty set of banks. -/
def Banks.empty : Banks := { a := false, b := false, c := false, d := false }

/-- The governor after a reset (R85). -/
def Bgv.reset : Bgv :=
  { state := .inactive, err := 0, integ := 0, demand := 0, coarse := 0, trim := 0, effective := 0, reserve := 0,
    target := .empty, switched := .empty,
    health := { a := .untested, b := .untested, c := .untested, d := .untested, trim := .untested }, hold := none }

/-- The Reserve Unit after a reset (R99). -/
def Rsv.reset : Rsv := { table := [], allowanceUsed := false, due := false }

/-- The Supply Ladder after a reset (R119). -/
def Sld.reset : Sld :=
  { step := none, pause := none, collapse1 := none, collapse1Spent := false, collapse2 := none,
    collapse2Spent := false, watch := [] }

/-- A station after a reset with both pins at rest and no lock-out (R121, R137; log 16). -/
def Station.rest : Station :=
  { state := .idle, startPressed := false, stopOpen := false, rawStart := false, rawStop := false,
    startFilter := none, stopFilter := none, wait := none, engage := none, voltPending := false, dip := none,
    jam := none, refusal := none, outcome := .none }

/-- An entry of the reading table after a reset (R155). -/
def Reading.reset : Reading :=
  { raw := none, value := none, state := .absent, timer := none, source := .none, alarm := false, outside := 0,
    inside := 0 }

/-- The Measurement Sequencer after a reset (R155). -/
def Msq.reset : Msq :=
  { state := .calibrating, secondAttempt := false, conv := .free, entries := Vector.replicate 16 Reading.reset,
    slot1 := { a := false, b := false, c := false, d := false, trim := false }, slot2 := false, slot3 := false,
    slot4 := none, pointer := 1, runCount := 0, scan := none }

/-- The Water and Gate Controller after a reset (R159): TRIPPED with a stored cause, else STANDSTILL; a gate move
toward 0 is started with its 20 s timeout, and with channel 3 ABSENT it has no direction (R174). -/
def Wgc.reset (tripped : Bool) : Wgc :=
  { plant := if tripped then .tripped else .standstill, gateTarget := 0, emergency := tripped, move := .stepping,
    direction := .none, timeout := some 160000000, pulse := none, pulses := 0, sync := none, runup := none,
    short := none, recovery := none, level := none, levelLost := none, freqOver := none, shaftOver := none,
    rackDiff := none, netHead := none, rackAlarm := false, residual := false, waste := false,
    evalPending := false, wasteHeld := false }

/-- The 2408 right after the power-on reset of a new installation, its start-up work done up to the
START_UP_COMPLETE event (R185, R189, R190; 10, worked sequence; log 15): the page loads as defaults and
SETTINGS_DEFAULTED (bit 20) is latched. -/
def State.reset : State :=
  { nva := Nva.factory
    atb := Vector.replicate 64 Working.zero
    fcl := Fcl.reset
    fsu := Fsu.reset .quadrature
    bgv := Bgv.reset
    rsv := Rsv.reset
    sld := Sld.reset
    spu := Vector.replicate 3 Station.rest
    msq := Msq.reset
    wgc := Wgc.reset false
    svl := { rx := .hunting, buffer := [], bytesDue := none, gap := none, serving := false, reply := none,
             restartCalled := false, startedUp := false, settings := Settings.defaults, defaulted := true,
             unstored := false, store := .idle, flags := 0x100000#21, windowSet := 0 }
    held := false
    free := 0
    pending := [] }

end Sys2Proof.Machine
end

