-- ==== Sys2Proof/Machine/Access.lean ====
section
/-! DEFINITION. Reading and updating the state: one update for each block, the accessors of records, outlets,
nodes, stations, readings and settings, and the lengths of timers. -/

namespace Sys2Proof.Machine

/-! ## One update for each block -/

/-- Update the non-volatile array. -/
def State.modNva (f : Nva → Nva) (s : State) : State := { s with nva := f s.nva }

/-- Update the working fields of the records. -/
def State.modAtb (f : Vector Working 64 → Vector Working 64) (s : State) : State := { s with atb := f s.atb }

/-- Update the Feeder Chain Link. -/
def State.modFcl (f : Fcl → Fcl) (s : State) : State := { s with fcl := f s.fcl }

/-- Update the Frequency and Speed Unit. -/
def State.modFsu (f : Fsu → Fsu) (s : State) : State := { s with fsu := f s.fsu }

/-- Update the Ballast Governor. -/
def State.modBgv (f : Bgv → Bgv) (s : State) : State := { s with bgv := f s.bgv }

/-- Update the Reserve Unit. -/
def State.modRsv (f : Rsv → Rsv) (s : State) : State := { s with rsv := f s.rsv }

/-- Update the Supply Ladder. -/
def State.modSld (f : Sld → Sld) (s : State) : State := { s with sld := f s.sld }

/-- Update the Saw Permit Unit. -/
def State.modSpu (f : Vector Station 3 → Vector Station 3) (s : State) : State := { s with spu := f s.spu }

/-- Update the Measurement Sequencer. -/
def State.modMsq (f : Msq → Msq) (s : State) : State := { s with msq := f s.msq }

/-- Update the Water and Gate Controller. -/
def State.modWgc (f : Wgc → Wgc) (s : State) : State := { s with wgc := f s.wgc }

/-- Update the Service Link port. -/
def State.modSvl (f : Svl → Svl) (s : State) : State := { s with svl := f s.svl }

/-! ## Timers -/

/-- Counts of the 8 MHz reference in `n` microseconds, milliseconds and seconds (R50: one count is 125 ns). -/
def micros (n : Nat) : Nat := n * 8

/-- Counts in `n` milliseconds. -/
def millis (n : Nat) : Nat := n * 8000

/-- Counts in `n` seconds. -/
def seconds (n : Nat) : Nat := n * 8000000

/-- Whether a timer runs. -/
def Timer.running (t : Timer) : Bool := t.isSome

/-- Start a timer for `n` counts if it is stopped; a running timer runs on. -/
def Timer.startIfStopped (n : Nat) : Timer → Timer
  | none => some n
  | some k => some k

/-- "When the condition is found to hold and the timer is stopped, the timer is started; when it is found not to
hold, the timer is stopped" (R107, R129, R134, R161 to R163, R167). -/
def Timer.follow (holds : Bool) (n : Nat) (t : Timer) : Timer :=
  if holds then Timer.startIfStopped n t else none

/-- The time left in whole milliseconds, truncated, 0 when stopped (11.7). -/
def Timer.leftMillis : Timer → Nat
  | none => 0
  | some n => n / 8000

/-! ## Settings -/

/-- The working settings. -/
abbrev State.set (s : State) : Settings := s.svl.settings

/-! ## Indices -/

/-- All record slots in number order. -/
def allRecords : List RecNo := List.finRange 64

/-- All node entries in address order. -/
def allNodes : List NodeNo := List.finRange 16

/-- The four outlets of a node in order. -/
def allOutletNos : List OutletNo := [0, 1, 2, 3]

/-- The three stations in order. -/
def allStations : List StationNo := [0, 1, 2]

/-- All channels in order. -/
def allChannels : List ChannelNo := List.finRange 16

/-- The place of an outlet in the tables of 64. -/
def OutletId.index (o : OutletId) : Fin 64 := ⟨o.node.val * 4 + o.outlet.val, by omega⟩

/-- The four outlets of a node. -/
def outletsOf (a : NodeNo) : List OutletId := allOutletNos.map fun k => ⟨a, k⟩

/-- All 64 outlets. -/
def allOutlets : List OutletId := allNodes.flatMap outletsOf

/-! ## Records -/

/-- The terms of a record, as stored. -/
def State.terms (s : State) (n : RecNo) : Terms := s.nva.slots[n].terms.value

/-- The account of a record, as stored. -/
def State.account (s : State) (n : RecNo) : Account := s.nva.slots[n].account.value

/-- The working fields of a record. -/
def State.work (s : State) (n : RecNo) : Working := s.atb[n]

/-- The state of a record, as stored. -/
def State.recState (s : State) (n : RecNo) : RecState := (s.terms n).state

/-- Rewrite the terms section of a record with a fresh check code (R1; log 7). -/
def State.modTerms (n : RecNo) (f : Terms → Terms) (s : State) : State :=
  s.modNva fun v => { v with
    slots := v.slots.set n { v.slots[n] with terms := ⟨f v.slots[n].terms.value, .clean⟩ } }

/-- Rewrite the account section of a record with a fresh check code (R1; log 7). -/
def State.modAccount (n : RecNo) (f : Account → Account) (s : State) : State :=
  s.modNva fun v => { v with
    slots := v.slots.set n { v.slots[n] with account := ⟨f v.slots[n].account.value, .clean⟩ } }

/-- Rewrite a whole slot. -/
def State.setSlot (n : RecNo) (x : Slot) (s : State) : State :=
  s.modNva fun v => { v with slots := v.slots.set n x }

/-- Write working fields of a record (R1: without a check code). -/
def State.modWork (n : RecNo) (f : Working → Working) (s : State) : State :=
  s.modAtb fun w => w.set n (f w[n])

/-! ## The bound-record map -/

/-- The record the map names for an outlet, as stored (01 1.2). -/
def State.boundTo (s : State) (o : OutletId) : Option RecNo := s.nva.map[o.index].value

/-- Write an entry of the map with a fresh check code. -/
def State.setBinding (o : OutletId) (r : Option RecNo) (s : State) : State :=
  s.modNva fun v => { v with map := v.map.set o.index ⟨r, .clean⟩ }

/-- The outlet the map names for a record's number, if any (R2, R29). -/
def State.mapOutlet (s : State) (n : RecNo) : Option OutletId :=
  allOutlets.find? fun o => s.boundTo o == some n

/-- A record's outlet: the one in its terms; for a SUSPECT record the one the map names (R2). -/
def State.outletOf (s : State) (n : RecNo) : Option OutletId :=
  if s.recState n = .suspect then s.mapOutlet n else (s.terms n).outlet

/-! ## Nodes and outlets -/

/-- A node's entry. -/
def State.node (s : State) (a : NodeNo) : Node := s.fcl.nodes[a]

/-- Update a node's entry. -/
def State.modNode (a : NodeNo) (f : Node → Node) (s : State) : State :=
  s.modFcl fun l => { l with nodes := l.nodes.set a (f l.nodes[a]) }

/-- The order and marks of an outlet. -/
def State.outlet (s : State) (o : OutletId) : Outlet := s.fcl.outlets[o.index]

/-- Update the order and marks of an outlet. -/
def State.modOutlet (o : OutletId) (f : Outlet → Outlet) (s : State) : State :=
  s.modFcl fun l => { l with outlets := l.outlets.set o.index (f l.outlets[o.index]) }

/-! ## Stations, readings, plant record -/

/-- A station's record. -/
def State.station (s : State) (i : StationNo) : Station := s.spu[i]

/-- Update a station's record. -/
def State.modStation (i : StationNo) (f : Station → Station) (s : State) : State :=
  s.modSpu fun v => v.set i (f v[i])

/-- An entry of the reading table. -/
def State.reading (s : State) (c : ChannelNo) : Reading := s.msq.entries[c]

/-- Update an entry of the reading table. -/
def State.modReading (c : ChannelNo) (f : Reading → Reading) (s : State) : State :=
  s.modMsq fun m => { m with entries := m.entries.set c (f m.entries[c]) }

/-- The value of a channel when its entry is FRESH. -/
def State.freshValue (s : State) (c : ChannelNo) : Option Int :=
  if (s.reading c).state = .fresh then (s.reading c).value else none

/-- The plant record, as stored. -/
def State.plantRecord (s : State) : PlantRecord := s.nva.plantRecord.value

/-- Rewrite the whole plant record and its check code (R158). -/
def State.modPlantRecord (f : PlantRecord → PlantRecord) (s : State) : State :=
  s.modNva fun v => { v with plantRecord := ⟨f v.plantRecord.value, .clean⟩ }

/-! ## Published values -/

/-- The plant state. -/
def State.plant (s : State) : PlantState := s.wgc.plant

/-- Whether the plant is ON-LINE or WATER-SHORT. -/
def State.supplying (s : State) : Bool := s.plant = .onLine || s.plant = .waterShort

/-- Whether the shaft speed is valid: while the pickup fault is clear (03 3.5, R61). -/
def State.shaftValid (s : State) : Bool := !s.fsu.pickupFault

/-- The power held by reservations, in W. -/
def State.reserved (s : State) : Nat := (s.rsv.table.map (·.amount)).sum

/-- The available reserve A: R less the amounts of the table, signed (R88). -/
def State.available (s : State) : Int := (s.bgv.reserve : Int) - (s.reserved : Int)

/-- Ask for an evaluation of the head claim: an event of R92 has occurred. -/
def State.promptEvaluation (s : State) : State := s.modRsv fun r => { r with due := true }

end Sys2Proof.Machine
end

