-- ==== Sys2Proof/Machine/Formats.lean ====
section
/-! DEFINITION. Chapter 11's bytes: byte order, the CRC-16, the code tables, and the frame of a reply. -/

namespace Sys2Proof.Machine

/-! ## Byte order (11, opening paragraph) -/

/-- One byte of a quantity. -/
def byte1 (n : Nat) : List Byte := [BitVec.ofNat 8 n]

/-- Two bytes, most significant first. -/
def byte2 (n : Nat) : List Byte := [BitVec.ofNat 8 (n / 256), BitVec.ofNat 8 n]

/-- Three bytes, most significant first. -/
def byte3 (n : Nat) : List Byte := [BitVec.ofNat 8 (n / 65536), BitVec.ofNat 8 (n / 256), BitVec.ofNat 8 n]

/-- Two bytes of a signed quantity in two's complement. -/
def signed2 (v : Int) : List Byte := byte2 (BitVec.ofInt 16 v).toNat

/-- Four bytes of a signed quantity in two's complement. -/
def signed4 (v : Int) : List Byte :=
  let n := (BitVec.ofInt 32 v).toNat
  byte2 (n / 65536) ++ byte2 n

/-- Two bytes read back, most significant first. -/
def half (hi lo : Byte) : Half := hi ++ lo

/-- A byte of marks, bit 0 first. -/
def marks (bits : List Bool) : Nat := bits.foldr (fun b n => b.toNat + 2 * n) 0

/-! ## The CRC-16 (R191) -/

/-- One bit of the CRC: shift left, and take in the polynomial 0x1021 when the bit shifted out is set. -/
def crcBit (c : BitVec 16) : BitVec 16 := if c.msb then (c <<< 1) ^^^ 0x1021#16 else c <<< 1

/-- One byte of the CRC, most significant bit first. -/
def crcByte (c : BitVec 16) (b : Byte) : BitVec 16 :=
  crcBit (crcBit (crcBit (crcBit (crcBit (crcBit (crcBit (crcBit (c ^^^ (b ++ 0#8)))))))))

/-- The CRC-16 of bytes in order: polynomial 0x1021, start 0xFFFF, no reflection, no final inversion (R191). -/
def crc16 (bytes : List Byte) : BitVec 16 := bytes.foldl crcByte 0xFFFF#16

/-- The CRC bytes as sent: high byte first (R191). -/
def crcBytes (bytes : List Byte) : List Byte := byte2 (crc16 bytes).toNat

/-! ## Codes (11.3) -/

/-- The statuses (R181). -/
inductive Status where
  | done | busy | badKind | badLength | badField | noRecord | noSlot | outletTaken | wrongState | tooEarly
  deriving DecidableEq, Repr

/-- Status codes. -/
def Status.code : Status → Nat
  | .done => 0 | .busy => 1 | .badKind => 2 | .badLength => 3 | .badField => 4 | .noRecord => 5 | .noSlot => 6
  | .outletTaken => 7 | .wrongState => 8 | .tooEarly => 9

/-- Allotment state codes. -/
def RecState.code : RecState → Nat
  | .vacant => 0 | .dormant => 1 | .shed => 2 | .restoring => 3 | .live => 4 | .tripped => 5 | .quotaOut => 6
  | .retiring => 7 | .suspect => 8

/-- Class codes of allotments (WORKS, code 5, is shown for stations alone). -/
def AllotClass.code : AllotClass → Nat
  | .essential => 1 | .publicLoad => 2 | .domestic => 3 | .deferrable => 4

/-- The class code WORKS. -/
def worksCode : Nat := 5

/-- Shed cause codes. -/
def ShedCause.code : ShedCause → Nat
  | .ladder => 1 | .collapse => 2 | .waterShort => 3 | .plant => 4 | .unexpectedOpen => 5 | .restoreFail => 6
  | .suspended => 7

/-- Node state codes. -/
def NodeState.code : NodeState → Nat
  | .absent => 0 | .joining => 1 | .present => 2 | .silent => 3

/-- Plant state codes. -/
def PlantState.code : PlantState → Nat
  | .standstill => 0 | .runUp => 1 | .onLine => 2 | .waterShort => 3 | .runDown => 4 | .tripped => 5

/-- Trip cause codes; 0 is none. -/
def TripCause.code : TripCause → Nat
  | .overspeed => 1 | .reverse => 2 | .bearingHot => 3 | .gateFault => 4 | .runupFail => 5 | .freqLost => 6
  | .recordLost => 7

/-- Governor state codes. -/
def GovState.code : GovState → Nat
  | .inactive => 0 | .active => 1 | .holding => 2

/-- Stage health codes. -/
def Health.code : Health → Nat
  | .untested => 0 | .healthy => 1 | .faulted => 2

/-- Saw station state codes. -/
def SawState.code : SawState → Nat
  | .idle => 0 | .waiting => 1 | .engaging => 2 | .running => 3 | .windingDown => 4 | .lockedOut => 5

/-- Last outcome codes. -/
def SawOutcome.code : SawOutcome → Nat
  | .none => 0 | .refusedPlant => 1 | .refusedStop => 2 | .waitExpired => 3 | .abortStop => 4 | .abortDip => 5
  | .abortVoltage => 6 | .abortTimeout => 7 | .abortPlant => 8 | .abortCollapse => 9 | .abortWaterShort => 10
  | .jammed => 11

/-- The lamp patterns (R136). -/
inductive Lamp where
  | off | doubleBlink | slowBlink | fastBlink | steady | tripleBlink
  deriving DecidableEq, Repr

/-- Lamp pattern codes. -/
def Lamp.code : Lamp → Nat
  | .off => 0 | .doubleBlink => 1 | .slowBlink => 2 | .fastBlink => 3 | .steady => 4 | .tripleBlink => 5

/-- Converter state codes. -/
def MsqState.code : MsqState → Nat
  | .calibrating => 0 | .running => 1 | .failed => 2

/-- Reading state codes. -/
def ReadingState.code : ReadingState → Nat
  | .absent => 0 | .fresh => 1 | .stale => 2

/-- Source codes. -/
def Source.code : Source → Nat
  | .none => 0 | .routine => 1 | .slot1 => 2 | .slot2 => 3 | .slot3 => 4 | .slot4 => 5 | .calibration => 6

/-- Gate move state codes. -/
def MoveState.code : MoveState → Nat
  | .idle => 0 | .stepping => 1 | .checking => 2 | .faulted => 3

/-- Gate direction codes. -/
def GateDirection.code : GateDirection → Nat
  | .none => 0 | .open => 1 | .close => 2

/-- Shaft direction codes. -/
def Direction.code : Direction → Nat
  | .none => 0 | .forward => 1 | .reverse => 2

/-- Why the head waits (R98). -/
inductive Wait where
  | none | pausedFrequency | pausedBand | pausedEngaging | pausedStep | shortOfReserve | tableFull | allowanceUsed
  deriving DecidableEq, Repr

/-- Codes of the reason the head waits. -/
def Wait.code : Wait → Nat
  | .none => 0 | .pausedFrequency => 1 | .pausedBand => 2 | .pausedEngaging => 3 | .pausedStep => 4
  | .shortOfReserve => 5 | .tableFull => 6 | .allowanceUsed => 7

/-- Holder and claim kind codes; 0 is none. -/
def Holder.kindCode : Holder → Nat
  | .allotment _ => 1
  | .station _ => 2

/-- Record numbers are 1..64 and station numbers 1..3 outside. -/
def Holder.number : Holder → Nat
  | .allotment n => n.val + 1
  | .station i => i.val + 1

/-- A record's number as a byte value. -/
def RecNo.number (n : RecNo) : Nat := n.val + 1

/-- A bank set in one byte (11.3). -/
def Banks.code (b : Banks) : Nat := marks [b.a, b.b, b.c, b.d]

/-- The lock-out marks in one byte (11.3). -/
def lockoutCode (v : Vector Bool 3) : Nat := marks [v[0], v[1], v[2]]

/-- An outlet's marks in one byte: bit 0 order closed, bit 1 essential, bit 2 answered (11.4, 11.5, 11.7). -/
def Outlet.code (o : Outlet) : Nat := marks [o.closed, o.essential, o.answered]

/-! ## The reply frame (11.2) -/

/-- The start byte of a Service Link frame. -/
def startByte : Byte := 0xA5

/-- An owner's answer: a status and the payload after it. -/
structure Answer where
  status  : Status
  payload : List Byte
  deriving DecidableEq, Repr

/-- A reply with a status alone. -/
def Answer.of (st : Status) : Answer := ⟨st, []⟩

/-- A DONE reply with a payload. -/
def Answer.done (payload : List Byte) : Answer := ⟨.done, payload⟩

/-- The reply frame to a request of a kind: start, length, the kind echoed, the status and the payload, and the
CRC-16 over length, kind and payload (10, opening; 11.2; R191). -/
def replyFrame (kind : Byte) (a : Answer) : List Byte :=
  let body := byte1 (a.payload.length + 1) ++ [kind] ++ byte1 a.status.code ++ a.payload
  [startByte] ++ body ++ crcBytes body

end Sys2Proof.Machine
end

