-- ==== Sys2Proof/Machine/Flags.lean ====
section
/-! DEFINITION. The event flags, the WINDOW channel set and the ATTN output (R186, R187; 11.3). -/

namespace Sys2Proof.Machine

/-- The bit of a flag, counted from bit 0 of the first flag byte (11.3). -/
def Flag.bit : Flag → Nat
  | .restarted => 0
  | .trip => 1
  | .runDown => 2
  | .waterShort => 3
  | .residualShort => 4
  | .rackAlarm => 5
  | .levelLost => 6
  | .bankFault => 7
  | .pickupFault => 8
  | .beltSlip => 9
  | .sawLocked => 10
  | .nodeJoined => 11
  | .nodeSilent => 12
  | .nodeDisobeys => 13
  | .recordCorrected => 14
  | .recordSuspect => 15
  | .window => 16
  | .batteryLow => 17
  | .dieHot => 18
  | .calFault => 19
  | .settingsDefaulted => 20

/-- Whether a flag is set. -/
def State.flag (s : State) (f : Flag) : Bool := s.svl.flags.getLsbD f.bit

/-- Latch a flag: a flag already set stays set (R186). -/
def State.latch (f : Flag) (s : State) : State :=
  s.modSvl fun v => { v with flags := v.flags ||| BitVec.twoPow 21 f.bit }

/-- Latch WINDOW and add a channel to its set (R186). -/
def State.latchWindow (c : ChannelNo) (s : State) : State :=
  (s.latch .window).modSvl fun v => { v with windowSet := v.windowSet ||| BitVec.twoPow 16 c.val }

/-- Clear every flag and the WINDOW channel set (R186). -/
def State.clearFlags (s : State) : State := s.modSvl fun v => { v with flags := 0, windowSet := 0 }

/-- The ATTN output: asserted while at least one flag is set, but released while the reset pin is held and during
the start-up work (R187). -/
def State.attn (s : State) : Bool := s.svl.startedUp && !s.held && s.svl.flags != 0

end Sys2Proof.Machine
end

