-- ==== Sys2Proof/Machine/Slots.lean ====
section
/-! DEFINITION. The converter's priority slots and its arbiter (08 8.5, R147 to R150). -/

namespace Sys2Proof.Machine

/-- The current channel of a stage: 5 for A to 9 for trim (R79). -/
def Stage.channel : Stage → ChannelNo
  | .a => 5 | .b => 6 | .c => 7 | .d => 8 | .trim => 9

/-- The stage whose current a channel carries. -/
def stageOf (c : ChannelNo) : Option Stage :=
  match c.val with
  | 5 => some .a
  | 6 => some .b
  | 7 => some .c
  | 8 => some .d
  | 9 => some .trim
  | _ => none

/-- Whether slot 1's set holds a stage's channel. -/
def StageSet.has (x : StageSet) : Stage → Bool
  | .a => x.a | .b => x.b | .c => x.c | .d => x.d | .trim => x.trim

/-- Slot 1's set with one stage's channel set present or absent. -/
def StageSet.put (x : StageSet) (v : Bool) : Stage → StageSet
  | .a => { x with a := v }
  | .b => { x with b := v }
  | .c => { x with c := v }
  | .d => { x with d := v }
  | .trim => { x with trim := v }

/-- The lowest channel in slot 1's set (R147, R149). -/
def StageSet.lowest (x : StageSet) : Option Stage :=
  if x.a then some .a else if x.b then some .b else if x.c then some .c else if x.d then some .d
  else if x.trim then some .trim else none

/-- The channel of the list entry at the routine pointer (R146). The pointer counts entries from 1. -/
def routineChannel (list : List ChannelNo) (pointer : Nat) : ChannelNo := list.getD (pointer - 1) 0

/-- Whether a slot's conversion is under way. -/
def Msq.convertingFor (m : Msq) (src : Source) : Bool :=
  match m.conv with
  | .converting x _ => x = src
  | _ => false

/-- The arbiter (R147): with the converter RUNNING and free, the first of slot 1's lowest channel, slot 2, slot 3,
slot 4 and a routine run in progress; with none of them the converter stays free. Slots 2 to 4 stop being pending
when their conversion begins (R150, R151). -/
def Msq.arbitrate (list : List ChannelNo) (m : Msq) : Msq :=
  if m.state = .running ∧ m.conv = .free then
    match m.slot1.lowest with
    | some g => { m with conv := .converting .slot1 g.channel }
    | none =>
      if m.slot2 then { m with slot2 := false, conv := .converting .slot2 3 }
      else if m.slot3 then { m with slot3 := false, conv := .converting .slot3 4 }
      else match m.slot4 with
        | some c => { m with slot4 := none, conv := .converting .slot4 c }
        | none =>
          if m.runCount > 0 then { m with conv := .converting .routine (routineChannel list m.pointer) }
          else m
  else m

/-- A slot's trigger abandons a routine conversion at once (R148). -/
def Msq.abandonRoutine (m : Msq) : Msq :=
  if m.convertingFor .routine then { m with conv := .free } else m

/-- A trigger of slot 1 with a stage's channel (R149): the channel joins the set unless it is there already. Outside
RUNNING it is ignored (R141). -/
def State.triggerStage (g : Stage) (s : State) : State :=
  s.modMsq fun m =>
    if m.state = .running ∧ m.slot1.has g = false then
      ({ m with slot1 := m.slot1.put true g }).abandonRoutine.arbitrate s.set.routine
    else m

/-- A trigger of slot 2, the gate check (R150). -/
def State.triggerGate (s : State) : State :=
  s.modMsq fun m =>
    if m.state = .running ∧ m.slot2 = false ∧ m.convertingFor .slot2 = false then
      ({ m with slot2 := true }).abandonRoutine.arbitrate s.set.routine
    else m

/-- A trigger of slot 3, the voltage check (R150). -/
def State.triggerVoltage (s : State) : State :=
  s.modMsq fun m =>
    if m.state = .running ∧ m.slot3 = false ∧ m.convertingFor .slot3 = false then
      ({ m with slot3 := true }).abandonRoutine.arbitrate s.set.routine
    else m

/-- Slot 4 made pending for a channel (R151). -/
def State.triggerSample (c : ChannelNo) (s : State) : State :=
  s.modMsq fun m => ({ m with slot4 := some c }).abandonRoutine.arbitrate s.set.routine

end Sys2Proof.Machine
end

