-- ==== Sys2Proof/Machine/Ops.lean ====
section
/-! DEFINITION. The named operations that the rules share: orders of outlets, changes of record state, the quota
law, the shed, the check codes, reservations, and the changes of saw stations that other blocks hand in. -/

namespace Sys2Proof.Machine

/-! ## Outlet orders (R3, R33) -/

/-- Order an outlet open and clear its essential mark. -/
def State.openOutlet (o : OutletId) (s : State) : State :=
  s.modOutlet o fun x => { x with closed := false, essential := false }

/-- Order an outlet closed with the essential mark as given (R112). -/
def State.closeOutlet (o : OutletId) (essential : Bool) (s : State) : State :=
  s.modOutlet o fun x => { x with closed := true, essential := essential }

/-- Order a record's outlet open (R3). -/
def State.openRecord (n : RecNo) (s : State) : State :=
  match s.outletOf n with
  | some o => s.openOutlet o
  | none => s

/-- Order every outlet in the node table open and clear every essential mark (R117, R118). -/
def State.openEveryOutlet (s : State) : State :=
  s.modFcl fun l => { l with outlets := l.outlets.map fun x => { x with closed := false, essential := false } }

/-! ## Reservations and the restoration watch (R87) -/

/-- Whether the table holds an entry of a holder. -/
def State.holds (h : Holder) (s : State) : Bool := s.rsv.table.any fun e => e.holder = h

/-- Remove a holder's entry; the removal is an evaluation event (R87, R92). -/
def State.dropReservation (h : Holder) (s : State) : State :=
  if s.holds h then
    s.modRsv fun r => { r with table := r.table.filter fun e => e.holder ≠ h, due := true }
  else s

/-- Remove a record's restoration-watch entry (R112). -/
def State.dropRestoration (n : RecNo) (s : State) : State :=
  s.modSld fun l => { l with watch := l.watch.filter fun e => e.record ≠ n }

/-! ## Changes of record state -/

/-- What every departure from a record's present state does: from LIVE the live timer, over-cap run and open run
become 0 (R24, R25, R106); from SHED the hold-off (R105); from TRIPPED the cool-off (R4); from RESTORING the watch
entry and the reservation go (R87, R102). Leaving SHED changes the claim list (R92). The state left is the one the stored
section reads as: where a rule acts on a record without reading it and its terms section is lost, a reservation that it
holds may so stand (the model's choice, log 44). -/
def State.leave (n : RecNo) (s : State) : State :=
  match s.recState n with
  | .live => s.modWork n fun w => { w with liveTimer := 0, liveFrac := 0, overRun := 0, openRun := 0 }
  | .shed => (s.modWork n fun w => { w with holdoff := 0, holdoffFrac := 0 }).promptEvaluation
  | .tripped => s.modWork n fun w => { w with cooloff := 0, cooloffFrac := 0 }
  | .restoring => (s.dropRestoration n).dropReservation (.allotment n)
  | _ => s

/-- A change of a record's state to one that keeps its outlet open (R3): DORMANT, SHED, TRIPPED, QUOTA_OUT,
RETIRING. SHED is entered with hold-off 0 where no hold-off is named (R105), and entering it changes the claim list
(R92). -/
def State.become (n : RecNo) (st : RecState) (s : State) : State :=
  let t := ((s.leave n).modTerms n fun x => { x with state := st }).openRecord n
  if st = .shed then (t.modWork n fun w => { w with holdoff := 0, holdoffFrac := 0 }).promptEvaluation else t

/-- Remove every binding of a record from the map (R2). An uncorrectable entry names no record: it is left to the rebuild
that its next read makes (R29). -/
def State.unbind (n : RecNo) (s : State) : State :=
  s.modNva fun v => { v with
    map := v.map.map fun e => if e.verdict ≠ .lost ∧ e.value = some n then ⟨none, .clean⟩ else e }

/-- A slot becomes VACANT: both sections hold state VACANT and nothing else, the working fields are absent or 0, and
the binding goes (R1, R2). The order is left as it stands. -/
def State.vacate (n : RecNo) (s : State) : State :=
  (((s.leave n).unbind n).setSlot n .vacant).modWork n fun _ => .zero

/-! ## Quota (R5) -/

/-- Whether a record has a quota and its today tally is at or above it. -/
def State.quotaSpent (n : RecNo) (s : State) : Bool :=
  match (s.terms n).quota with
  | some q => q ≤ (s.account n).today
  | none => false

/-- The quota test of R5 on a record as it stands. -/
def State.quotaTest (n : RecNo) (s : State) : State :=
  match s.recState n with
  | .live | .restoring | .shed => if s.quotaSpent n then s.become n .quotaOut else s
  | .quotaOut => if s.quotaSpent n then s else s.become n .shed
  | _ => s

/-- A rule puts a record in SHED with hold-off 0, subject to R5: a record whose tally has reached its quota enters
QUOTA_OUT instead. -/
def State.enterShed (n : RecNo) (s : State) : State :=
  if s.quotaSpent n then s.become n .quotaOut else s.become n .shed

/-! ## The shed (R102, R103) -/

/-- The three kinds of shed (R102). -/
inductive ShedKind where
  | plain | cancel | zero
  deriving DecidableEq, Repr

/-- The recent sheds after a shed of a kind. -/
def ShedKind.recent (k : ShedKind) (before : Nat) : Nat :=
  match k with
  | .plain | .cancel => min 4 (before + 1)
  | .zero => before

/-- The hold-off a shed sets, in seconds, from HOLDOFF and the recent sheds after it (R103): HOLDOFF x 2^(n-1), twice
that for a cancellation, each limited to 160 s. -/
def ShedKind.holdoff (k : ShedKind) (base n : Nat) : Nat :=
  match k with
  | .plain => min 160 (base * 2 ^ (n - 1))
  | .cancel => min 160 (2 * min 160 (base * 2 ^ (n - 1)))
  | .zero => 0

/-- The pre-shed draw of a record shed outside a report (R102): from LIVE the last reading if fresh, from RESTORING
the one it had. -/
def State.shedDraw (n : RecNo) (s : State) : Option Nat :=
  let w := s.work n
  if s.recState n = .live then (if w.fresh then w.reading else none) else w.preShed

/-- Shed a LIVE or RESTORING record (R102), with the pre-shed draw given. A record whose tally has reached its quota
enters QUOTA_OUT instead, and then neither the hold-off nor the cause is written and the pre-shed draw and the recent
sheds are kept (R5). -/
def State.shedWith (k : ShedKind) (cause : ShedCause) (draw : Option Nat) (n : RecNo) (s : State) : State :=
  if s.quotaSpent n then s.become n .quotaOut
  else
    let recent := k.recent (s.account n).recent
    ((s.become n .shed).modAccount n fun a => { a with cause := some cause, recent := recent }).modWork n fun w =>
      { w with preShed := draw, holdoff := k.holdoff s.set.holdoff recent, holdoffFrac := 0 }

/-- Shed a record outside a report. -/
def State.shed (k : ShedKind) (cause : ShedCause) (n : RecNo) (s : State) : State :=
  s.shedWith k cause (s.shedDraw n) n

/-- Cancel a RESTORING record: the cause is always RESTORE_FAIL (R102). -/
def State.cancel (n : RecNo) (s : State) : State := s.shed .cancel .restoreFail n

/-! ## The bound-record map under its check code (R28, R29) -/

/-- The record an uncorrectable map entry is rebuilt from: the first that holds the outlet in a terms section that
reads without an uncorrectable error (R29). The rebuild looks at the terms sections and what their codes find; it corrects,
counts and marks none of the records (the model's choice, log 10: 1.8 does not list the rebuild among the reads of a
record). -/
def State.rebuilt (o : OutletId) (s : State) : Option RecNo :=
  allRecords.find? fun n =>
    s.nva.slots[n].terms.verdict ≠ .lost && s.recState n ≠ .vacant && (s.terms n).outlet == some o

/-- An uncorrectable entry of the map rebuilt (R29). Where the rebuild leaves the outlet unbound, it is ordered open, since
an unbound outlet always is (R2, R33; the model's choice, log 41). -/
def State.rebuildBinding (o : OutletId) (s : State) : State :=
  let t := s.setBinding o (s.rebuilt o)
  if (s.rebuilt o).isNone then t.openOutlet o else t

/-- Read one entry of the map under its check code (R28, R29). -/
def State.readBinding (o : OutletId) (s : State) : State :=
  match s.nva.map[o.index].verdict with
  | .clean => s
  | .oneFlip => (s.setBinding o (s.boundTo o)).latch .recordCorrected
  | .lost => (s.rebuildBinding o).latch .recordCorrected

/-- Read the whole map under its check code, to look up a record's number. The spec does not say how much of the map such a
look-up reads: the model reads all 64 entries, correcting or rebuilding each, also past the one that names the record (the
model's choice, log 8). -/
def State.readMap (s : State) : State := allOutlets.foldl (fun t o => t.readBinding o) s

/-- Read what names a record's outlet: for a SUSPECT record the map, which names it in place of its terms (R2, R28). -/
def State.readPlace (n : RecNo) (s : State) : State := if s.recState n = .suspect then s.readMap else s

/-! ## A record under its check code (R28, R29) -/

/-- Raise a record's corrected count by 1, saturating at 255 (R28). -/
def Account.countCorrection (a : Account) : Account := { a with corrected := min 255 (a.corrected + 1) }

/-- A read that finds single flipped bits: the sections are rewritten, the corrected count rises by 1 for the read but
not for a VACANT slot, and RECORD_CORRECTED is latched (R28). -/
def State.correctRecord (n : RecNo) (s : State) : State :=
  ((s.modTerms n id).modAccount n fun a =>
    if s.recState n = .vacant then a else a.countCorrection).latch .recordCorrected

/-- A read that makes a record SUSPECT (R29), given the outlet the map names for it. The terms section keeps its other
fields as they were read; a lost account section becomes 0; an account section with one flipped bit is corrected with
its count (log 9); the timers of its working fields stop (log 29). A record that leaves SHED, by the state its terms
section reads as, changes the claim list (R92; log 11). -/
def State.suspectRecord (n : RecNo) (o : OutletId) (s : State) : State :=
  let account := s.nva.slots[n].account
  let flipped := account.verdict = .oneFlip ∨ s.nva.slots[n].terms.verdict = .oneFlip
  let t := (((s.dropRestoration n).dropReservation (.allotment n)).modTerms n fun x =>
      { x with state := .suspect, outlet := some o, stagedClass := none, stagedRank := none }).modAccount n fun a =>
        if account.verdict = .lost then .zero else if flipped then a.countCorrection else a
  let t := (t.openOutlet o).modWork n fun w =>
    { w with liveTimer := 0, liveFrac := 0, overRun := 0, openRun := 0, holdoff := 0, holdoffFrac := 0,
             cooloff := 0, cooloffFrac := 0 }
  let t := if flipped then t.latch .recordCorrected else t
  let t := t.latch .recordSuspect
  if s.recState n = .shed then t.promptEvaluation else t

/-- An uncorrectable slot for which the map names no outlet is taken to be VACANT (R29). The spec does not say what becomes
of a reservation held under its number or of an order still closed, and R29 names no outlet where R2 and R33 open one at
every departure. The model's choice (log 41): the reservation and the watch entry go (R87), whatever state the damaged
section reads as, and no order is changed here; an outlet whose map entry was lost with the record is opened by the
rebuild of that entry. -/
def State.vacateLost (n : RecNo) (s : State) : State :=
  (((s.dropRestoration n).dropReservation (.allotment n)).vacate n).latch .recordCorrected

/-- Read a record under the check codes of its two sections (R28, R29). What a slot taken to be VACANT leaves behind is the
model's choice (log 41). -/
def State.readRecord (n : RecNo) (s : State) : State :=
  let x := s.nva.slots[n]
  if x.terms.verdict = .lost ∨ x.account.verdict = .lost then
    let t := s.readMap
    match t.mapOutlet n with
    | some o => t.suspectRecord n o
    | none => t.vacateLost n
  else if x.terms.verdict = .oneFlip ∨ x.account.verdict = .oneFlip then s.correctRecord n
  else s

/-- Read, in number order, every record for which a test holds when its turn comes. -/
def State.readEach (p : State → RecNo → Bool) (s : State) : State :=
  allRecords.foldl (fun t n => if p t n then t.readRecord n else t) s

/-! ## Changes of saw stations (07) -/

/-- The length of the refusal show (R136). -/
def refusalShow : Nat := seconds 5

/-- A change of a station's state, which stops the refusal show (R136). Entering or leaving WAITING changes the claim
list (R92). -/
def State.stationTo (i : StationNo) (st : SawState) (s : State) : State :=
  let t := s.modStation i fun x => { x with state := st, refusal := none }
  if st = .waiting ∨ (s.station i).state = .waiting then t.promptEvaluation else t

/-- Abort an ENGAGING station (R131): IDLE, the engage, dip and wait timers stopped, the voltage check not pending, the
last outcome written, the refusal show started, and the reservation entry removed. A station in any other state is not
touched. -/
def State.abortStation (i : StationNo) (why : SawOutcome) (s : State) : State :=
  if (s.station i).state = .engaging then
    ((s.stationTo i .idle).modStation i fun x =>
      { x with engage := none, dip := none, wait := none, voltPending := false, outcome := why,
               refusal := some refusalShow }).dropReservation (.station i)
  else s

/-- Take a RUNNING station to WINDING_DOWN (R104, R133). -/
def State.windDown (i : StationNo) (s : State) : State :=
  if (s.station i).state = .running then
    (s.stationTo i .windingDown).modStation i fun x => { x with jam := none }
  else s

/-- Do something at each station in order. -/
def State.eachStation (f : StationNo → State → State) (s : State) : State :=
  allStations.foldl (fun t i => f i t) s

/-- Do something at each record in number order. -/
def State.eachRecord (f : RecNo → State → State) (s : State) : State :=
  allRecords.foldl (fun t n => f n t) s

end Sys2Proof.Machine
end

