-- ==== Sys2Proof/Machine/Watches.lean ====
section
/-! DEFINITION. The tests that run timers: each finds a condition to hold or not, and starts or stops its timer
(R63, R107, R110, R111, R129, R134, R161 to R163, R167); and the governor update, which prompts some of them (R76). -/

namespace Sys2Proof.Machine

/-! ## Supply Ladder -/

/-- The step condition (R107). -/
def State.stepCondition (s : State) : Bool :=
  s.supplying && s.fsu.freqValid && s.fsu.freq + s.set.shedOffset < s.set.fset && s.bgv.demand == 0

/-- SHED_DELAY in counts; the setting is in units of 0.1 s. -/
def State.shedDelay (s : State) : Nat := millis (s.set.shedDelay * 100)

/-- The length the step timer is started for: the longer of SHED_DELAY and what the step pause has left (R107). -/
def State.stepLength (s : State) : Nat := max s.shedDelay (s.sld.pause.getD 0)

/-- The test of the step condition (R107). -/
def State.stepTest (s : State) : State :=
  s.modSld fun l => { l with step := l.step.follow s.stepCondition s.stepLength }

/-- The condition of a collapse level: 46,000 mHz for the first, 45,000 mHz for the second (R110, R111). -/
def State.collapseCondition (level : Nat) (s : State) : Bool :=
  s.supplying && s.fsu.freqValid && decide (s.fsu.freq < level)

/-- A timer that is not started again while spent (R63, R110): found holding, it starts if stopped and not spent; found
not holding, it is stopped. -/
def Timer.followUnlessSpent (holds spent : Bool) (n : Nat) (t : Timer) : Timer :=
  if holds then (if spent then t else t.startIfStopped n) else none

/-- The tests of both collapse levels (R110, R111): 0.5 s and 1 s. -/
def State.collapseTests (s : State) : State :=
  let first := s.collapseCondition 46000
  let second := s.collapseCondition 45000
  s.modSld fun l => { l with
    collapse1 := l.collapse1.followUnlessSpent first l.collapse1Spent (millis 500)
    collapse1Spent := first && l.collapse1Spent
    collapse2 := l.collapse2.followUnlessSpent second l.collapse2Spent (seconds 1)
    collapse2Spent := second && l.collapse2Spent }

/-! ## Saw Permit Unit -/

/-- The dip condition (R129). -/
def State.dipCondition (s : State) : Bool := s.fsu.freqValid && decide (s.fsu.freq < s.set.engageDip)

/-- The dip test of an ENGAGING station (R129). -/
def State.dipTest (s : State) : State :=
  s.modSpu fun v => v.map fun x =>
    if x.state = .engaging then { x with dip := x.dip.follow s.dipCondition (seconds 1) } else x

/-! ## Frequency and Speed Unit -/

/-- The generator speed, in per mille of FSET, truncated (R63). -/
def State.generatorSpeed (s : State) : Nat := s.fsu.freq * 1000 / s.set.fset

/-- The slip condition (R63). -/
def State.slipCondition (s : State) : Bool :=
  s.plant = .onLine && s.fsu.freqValid && s.shaftValid &&
    decide (50 < ((s.generatorSpeed : Int) - (s.fsu.shaftSpeed : Int)).natAbs)

/-- The slip test (R63). -/
def State.slipTest (s : State) : State :=
  s.modFsu fun u => { u with
    slip := u.slip.followUnlessSpent s.slipCondition u.slipSpent (seconds 2)
    slipSpent := s.slipCondition && u.slipSpent }

/-! ## Water and Gate Controller -/

/-- The in-step condition: valid and within 500 mHz of FSET (R161). -/
def State.inStep (s : State) : Bool :=
  s.fsu.freqValid && decide (((s.fsu.freq : Int) - (s.set.fset : Int)).natAbs ≤ 500)

/-- The in-step test, made in RUN-UP (R161). -/
def State.inStepTest (s : State) : State :=
  if s.plant = .runUp then s.modWgc fun w => { w with sync := w.sync.follow s.inStep (seconds 10) } else s

/-- Whether the plant is in a state the trip watches run in (R167). -/
def State.running (s : State) : Bool :=
  s.plant = .runUp || s.plant = .onLine || s.plant = .waterShort || s.plant = .runDown

/-- The frequency overspeed test: valid and above 57,500 mHz, 2 s (R167). -/
def State.freqOverTest (s : State) : State :=
  if s.running then
    s.modWgc fun w => { w with
      freqOver := w.freqOver.follow (s.fsu.freqValid && decide (57500 < s.fsu.freq)) (seconds 2) }
  else s

/-- The shaft overspeed test: valid and above 1,300 per mille, 0.2 s (R167). -/
def State.shaftOverTest (s : State) : State :=
  if s.running then
    s.modWgc fun w => { w with
      shaftOver := w.shaftOver.follow (s.shaftValid && decide (1300 < s.fsu.shaftSpeed)) (millis 200) }
  else s

/-- Whether the channel 0 entry is FRESH with a value below a level. -/
def State.levelBelow (s : State) (level : Int) : Bool :=
  match s.freshValue 0 with
  | some v => decide (v < level)
  | none => false

/-- The water-short condition (R162). -/
def State.shortCondition (s : State) : Bool :=
  (s.wgc.gateTarget == s.set.gateCeiling || s.levelBelow s.set.targetLevel) &&
    decide (s.bgv.reserve < s.set.shortMargin)

/-- The short test, made in ON-LINE: 30 s (R162). -/
def State.shortTest (s : State) : State :=
  if s.plant = .onLine then
    s.modWgc fun w => { w with short := w.short.follow s.shortCondition (seconds 30) }
  else s

/-- The recovery test, made in WATER-SHORT: 60 s (R163). -/
def State.recoveryTest (s : State) : State :=
  if s.plant = .waterShort then
    s.modWgc fun w => { w with
      recovery := w.recovery.follow (decide (2 * s.set.shortMargin ≤ s.bgv.reserve)) (seconds 60) }
  else s

/-- A governor update whose D is below WASTE_LEVEL clears the waste mark (R170). -/
def State.wasteTest (s : State) : State :=
  if s.bgv.demand < s.set.wasteLevel then s.modWgc fun w => { w with waste := false } else s

/-! ## The governor update (R76) -/

/-- A governor update reaches the Reserve Unit (R92), the Supply Ladder (R107) and the Water and Gate Controller
(R162, R163, R170). -/
def State.governorUpdate (s : State) : State :=
  s.promptEvaluation.stepTest.shortTest.recoveryTest.wasteTest

/-- The governor's entry to INACTIVE (R67): the values and stages go to rest, the health is kept, and the change is a
governor update. -/
def State.governorInactive (s : State) : State :=
  if s.bgv.state = .inactive then s
  else (s.modBgv fun b => { Bgv.reset with health := b.health }).governorUpdate

end Sys2Proof.Machine
end

