-- ==== Sys2Proof/Machine/Ladder.lean ====
section
/-! DEFINITION. The Supply Ladder: the importance key, selections from the ladder, the step, the collapse levels, and
the sheds that the plant drives (chapter 6; R91 for the key). -/

namespace Sys2Proof.Machine

/-! ## The importance key (R91) -/

/-- Class, then rank or station number, then record number. -/
abbrev Key := Nat × Nat × Nat

/-- Whether one key stands before another: the more important first. -/
def Key.before (a b : Key) : Bool :=
  a.1 < b.1 || (a.1 == b.1 && (a.2.1 < b.2.1 || (a.2.1 == b.2.1 && a.2.2 < b.2.2)))

/-- The order of the classes: ESSENTIAL, PUBLIC, DOMESTIC, WORKS (3), DEFERRABLE (R91). -/
def AllotClass.order : AllotClass → Nat
  | .essential => 0
  | .publicLoad => 1
  | .domestic => 2
  | .deferrable => 4

/-- The importance key of a record, on its applied class and rank. -/
def Terms.key (x : Terms) (n : RecNo) : Key := ((x.cls.map AllotClass.order).getD 5, x.rank, n.val)

/-- The importance key of a holder. -/
def State.key (s : State) : Holder → Key
  | .allotment n => (s.terms n).key n
  | .station i => (3, i.val, 0)

/-- The most important of two holders, the first when the keys are equal. -/
def State.moreImportant (s : State) (a b : Holder) : Holder := if (s.key b).before (s.key a) then b else a

/-- The less important of two holders. -/
def State.lessImportant (s : State) (a b : Holder) : Holder := if (s.key a).before (s.key b) then b else a

/-- The most important entry of a list. -/
def State.mostImportant (s : State) : List Holder → Option Holder
  | [] => none
  | h :: l => some (l.foldl s.moreImportant h)

/-- The least important entry of a list. -/
def State.leastImportant (s : State) : List Holder → Option Holder
  | [] => none
  | h :: l => some (l.foldl s.lessImportant h)

/-! ## The ladder (R100, R101) -/

/-- Whether a record is LIVE with an applied class other than ESSENTIAL. -/
def State.recordOnLadder (s : State) (n : RecNo) : Bool :=
  s.recState n = .live && (s.terms n).cls ≠ some .essential

/-- Whether a record is RESTORING. -/
def State.isRestoring (s : State) (n : RecNo) : Bool := s.recState n = .restoring

/-- The RESTORING records, as claims on the importance key. -/
def State.restoringList (s : State) : List Holder := (allRecords.filter s.isRestoring).map .allotment

/-- The ladder: LIVE records of class PUBLIC, DOMESTIC or DEFERRABLE, and RUNNING stations (R100). -/
def State.ladder (s : State) : List Holder :=
  (allRecords.filter s.recordOnLadder).map .allotment ++
    (allStations.filter fun i => (s.station i).state = .running).map .station

/-- Shed an entry of the ladder: a record by a plain shed with a cause, a station as R104 states. -/
def State.shedEntry (cause : ShedCause) (h : Holder) (s : State) : State :=
  match h with
  | .allotment n => s.shed .plain cause n
  | .station i => s.windDown i

/-! ## The step (R108) -/

/-- One step: the least important RESTORING record is cancelled; with none, the least important ladder entry is shed;
with neither, nothing. The records concerned are read first (R101). -/
def State.takeStep (s : State) : State :=
  let s := s.readEach State.isRestoring
  match s.leastImportant s.restoringList with
  | some (.allotment n) => s.cancel n
  | some (.station _) => s
  | none =>
    let s := s.readEach State.recordOnLadder
    match s.leastImportant s.ladder with
    | some h => s.shedEntry .ladder h
    | none => s

/-- STEP_INTERVAL in counts. -/
def State.stepInterval (s : State) : Nat := seconds s.set.stepInterval

/-- The expiry of the step timer: one step, then the step pause and the step timer restart (R107, R109). -/
def State.stepExpiry (s : State) : State :=
  let t := s.takeStep
  t.modSld fun l => { l with pause := some t.stepInterval, step := some t.stepInterval }

/-! ## Collapse (R110, R111) -/

/-- Abort the ENGAGING stations with an outcome. -/
def State.abortEngaging (why : SawOutcome) (s : State) : State := s.eachStation fun i t => t.abortStation i why

/-- The first-level action (R110): every ladder entry is shed, every RESTORING record cancelled, the ENGAGING station
aborted. Each record is read before it is acted on, and one found SUSPECT is not shed (R101). -/
def State.collapseFirst (s : State) : State :=
  let s := s.eachRecord fun n t =>
    if t.recordOnLadder n then
      let t := t.readRecord n
      if t.recordOnLadder n then t.shed .plain .collapse n else t
    else t
  let s := s.eachStation fun i t => t.windDown i
  let s := s.eachRecord fun n t =>
    if t.isRestoring n then
      let t := t.readRecord n
      if t.isRestoring n then t.cancel n else t
    else t
  s.abortEngaging .abortCollapse

/-- The second-level action (R111): the first-level action, then every LIVE ESSENTIAL record a zero hold-off shed with
cause COLLAPSE. -/
def State.collapseSecond (s : State) : State :=
  s.collapseFirst.eachRecord fun n t =>
    if t.recState n = .live then
      let t := t.readRecord n
      if t.recState n = .live ∧ (t.terms n).cls = some .essential then t.shed .zero .collapse n else t
    else t

/-! ## Shedding driven by the plant (R115, R117) -/

/-- Whether a record is LIVE or RESTORING. -/
def State.supplied (s : State) (n : RecNo) : Bool := s.recState n = .live || s.recState n = .restoring

/-- Entry to WATER-SHORT (R115): every DEFERRABLE record LIVE or RESTORING gets a plain shed with cause WATER_SHORT and
the ENGAGING station is aborted. The records are not read (log 8): the state stored is the one shed from (log 44). -/
def State.waterShortShed (s : State) : State :=
  (s.eachRecord fun n t =>
    if t.supplied n && (t.terms n).cls == some .deferrable then t.shed .plain .waterShort n else t).abortEngaging
      .abortWaterShort

/-- Entry to RUN-DOWN or TRIPPED (R117): every LIVE and RESTORING record gets a zero hold-off shed with cause PLANT, and
every outlet is ordered open. The restoration watch is then empty, whatever its records read as. The records are not read
(log 8): the reservation of one whose lost terms section no longer reads as RESTORING stands, the model's choice (log 44). -/
def State.plantShed (s : State) : State :=
  ((s.eachRecord fun n t => if t.supplied n then t.shed .zero .plant n else t).openEveryOutlet).modSld fun l =>
    { l with watch := [] }

end Sys2Proof.Machine
end

