-- ==== Sys2Proof/Machine/Reserve.lean ====
section
/-! DEFINITION. The Reserve Unit: the claim list, the conditions of a grant, grants, and evaluation (chapter 5; R112 and
R127 for what a grant does at its owner). -/

namespace Sys2Proof.Machine

/-! ## The claim list (R89, R90) -/

/-- Whether the plant state allows a class to claim (R89). -/
def PlantState.allows (p : PlantState) (c : AllotClass) : Bool :=
  match p, c with
  | .onLine, _ => true
  | .waterShort, .essential | .waterShort, .publicLoad => true
  | _, _ => false

/-- Whether a record is in the claim list (R89). -/
def State.claimsRecord (s : State) (n : RecNo) : Bool :=
  s.recState n = .shed && (s.work n).holdoff == 0 &&
    (match (s.terms n).outlet with | some o => (s.node o.node).state = .present | none => false) &&
    (match (s.terms n).cls with | some c => s.plant.allows c | none => false)

/-- Whether a station is in the claim list (R90). -/
def State.claimsStation (s : State) (i : StationNo) : Bool :=
  (s.station i).state = .waiting && s.plant = .onLine

/-- The claim list, before it is ordered. -/
def State.claims (s : State) : List Holder :=
  (allRecords.filter s.claimsRecord).map .allotment ++ (allStations.filter s.claimsStation).map .station

/-- Deriving the list reads each SHED record under the check code (R89). -/
def State.readForList (s : State) : State := s.readEach fun t n => t.recState n = .shed

/-- The head of the claim list (R91). -/
def State.head (s : State) : Option Holder := s.mostImportant s.claims

/-! ## Need (R94) -/

/-- What a claim's entry would hold: for an allotment the pre-shed draw, else the cap, raised to 100 W; for a station
SAW_DRAW (R94, R95). -/
def State.claimBase (s : State) : Holder → Nat
  | .allotment n => max 100 ((s.work n).preShed.getD (s.terms n).cap)
  | .station i => s.set.sawDraw[i]

/-- The margin added to it. -/
def State.claimMargin (s : State) : Holder → Nat
  | .allotment _ => s.set.restoreMargin
  | .station _ => s.set.sawMargin

/-- The need of a claim (R94). -/
def State.need (s : State) (h : Holder) : Nat := s.claimBase h + s.claimMargin h

/-! ## The conditions (R93, R95) -/

/-- The frequency is valid and off band (R93). -/
def State.offBand (s : State) : Bool :=
  s.fsu.freqValid && decide (s.set.restoreBand < ((s.fsu.freq : Int) - (s.set.fset : Int)).natAbs)

/-- The table holds a station entry (R93). -/
def State.engagingEntry (s : State) : Bool :=
  s.rsv.table.any fun e => match e.holder with | .station _ => true | .allotment _ => false

/-- Whether a holder is an allotment. -/
def Holder.isAllotment : Holder → Bool
  | .allotment _ => true
  | .station _ => false

/-- Why a head waits: the first condition of R95 that fails, the pauses in the order of R93; none when all hold
(R98). -/
def State.wait (s : State) (h : Holder) : Wait :=
  if !s.fsu.freqValid then .pausedFrequency
  else if s.offBand then .pausedBand
  else if s.engagingEntry then .pausedEngaging
  else if s.sld.pause.running then .pausedStep
  else if s.available < s.need h then .shortOfReserve
  else if 8 ≤ s.rsv.table.length then .tableFull
  else if h.isAllotment && s.rsv.allowanceUsed then .allowanceUsed
  else .none

/-! ## Grants (R95, R112, R127) -/

/-- A restoration begins (R112): the record becomes RESTORING, its outlet is ordered closed with the essential mark of
its class, the watch gains an entry, and the voltage check is triggered. -/
def State.beginRestoration (n : RecNo) (s : State) : State :=
  let s : State := (s.leave n).modTerms n fun x => { x with state := .restoring }
  let s : State := match (s.terms n).outlet with
    | some o => s.closeOutlet o (decide ((s.terms n).cls = some .essential))
    | none => s
  (s.modSld fun l => { l with watch := l.watch ++ [⟨n, 0⟩] }).triggerVoltage

/-- An engagement begins (R127). -/
def State.beginEngagement (i : StationNo) (s : State) : State :=
  ((s.stationTo i .engaging).modStation i fun x =>
    { x with wait := none, engage := some (seconds s.set.engageTime), dip := none, jam := none,
             voltPending := true }).triggerVoltage

/-- The grant of a claim (R95): an entry at the end of the table, the allowance used by an allotment, and the holder's
entry to RESTORING or ENGAGING, in one change. A grant calls for a further evaluation (R92). -/
def State.grant (h : Holder) (s : State) : State :=
  let amount := s.claimBase h
  let s := s.modRsv fun r =>
    { table := r.table ++ [⟨h, amount⟩], allowanceUsed := r.allowanceUsed || h.isAllotment, due := true }
  match h with
  | .allotment n => s.beginRestoration n
  | .station i => s.beginEngagement i

/-! ## Evaluation (R92, R95) -/

/-- One evaluation: the list is derived, and the head is granted when nothing holds it back. -/
def State.evaluate (s : State) : State :=
  let s := s.readForList
  match s.head with
  | some h => if s.wait h = .none then s.grant h else s
  | none => s

/-- Take the evaluations that are due, at most `fuel` of them, each on the state the one before it left. -/
def State.settleWith : Nat → State → State
  | 0, s => s
  | fuel + 1, s =>
    if s.rsv.due then State.settleWith fuel (s.modRsv fun r => { r with due := false }).evaluate else s

/-- Take the evaluations that an event calls for, after the event (R92; log 11). An evaluation calls for another only by
a grant, of which one round allows one allotment and one station, or by records it finds SUSPECT. -/
def State.settle (s : State) : State := s.settleWith 10

/-- The round end refills the allowance; an evaluation follows (R96). -/
def State.refill (s : State) : State := s.modRsv fun r => { r with allowanceUsed := false, due := true }

end Sys2Proof.Machine
end

