-- ==== Sys2Proof/Machine/Reports.lean ====
section
/-! DEFINITION. Outlet reports: the nine steps of R22 and the confirmation of a restoration (01 1.6 and 1.7, R113). -/

namespace Sys2Proof.Machine

/-- One outlet's part of a valid reply (11.5). -/
structure Report where
  closed : Bool
  reset  : Bool
  power  : Nat
  energy : Nat
  deriving DecidableEq, Repr

/-! ## Energy (R23) -/

/-- Wh added to an account: the tally saturates at 65,535, the lifetime carries into a ring of 1,000,000 kWh (R23). -/
def Account.addEnergy (d : Nat) (a : Account) : Account :=
  { a with today := min 65535 (a.today + d), wh := (a.wh + d) % 1000,
           kwh := (a.kwh + (a.wh + d) / 1000) % 1000000 }

/-- The difference a report adds: none when the baseline is absent, the node restarted, or the ring difference is above
1,000 (R23). -/
def energyStep (baseline : Option Nat) (restart : Bool) (n : Nat) : Nat :=
  match baseline with
  | none => 0
  | some b =>
    let d := (n + 65536 - b) % 65536
    if restart || decide (1000 < d) then 0 else d

/-- Step 2: the energy is tallied and the baseline becomes the report's counter; the account section is rewritten when
something is added (R23). -/
def State.tallyEnergy (n : RecNo) (restart : Bool) (counter : Nat) (s : State) : State :=
  let d := energyStep (s.work n).baseline restart counter
  let s := if d = 0 then s else s.modAccount n fun a => a.addEnergy d
  s.modWork n fun w => { w with baseline := some counter }

/-! ## The reading and its watches (R22 step 4, R24 to R26) -/

/-- Step 4: the report's power, clamped to 16,000 W, becomes the last reading, fresh. -/
def State.storePower (n : RecNo) (power : Nat) (s : State) : State :=
  s.modWork n fun w => { w with reading := some (min 16000 power), fresh := true }

/-- Step 5: a node restart sheds a LIVE record with hold-off 0, and recent sheds unchanged (R25). -/
def State.restartStep (n : RecNo) (restart : Bool) (draw : Option Nat) (s : State) : State :=
  if restart ∧ s.recState n = .live then s.shedWith .zero .unexpectedOpen draw n else s

/-- A trip of a record (R24): TRIPPED, the cool-off at TRIP_COOLOFF (R4), the pre-shed draw absent. -/
def State.tripRecord (n : RecNo) (s : State) : State :=
  (s.become n .tripped).modWork n fun w =>
    { w with cooloff := s.set.tripCooloff, cooloffFrac := 0, preShed := none }

/-- Step 6: the over-cap test of a LIVE record on the reading just taken (R24). -/
def State.overCapStep (n : RecNo) (power : Nat) (s : State) : State :=
  if s.recState n = .live then
    if (s.terms n).cap < min 16000 power then
      let run := (s.work n).overRun + 1
      if s.set.tripCount ≤ run then s.tripRecord n
      else s.modWork n fun w => { w with overRun := run }
    else s.modWork n fun w => { w with overRun := 0 }
  else s

/-- Whether a record's outlet is ordered closed. -/
def State.orderedClosed (s : State) (o : OutletId) : Bool := (s.outlet o).closed

/-- The open watch (R25): a LIVE record ordered closed and reported open twice is shed with cause UNEXPECTED_OPEN. -/
def State.openWatch (n : RecNo) (o : OutletId) (closed : Bool) (draw : Option Nat) (s : State) : State :=
  if s.recState n = .live ∧ s.orderedClosed o then
    if closed then s.modWork n fun w => { w with openRun := 0 }
    else if 2 ≤ (s.work n).openRun + 1 then s.shedWith .plain .unexpectedOpen draw n
    else s.modWork n fun w => { w with openRun := w.openRun + 1 }
  else s

/-- The closed watch (R26): a third report closed against an open order latches NODE_DISOBEYS, once for each run. -/
def State.closedWatch (n : RecNo) (o : OutletId) (closed : Bool) (s : State) : State :=
  if closed ∧ s.orderedClosed o = false then
    let before := (s.work n).closedRun
    let s := s.modWork n fun w => { w with closedRun := min 3 (before + 1) }
    if before = 2 then s.latch .nodeDisobeys else s
  else s.modWork n fun w => { w with closedRun := 0 }

/-! ## Reset requests (R27) -/

/-- A new reset request at a record: a TRIPPED record whose cool-off remaining is 0 becomes SHED with hold-off 0,
subject to R5; nothing else changes. -/
def State.takeReset (n : RecNo) (s : State) : State :=
  if s.recState n = .tripped ∧ (s.work n).cooloff = 0 then s.enterShed n else s

/-- The handshake of an outlet's reset flag and answered mark, with the record the map names, if any (R27). -/
def State.answerReset (o : OutletId) (bound : Option RecNo) (flag : Bool) (s : State) : State :=
  match flag, (s.outlet o).answered with
  | true, false =>
    let s := s.modOutlet o fun x => { x with answered := true }
    match bound with
    | some n => s.takeReset n
    | none => s
  | false, true => s.modOutlet o fun x => { x with answered := false }
  | _, _ => s

/-! ## Confirmation (R113) -/

/-- A report closed at a RESTORING record makes it LIVE: the live timer starts at 0, the over-cap and open runs are 0,
the watch entry and the reservation go. -/
def State.confirm (n : RecNo) (closed : Bool) (s : State) : State :=
  if closed ∧ s.recState n = .restoring then
    ((s.leave n).modTerms n fun x => { x with state := .live }).modWork n fun w =>
      { w with liveTimer := 0, liveFrac := 0, overRun := 0, openRun := 0 }
  else s

/-! ## The nine steps (R22) -/

/-- Steps 2 to 9 of a report at a record that is not VACANT, and the ladder's confirmation after them. The pre-shed draw
of a shed decided in steps 5 and 7 is the previous reading if it was fresh. -/
def State.workReport (n : RecNo) (o : OutletId) (restart : Bool) (r : Report) (s : State) : State :=
  let s := (s.tallyEnergy n restart r.energy).quotaTest n
  let draw := if (s.work n).fresh then (s.work n).reading else none
  let s := (s.storePower n r.power).restartStep n restart draw
  let s := s.overCapStep n r.power
  let s := (s.openWatch n o r.closed draw).closedWatch n o r.closed
  let s := s.answerReset o (some n) r.reset
  let s := if s.recState n = .retiring ∧ r.closed = false then s.vacate n else s
  s.confirm n r.closed

/-- One outlet report (R22): handed to the record the map names, read under its check code; a VACANT slot takes no
further step; an outlet with no record is used for its reset handshake only (R40). -/
def State.takeReport (restart : Bool) (o : OutletId) (r : Report) (s : State) : State :=
  let s := s.readBinding o
  match s.boundTo o with
  | none => s.answerReset o none r.reset
  | some n =>
    let s := s.readRecord n
    if s.recState n = .vacant then s else s.workReport n o restart r

end Sys2Proof.Machine
end

