-- ==== Sys2Proof/Machine/Chain.lean ====
section
/-! DEFINITION. The Feeder Chain Link: frames, rounds and slots, valid replies, and the round end (chapter 2, 11.5). -/

namespace Sys2Proof.Machine

/-! ## Frames (11.5) -/

/-- The frame-start character. -/
def chainStart : Byte := 0xD5

/-- The kind character of a POLL. -/
def pollKind : Byte := 0x01

/-- The kind character of a CALL. -/
def callKind : Byte := 0x02

/-- The kind character of a REPLY. -/
def replyKind : Byte := 0x03

/-- The address character of a node. -/
def addressByte (a : NodeNo) : Byte := BitVec.ofNat 8 (a.val + 1)

/-- The POLL to a node, its outlets as they stand in the table (R34, 11.5). -/
def State.pollFrame (s : State) (a : NodeNo) : List Byte :=
  let body := [chainStart, pollKind, addressByte a] ++
    (outletsOf a).map fun o => BitVec.ofNat 8 (s.outlet o).code
  body ++ crcBytes body

/-- The CALL to an address (11.5). -/
def callFrame (a : NodeNo) : List Byte :=
  let body := [chainStart, callKind, addressByte a]
  body ++ crcBytes body

/-! ## Rounds (R35 to R38) -/

/-- Whether a node's state puts it on the poll list (R36). -/
def Node.polled (x : Node) : Bool := x.state ≠ .absent

/-- The first ABSENT address at or after the pointer, passing from 16 to 1 (R37). -/
def Fcl.nextAbsent (l : Fcl) : Option NodeNo :=
  ((allNodes.filter fun a => l.callPointer ≤ a) ++ (allNodes.filter fun a => a < l.callPointer)).find? fun a =>
    l.nodes[a].state = .absent

/-- The address after one, passing from 16 to 1. -/
def nextNode (a : NodeNo) : NodeNo := if h : a.val + 1 < 16 then ⟨a.val + 1, h⟩ else 0

/-- The line turnaround before each frame: 40 us (R38). -/
def turnaround : Nat := micros 40

/-! ## The round end (R43) -/

/-- A node enters SILENT (R42): its RETIRING records become VACANT (R16), each found by the map, which is read under its
check code (02 2.1), and claims on it leave the list (R92). The records themselves are not read under their check codes
here, since 1.8 lists no such access: RETIRING is tested on the stored state, the model's choice (log 8). -/
def State.enterSilent (a : NodeNo) (s : State) : State :=
  let s := (s.modNode a fun x => { x with state := .silent }).latch .nodeSilent
  let s := (outletsOf a).foldl (fun t o =>
    let t := t.readBinding o
    match t.boundTo o with
    | some n => if t.recState n = .retiring then t.vacate n else t
    | none => t) s
  s.promptEvaluation

/-- Part 1 at one node of the poll list (R41, R42). -/
def State.nodeRoundEnd (a : NodeNo) (s : State) : State :=
  let x := s.node a
  if x.replied then s
  else match x.state with
    | .joining => s.modNode a fun x => { x with state := .absent, missed := 0 }
    | .present =>
      let s := s.modNode a fun x => { x with missed := min 3 (x.missed + 1) }
      if (s.node a).missed = 3 then s.enterSilent a else s
    | .absent | .silent => s

/-- Part 2: a node with no valid reply in the round has the fresh flags of its records cleared. The map is read under
its check code (log 8). -/
def State.clearFresh (a : NodeNo) (s : State) : State :=
  if (s.node a).replied then s
  else (outletsOf a).foldl (fun t o =>
    let t := t.readBinding o
    match t.boundTo o with
    | some n => t.modWork n fun w => { w with fresh := false }
    | none => t) s

/-- A record's staged set applied: each staged value becomes the applied one, and the set becomes absent (R10). -/
def Terms.applyStaged (x : Terms) : Terms :=
  { x with cls := x.stagedClass.orElse fun _ => x.cls, rank := x.stagedRank.getD x.rank, stagedClass := none,
           stagedRank := none }

/-- Whether a record has a staged set. -/
def Terms.staged (x : Terms) : Bool := x.stagedClass.isSome || x.stagedRank.isSome

/-- Apply one record's staged set; a SUSPECT record's is discarded (R10). A class applied to a RESTORING or LIVE record
sets or clears its outlet's essential mark; an applied class or rank changes the claim list (R92). -/
def State.applyStaged (n : RecNo) (s : State) : State :=
  let x := s.terms n
  if x.state = .vacant ∨ x.staged = false then s
  else if x.state = .suspect then s.modTerms n fun x => { x with stagedClass := none, stagedRank := none }
  else
    let s := s.modTerms n Terms.applyStaged
    let s := match x.stagedClass, x.outlet with
      | some c, some o =>
        if s.supplied n then s.modOutlet o fun y => { y with essential := c == AllotClass.essential } else s
      | _, _ => s
    s.promptEvaluation

/-- Whether a record's staged set makes its applied class DEFERRABLE when it was not (R116). -/
def Terms.turnsDeferrable (x : Terms) : Bool :=
  x.state ≠ .suspect && x.stagedClass == some .deferrable && x.cls != some .deferrable

/-- Part 3: every staged set is applied; then in WATER-SHORT every LIVE or RESTORING record whose class has just become
DEFERRABLE gets a plain shed with cause WATER_SHORT (R116). -/
def State.stagedRoundEnd (s : State) : State :=
  let turned := allRecords.filter fun n => (s.terms n).turnsDeferrable
  let s := s.eachRecord State.applyStaged
  if s.plant = .waterShort then
    turned.foldl (fun t n => if t.supplied n then t.shed .plain .waterShort n else t) s
  else s

/-- Part 4: every watch entry counts one round; an entry whose count reaches 3 has its record cancelled (R114). A record
that does not stand as RESTORING, which only a lost terms section not yet read makes possible, is not cancelled: its watch
entry alone goes, and its reservation stands until a read finds the section lost. The model's choice (log 44). -/
def State.countRounds (s : State) : State :=
  let s := s.modSld fun l => { l with watch := l.watch.map fun e => { e with rounds := e.rounds + 1 } }
  ((s.sld.watch.filter fun e => 3 ≤ e.rounds).map Restoration.record).foldl (fun t n =>
    if t.isRestoring n then t.cancel n else t.dropRestoration n) s

/-- The round end (R43), its five parts in order. No round is in progress after it. -/
def State.roundEnd (s : State) : State :=
  let list := s.fcl.pollList
  let s := s.modFcl fun l => { l with phase := .idle, pollList := [], toPoll := [] }
  let s := list.foldl (fun t a => t.nodeRoundEnd a) s
  let s := allNodes.foldl (fun t a => t.clearFresh a) s
  s.stagedRoundEnd.countRounds.refill

/-- The next frame of the round, or the round end when there is none (R36, R37). -/
def State.nextFrame (s : State) : State :=
  match s.fcl.toPoll with
  | a :: rest => s.modFcl fun l => { l with toPoll := rest, phase := .turnaround a false turnaround }
  | [] =>
    if s.fcl.callDone then s.roundEnd
    else match s.fcl.nextAbsent with
      | some a =>
        s.modFcl fun l => { l with callDone := true, callPointer := nextNode a, phase := .turnaround a true turnaround }
      | none => s.roundEnd

/-- The start of a round (R36). -/
def State.startRound (s : State) : State :=
  let s := s.modFcl fun l =>
    let nodes := l.nodes.map fun x => { x with replied := false }
    let list := allNodes.filter fun a => nodes[a].polled
    { l with nodes := nodes, pollList := list, toPoll := list, callDone := false }
  s.nextFrame

/-- The round timer's expiry (R35): the timer restarts for the ROUND_PERIOD in force and a round starts. Every round has
ended by then (R38); were one in progress, it would go on (log 22). -/
def State.roundExpiry (s : State) : State :=
  let s := s.modFcl fun l => { l with roundTimer := some (millis s.set.roundPeriod) }
  if s.fcl.phase = .idle then s.startRound else s

/-- The end of the turnaround: the frame is fixed as the table stands and goes out (R34, R38). -/
def State.sendFrame (a : NodeNo) (call : Bool) (s : State) : State :=
  let frame := if call then callFrame a else s.pollFrame a
  s.modFcl fun l => { l with phase := .sending a call frame }

/-- The last stop bit of a frame: the window of 2.0 ms opens (R38). -/
def State.openWindow (a : NodeNo) (call : Bool) (s : State) : State :=
  s.modFcl fun l => { l with phase := .window a call (micros 2000) }

/-- A reply begins in the window: reception for at most 1.2 ms (R38). -/
def State.beginReception (a : NodeNo) (call : Bool) (s : State) : State :=
  s.modFcl fun l => { l with phase := .receiving a call (micros 1200) }

/-! ## Replies (R39, R40) -/

/-- A number of two bytes from a list, most significant first. -/
def pairAt (l : List Byte) (k : Nat) : Nat := (l.getD k 0).toNat * 256 + (l.getD (k + 1) 0).toNat

/-- The report for an outlet in the 26 characters of a reply; unused bits are ignored (11.5). -/
def reportAt (l : List Byte) (k : OutletNo) : Report :=
  let at' := 4 + 5 * k.val
  { closed := (l.getD at' 0).getLsbD 0, reset := (l.getD at' 0).getLsbD 1, power := pairAt l (at' + 1),
    energy := pairAt l (at' + 3) }

/-- The checks of R39 on a received frame, for the address its slot belongs to. -/
def replyValid (a : NodeNo) (chars : List LineChar) : Bool :=
  let l := chars.map LineChar.byte
  chars.length == 26 && chars.all LineChar.stopOk &&
    l.getD 0 0 == chainStart && l.getD 1 0 == replyKind &&
    crcBytes (l.take 24) == l.drop 24 &&
    l.getD 2 0 == addressByte a

/-- A discarded frame (R39): the discarded count of the slot's address rises by 1, saturating at 255. -/
def State.discardReply (a : NodeNo) (s : State) : State :=
  s.modNode a fun x => { x with discarded := min 255 (x.discarded + 1) }

/-- Step 2 of a valid reply: the node state changes (R41). Entering PRESENT changes the claim list (R92). -/
def State.nodeHeard (a : NodeNo) (call : Bool) (s : State) : State :=
  match call, (s.node a).state with
  | true, .absent => s.modNode a fun x => { x with state := .joining }
  | false, .joining => ((s.modNode a fun x => { x with state := .present }).latch .nodeJoined).promptEvaluation
  | false, .silent => (s.modNode a fun x => { x with state := .present }).promptEvaluation
  | _, _ => s

/-- A valid reply (R39, R40): the valid count, then steps 1 to 5. -/
def State.validReply (a : NodeNo) (call : Bool) (l : List Byte) (s : State) : State :=
  let restart := (l.getD 3 0).getLsbD 0
  let failsafe := (l.getD 3 0).getLsbD 1
  let s := s.modNode a fun x =>
    { x with valid := min 65535 (x.valid + 1), replied := true, missed := 0 }
  let s := s.nodeHeard a call
  let s := if restart then
      (outletsOf a).foldl (fun t o => t.modOutlet o fun x => { x with answered := false }) s
    else s
  let s := if failsafe then s.modNode a fun x => { x with failsafe := min 255 (x.failsafe + 1) } else s
  allOutletNos.foldl (fun t k => t.takeReport restart ⟨a, k⟩ (reportAt l k)) s

/-- The end of a slot: the evaluations the reply called for, then the next frame or the round end. -/
def State.endSlot (s : State) : State := s.settle.nextFrame

/-- The end of a reception with the characters received: checked, and discarded or processed (R39). -/
def State.receiveReply (a : NodeNo) (call : Bool) (chars : List LineChar) (s : State) : State :=
  if replyValid a chars then s.validReply a call (chars.map LineChar.byte) else s.discardReply a

end Sys2Proof.Machine
end

