-- ==== Sys2Proof/Machine/PageCode.lean ====
section
/-! DEFINITION. The check code of the settings page (R193): an extended Hamming code of 13 bits over the page's 283 bytes.
R193 gives the code's kind and size; which place each bit takes is the model's choice (log 39). -/

namespace Sys2Proof.Machine

/-- The bits of bytes in order, the most significant of each first. -/
def bitsOf (l : List Byte) : List Bool :=
  l.flatMap fun b => [b.getMsbD 0, b.getMsbD 1, b.getMsbD 2, b.getMsbD 3, b.getMsbD 4, b.getMsbD 5, b.getMsbD 6, b.getMsbD 7]

/-- The place of each of the page's 2,264 bits, in the page's order (log 39): the 2,248 bits of the first 281 bytes and the
three top bits of the check code, which are 0, take the places that are neither 0 nor a power of 2; then the overall
parity takes place 0, and the twelve check bits the powers of 2 from 2,048 down. -/
def pagePlaces : List Nat :=
  ((List.range 2264).filter fun p => p ≠ 0 && (p &&& (p - 1)) ≠ 0) ++
    [0, 2048, 1024, 512, 256, 128, 64, 32, 16, 8, 4, 2, 1]

/-- The exclusive or of the columns whose bits are set. -/
def sumOfSet : List Nat → List Bool → Nat
  | c :: columns, b :: bits => (if b then c else 0) ^^^ sumOfSet columns bits
  | _, _ => 0

/-- The column of each bit in the code's check: its place, and bit 12 for the overall parity. -/
def pageColumns : List Nat := pagePlaces.map (4096 + ·)

/-- The syndrome of bytes from the page's start: 0 when the check code matches; the column of a bit when that bit alone
is flipped. -/
def syndrome (page : List Byte) : Nat := sumOfSet pageColumns (bitsOf page)

/-- The check code of a page's first 281 bytes: the twelve check bits, then the parity bit, that make the syndrome 0. -/
def pageCode (data : List Byte) : List Byte :=
  let check := syndrome data % 4096
  byte2 (check + syndrome (data ++ byte2 check))

/-- A whole page: its first 281 bytes under a fresh check code. -/
def pageSeal (data : List Byte) : List Byte := data ++ pageCode data

/-- What the check code finds in a page. -/
def pageVerdict (page : List Byte) : Verdict :=
  if syndrome page = 0 then .clean else if syndrome page ∈ pageColumns then .oneFlip else .lost

/-- A page with one bit flipped, counted from the most significant bit of the first byte. -/
def flipBit (k : Nat) (page : List Byte) : List Byte := page.modify (k / 8) fun b => b ^^^ (0x80#8 >>> (k % 8))

/-- A page with the bit flipped that the syndrome names. -/
def pageCorrect (page : List Byte) : List Byte := flipBit (pageColumns.idxOf (syndrome page)) page

/-- A page whose write was cut: a check code that does not match the contents, two of its bits flipped, so that the load
finds it uncorrectable (R184; log 40). -/
def pageCut (data : List Byte) : List Byte := flipBit 2263 (flipBit 2262 (pageSeal data))

end Sys2Proof.Machine
end

