-- ==== Sys2Proof/Config.lean ====
section
/-! DEFINITION. What the manual leaves free, as constants with no body. -/

namespace Sys2Proof

/-- Whether the calibration attempt that a READINGS_GET meets has reached its conversion of channel 14 or is
still trimming (R154): the manual gives no event between the two. It decides the activity code of the reply
(11.3 "Converter activity", R157). A free value, drawn with the counter State.free (log 17). -/
opaque Config.calibrationConverting : Nat → Bool

/-- The first 281 bytes of a settings page whose write a reset cuts short (R184): the manual says that its check code
does not match, and not what it holds. A free value, drawn with the counter State.free (log 40). -/
opaque Config.cutPage : Nat → Vector Byte 281

end Sys2Proof
end

