-- ==== Sys2Proof/Machine/Operands.lean ====
section
/-! DEFINITION. Operand forms: what a byte of a request payload names (11.2, 11.3, R192), and the request kinds
with the payload lengths they take. -/

namespace Sys2Proof.Machine

/-! ## Numbers and codes -/

/-- A value 1..n as an index below n. -/
def indexFrom1 (n v : Nat) : Option (Fin n) := if h : v - 1 < n ∧ v ≠ 0 then some ⟨v - 1, h.1⟩ else none

/-- A value 0..n-1 as an index below n. -/
def indexFrom0 (n v : Nat) : Option (Fin n) := if h : v < n then some ⟨v, h⟩ else none

/-- A record number 1..64 (R6). -/
def recordNumber (b : Byte) : Option RecNo := indexFrom1 64 b.toNat

/-- A node address 1..16 (R48). -/
def nodeAddress (b : Byte) : Option NodeNo := indexFrom1 16 b.toNat

/-- A station number 1..3 (R138). -/
def stationNumber (b : Byte) : Option StationNo := indexFrom1 3 b.toNat

/-- A channel number 0..15 (R151). -/
def channelNumber (b : Byte) : Option ChannelNo := indexFrom0 16 b.toNat

/-- An outlet by its node 1..16 and outlet 1..4 (R7). -/
def outletId (node outlet : Byte) : Option OutletId :=
  match nodeAddress node, indexFrom1 4 outlet.toNat with
  | some a, some k => some ⟨a, k⟩
  | _, _ => none

/-- A class code of an allotment; WORKS and every other code names none (11.3, R192). -/
def AllotClass.ofCode (b : Byte) : Option AllotClass :=
  match b.toNat with
  | 1 => some .essential
  | 2 => some .publicLoad
  | 3 => some .domestic
  | 4 => some .deferrable
  | _ => none

/-- An allotment state code (11.3). -/
def RecState.ofCode (b : Byte) : Option RecState :=
  match b.toNat with
  | 0 => some .vacant
  | 1 => some .dormant
  | 2 => some .shed
  | 3 => some .restoring
  | 4 => some .live
  | 5 => some .tripped
  | 6 => some .quotaOut
  | 7 => some .retiring
  | 8 => some .suspect
  | _ => none

/-- A stage number 1..5 for A, B, C, D and trim (11.2). -/
def Stage.ofCode (b : Byte) : Option Stage :=
  match b.toNat with
  | 1 => some .a
  | 2 => some .b
  | 3 => some .c
  | 4 => some .d
  | 5 => some .trim
  | _ => none

/-! ## Ranges of the terms (01 1.1, R7) -/

/-- A rank of 0..63. -/
def rankOk (v : Nat) : Bool := v ≤ 63

/-- A demand cap of 50..8,000 W in steps of 10 W. -/
def capOk (v : Nat) : Bool := 50 ≤ v && v ≤ 8000 && v % 10 == 0

/-- A quota of 100..60,000 Wh. -/
def quotaOk (v : Nat) : Bool := 100 ≤ v && v ≤ 60000

/-! ## Request kinds (11.2) -/

/-- The 27 request kinds (R181). -/
inductive Kind where
  | allotCreate | allotAmend | allotActivate | allotSuspend | allotRetire | allotLookup | allotFind | allotList
  | tripClear | dayTurn | settingGet | settingPut | settingsStore | statusGet | restart | plantStart | plantStop
  | plantClear | plantGet | sawClear | sawGet | nodeGet | readingsGet | sampleNow | governorGet | stageRetest
  | reserveGet
  deriving DecidableEq, Repr

/-- The kind bytes (11.2). -/
def Kind.code : Kind → Byte
  | .allotCreate => 0x10 | .allotAmend => 0x11 | .allotActivate => 0x12 | .allotSuspend => 0x13
  | .allotRetire => 0x14 | .allotLookup => 0x15 | .allotFind => 0x16 | .allotList => 0x17 | .tripClear => 0x18
  | .dayTurn => 0x19 | .settingGet => 0x20 | .settingPut => 0x21 | .settingsStore => 0x22 | .statusGet => 0x23
  | .restart => 0x24 | .plantStart => 0x30 | .plantStop => 0x31 | .plantClear => 0x32 | .plantGet => 0x33
  | .sawClear => 0x40 | .sawGet => 0x41 | .nodeGet => 0x50 | .readingsGet => 0x60 | .sampleNow => 0x61
  | .governorGet => 0x70 | .stageRetest => 0x71 | .reserveGet => 0x80

/-- Every kind, in the order of the kind bytes. -/
def Kind.all : List Kind :=
  [.allotCreate, .allotAmend, .allotActivate, .allotSuspend, .allotRetire, .allotLookup, .allotFind, .allotList,
   .tripClear, .dayTurn, .settingGet, .settingPut, .settingsStore, .statusGet, .restart, .plantStart, .plantStop,
   .plantClear, .plantGet, .sawClear, .sawGet, .nodeGet, .readingsGet, .sampleNow, .governorGet, .stageRetest,
   .reserveGet]

/-- The kind a kind byte names, if any (R179 check 4). -/
def Kind.ofCode (b : Byte) : Option Kind := Kind.all.find? fun k => k.code == b

/-- The payload lengths a kind takes, least and greatest (11.2). -/
def Kind.lengths : Kind → Nat × Nat
  | .allotCreate => (10, 10)
  | .allotAmend => (12, 12)
  | .allotActivate | .allotSuspend | .allotRetire | .allotLookup | .tripClear => (1, 1)
  | .allotFind => (6, 6)
  | .allotList => (2, 2)
  | .dayTurn => (0, 0)
  | .settingGet => (2, 2)
  | .settingPut => (4, 19)
  | .settingsStore | .restart => (0, 0)
  | .statusGet => (1, 1)
  | .plantStart | .plantStop | .plantClear | .plantGet | .sawGet | .readingsGet | .governorGet | .reserveGet => (0, 0)
  | .sawClear | .nodeGet | .sampleNow | .stageRetest => (1, 1)

/-- Whether a payload length fits a kind (R179 check 5). -/
def Kind.lengthOk (k : Kind) (n : Nat) : Bool := k.lengths.1 ≤ n && n ≤ k.lengths.2

end Sys2Proof.Machine
end

