-- ==== Sys2Proof/Machine/Allotments.lean ====
section
/-! DEFINITION. The record requests as the Allotment Table answers them (01 1.5, R6 to R21), and the record image of
11.4. Each answers the state after the request and the reply. -/

namespace Sys2Proof.Machine

/-- What an owner makes of a request: the state it leaves and its answer. -/
abbrev Owner := State → State × Answer

/-- An answer with no change. -/
def refuse (st : Status) : Owner := fun s => (s, .of st)

/-- The checks 1 to 3 of R6 on a record number, then the request's own rule. -/
def onRecord (number : Byte) (act : RecNo → Owner) : Owner := fun s =>
  match recordNumber number with
  | none => (s, .of .badField)
  | some n =>
    let s := s.readRecord n
    if s.recState n = .vacant then (s, .of .noRecord) else act n s

/-! ## ALLOT_CREATE (R7) -/

/-- The lowest-numbered slot that a read leaves VACANT (R7; log 28). -/
def State.vacantSlot (s : State) : Option RecNo :=
  allRecords.find? fun n => s.recState n = .vacant && s.nva.slots[n].terms.verdict ≠ .lost

/-- The terms a new record takes (R7). -/
def newTerms (holder : Half) (o : OutletId) (c : AllotClass) (rank cap : Nat) (quota : Option Nat) : Terms :=
  { state := .dormant, holder := holder, outlet := some o, cls := some c, rank := rank, cap := cap, quota := quota,
    stagedClass := none, stagedRank := none }

/-- A record made in a slot, with its binding (R2, R7). -/
def State.createRecord (n : RecNo) (x : Terms) (o : OutletId) (s : State) : State :=
  ((s.setSlot n ⟨⟨x, .clean⟩, ⟨.zero, .clean⟩⟩).modWork n fun _ => .zero).setBinding o (some n)

/-- A quota field: 0 means no quota (11.2). -/
def quotaField (q : Half) : Option Nat := if q.toNat = 0 then none else some q.toNat

/-- Whether an optional quota is in range. -/
def quotaFieldOk (q : Option Nat) : Bool := q.all quotaOk

/-- ALLOT_CREATE (R7). -/
def allotCreate (holder : Half) (node outlet cls rank : Byte) (cap quota : Half) : Owner := fun s =>
  match outletId node outlet, AllotClass.ofCode cls with
  | some o, some c =>
    let q := quotaField quota
    if rankOk rank.toNat && capOk cap.toNat && quotaFieldOk q && !(c == .essential && q.isSome) then
      match s.vacantSlot with
      | none => (s, .of .noSlot)
      | some n =>
        let s := s.readBinding o
        if (s.boundTo o).isSome then (s, .of .outletTaken)
        else (s.createRecord n (newTerms holder o c rank.toNat cap.toNat q) o, .done (byte1 (RecNo.number n)))
    else (s, .of .badField)
  | _, _ => (s, .of .badField)

/-! ## ALLOT_AMEND (R8 to R12) -/

/-- What an ALLOT_AMEND carries, decoded: absent where its presence bit is clear. The quota field is absent, or a new
quota that may itself be absent ("remove quota"). -/
structure Amendment where
  holder : Option Half
  cap    : Option Nat
  quota  : Option (Option Nat)
  cls    : Option AllotClass
  rank   : Option Nat
  outlet : Option OutletId
  deriving DecidableEq, Repr

/-- Whether all six fields are carried (R12). -/
def Amendment.full (m : Amendment) : Bool :=
  m.holder.isSome && m.cap.isSome && m.quota.isSome && m.cls.isSome && m.rank.isSome && m.outlet.isSome

/-- The ranges of the carried cap, quota and rank (R8); class and outlet are in range once decoded. -/
def Amendment.inRange (m : Amendment) : Bool :=
  m.cap.all capOk && m.quota.all quotaFieldOk && m.rank.all rankOk

/-- The code check of R192: presence bit 7 clear, bits 2 and 3 not both set, and a carried class code in its table. -/
def amendCodesOk (presence cls : Byte) : Bool :=
  !presence.getLsbD 7 && !(presence.getLsbD 2 && presence.getLsbD 3) &&
    (!presence.getLsbD 4 || (AllotClass.ofCode cls).isSome)

/-- Whether a carried outlet is one of the 64. -/
def amendOutletOk (presence node outlet : Byte) : Bool := !presence.getLsbD 6 || (outletId node outlet).isSome

/-- The fields whose presence bit is set (11.2). -/
def amendment (presence : Byte) (holder cap quota : Half) (cls rank node outlet : Byte) : Amendment :=
  { holder := if presence.getLsbD 0 then some holder else none
    cap := if presence.getLsbD 1 then some cap.toNat else none
    quota := if presence.getLsbD 3 then some none else if presence.getLsbD 2 then some (some quota.toNat) else none
    cls := if presence.getLsbD 4 then AllotClass.ofCode cls else none
    rank := if presence.getLsbD 5 then some rank.toNat else none
    outlet := if presence.getLsbD 6 then outletId node outlet else none }

/-- The outlet an amendment moves a record to: carried, and different from its present one (R8, R11). -/
def Amendment.move (m : Amendment) (present : Option OutletId) : Option OutletId :=
  match m.outlet with
  | some o => if present = some o then none else some o
  | none => none

/-- The ESSENTIAL test (R8): whether the record would have a quota while its applied class, or its staged class as the
request leaves it, is ESSENTIAL. A full rewrite of a SUSPECT record applies its class at once and discards the staged
set, so the class carried is the one tested (R12; log 19). -/
def Amendment.essentialWithQuota (m : Amendment) (x : Terms) : Bool :=
  let quota := m.quota.getD x.quota
  if x.state = .suspect then quota.isSome && m.cls == some .essential
  else quota.isSome && (x.cls == some .essential || (m.cls.orElse fun _ => x.stagedClass) == some .essential)

/-- The first three checks of R8 after the number check, which look at no outlet. -/
def Amendment.checkFields (m : Amendment) (rangesOk : Bool) (x : Terms) : Option Status :=
  if x.state = .retiring then some .wrongState
  else if !rangesOk then some .badField
  else if x.state = .suspect ∧ m.full = false then some .wrongState
  else none

/-- The other checks of R8, in order. `taken` says that the map names another record for the outlet it moves to. -/
def Amendment.checkOutlet (m : Amendment) (taken : Bool) (x : Terms) (present : Option OutletId) : Option Status :=
  if (m.move present).isSome ∧ x.state ≠ .dormant ∧ x.state ≠ .suspect then some .wrongState
  else if (m.move present).isSome ∧ taken then some .outletTaken
  else if m.essentialWithQuota x then some .badField
  else none

/-- The checks of R8 after the number check, in order; none when the request passes. -/
def Amendment.check (m : Amendment) (rangesOk taken : Bool) (x : Terms) (present : Option OutletId) : Option Status :=
  (m.checkFields rangesOk x).orElse fun _ => m.checkOutlet taken x present

/-- The terms an accepted amendment leaves (R9, R10): holder, cap and quota at once, class and rank staged. -/
def Amendment.amend (m : Amendment) (x : Terms) : Terms :=
  { x with holder := m.holder.getD x.holder, cap := m.cap.getD x.cap, quota := m.quota.getD x.quota,
           stagedClass := m.cls.orElse fun _ => x.stagedClass,
           stagedRank := m.rank.orElse fun _ => x.stagedRank }

/-- The terms a full rewrite of a SUSPECT record leaves (R12): the carried values applied at once, state DORMANT. -/
def Amendment.rewrite (m : Amendment) (x : Terms) : Terms :=
  { state := .dormant, holder := m.holder.getD x.holder, outlet := m.outlet.orElse fun _ => x.outlet,
    cls := m.cls.orElse fun _ => x.cls, rank := m.rank.getD x.rank, cap := m.cap.getD x.cap,
    quota := m.quota.getD x.quota, stagedClass := none, stagedRank := none }

/-- Move a record to another outlet (R11). -/
def State.moveOutlet (n : RecNo) (o : OutletId) (s : State) : State :=
  (((s.unbind n).setBinding o (some n)).modTerms n fun x => { x with outlet := some o }).modWork n fun w =>
    { w with baseline := none, reading := none, fresh := false, openRun := 0, closedRun := 0 }

/-- An accepted amendment takes effect (R9 to R12). -/
def State.amendRecord (n : RecNo) (m : Amendment) (s : State) : State :=
  let present := s.outletOf n
  let suspect := s.recState n = .suspect
  let s := s.modTerms n (if suspect then m.rewrite else m.amend)
  let s := match m.move present with
    | some o => s.moveOutlet n o
    | none => s
  if suspect then s else s.quotaTest n

/-- The map reads that the outlet checks make (R2, R28): for a SUSPECT record what names its outlet, and for a record that
may move the entry of the outlet it moves to. -/
def State.readMove (n : RecNo) (m : Amendment) (s : State) : State :=
  let s := s.readPlace n
  match m.move (s.outletOf n) with
  | some o => if s.recState n = .dormant ∨ s.recState n = .suspect then s.readBinding o else s
  | none => s

/-- Whether the map names another record for the outlet moved to. -/
def State.moveTaken (m : Amendment) (present : Option OutletId) (n : RecNo) (s : State) : Bool :=
  match m.move present with
  | some o => (match s.boundTo o with | some k => k ≠ n | none => false)
  | none => false

/-- ALLOT_AMEND (R8), after the code check of R192. -/
def allotAmend (number presence : Byte) (holder cap quota : Half) (cls rank node outlet : Byte) : Owner :=
  if amendCodesOk presence cls then
    onRecord number fun n s =>
      let m := amendment presence holder cap quota cls rank node outlet
      match m.checkFields (m.inRange && amendOutletOk presence node outlet) (s.terms n) with
      | some st => (s, .of st)
      | none =>
        let s := s.readMove n m
        match m.checkOutlet (s.moveTaken m (s.outletOf n) n) (s.terms n) (s.outletOf n) with
        | some st => (s, .of st)
        | none => (s.amendRecord n m, .of .done)
  else refuse .badField

/-! ## State requests (R13 to R15, R20) -/

/-- A DORMANT record activated (R13): SHED with hold-off 0 and no cause. One whose tally has reached its quota becomes
QUOTA_OUT instead and keeps its cause (R5). -/
def State.activateRecord (n : RecNo) (s : State) : State :=
  if s.quotaSpent n then s.become n .quotaOut
  else (s.modAccount n fun a => { a with cause := none }).become n .shed

/-- ALLOT_ACTIVATE (R13). -/
def allotActivate (number : Byte) : Owner := onRecord number fun n s =>
  if s.recState n = .dormant then (s.activateRecord n, .of .done) else (s, .of .wrongState)

/-- Whether ALLOT_SUSPEND takes a state (R14). -/
def RecState.suspendable : RecState → Bool
  | .shed | .restoring | .live | .tripped | .quotaOut => true
  | _ => false

/-- A record suspended (R14). -/
def State.suspendRecord (n : RecNo) (s : State) : State :=
  ((s.become n .dormant).modAccount n fun a => { a with cause := some .suspended }).modWork n fun w =>
    { w with preShed := none, cooloff := 0, cooloffFrac := 0, holdoff := 0, holdoffFrac := 0, liveTimer := 0,
             liveFrac := 0, overRun := 0, openRun := 0 }

/-- ALLOT_SUSPEND (R14). -/
def allotSuspend (number : Byte) : Owner := onRecord number fun n s =>
  if (s.recState n).suspendable then (s.suspendRecord n, .of .done) else (s, .of .wrongState)

/-- The state of the node a record's outlet is on. -/
def State.nodeStateOf (s : State) (n : RecNo) : Option NodeState :=
  (s.outletOf n).map fun o => (s.node o.node).state

/-- A record retired (R15). -/
def State.retireRecord (n : RecNo) (s : State) : State :=
  match s.recState n with
  | .retiring | .vacant => s
  | .restoring | .live =>
    if s.nodeStateOf n = some .present ∨ s.nodeStateOf n = some .joining then s.become n .retiring
    else (s.openRecord n).vacate n
  | .dormant | .shed | .tripped | .quotaOut | .suspect => (s.openRecord n).vacate n

/-- ALLOT_RETIRE (R15). -/
def allotRetire (number : Byte) : Owner := onRecord number fun n s => ((s.readPlace n).retireRecord n, .of .done)

/-- TRIP_CLEAR (R20). -/
def tripClear (number : Byte) : Owner := onRecord number fun n s =>
  if s.recState n = .tripped then (s.enterShed n, .of .done) else (s, .of .wrongState)

/-! ## Reads (R17 to R19) -/

/-- Node and outlet numbers of an outlet, 0 for none. -/
def outletBytes : Option OutletId → List Byte
  | some o => byte1 (o.node.val + 1) ++ byte1 (o.outlet.val + 1)
  | none => byte1 0 ++ byte1 0

/-- The record image (11.4), on the record as it stands after the read. -/
def State.recordImage (s : State) (n : RecNo) : List Byte :=
  let x := s.terms n
  let a := s.account n
  let w := s.work n
  let place := s.outletOf n
  let presence := marks [x.quota.isSome, x.stagedClass.isSome, x.stagedRank.isSome, a.cause.isSome, w.reading.isSome,
    w.fresh, w.preShed.isSome, w.baseline.isSome]
  byte1 (RecNo.number n) ++ byte1 x.state.code ++ byte2 x.holder.toNat ++ outletBytes place ++
  byte1 ((x.cls.map AllotClass.code).getD 0) ++ byte1 x.rank ++ byte2 x.cap ++ byte1 presence ++
  byte2 (x.quota.getD 0) ++ byte1 ((x.stagedClass.map AllotClass.code).getD 0) ++ byte1 (x.stagedRank.getD 0) ++
  byte2 a.today ++ byte3 a.kwh ++ byte2 a.wh ++ byte1 a.recent ++ byte1 ((a.cause.map ShedCause.code).getD 0) ++
  byte1 a.corrected ++ byte2 (w.reading.getD 0) ++ byte2 (w.preShed.getD 0) ++ byte2 (w.baseline.getD 0) ++
  byte1 w.overRun ++ byte1 w.openRun ++ byte1 w.closedRun ++ byte2 w.liveTimer ++ byte1 w.holdoff ++
  byte2 w.cooloff ++ byte1 ((place.map fun o => (s.outlet o).code).getD 0)

/-- ALLOT_LOOKUP (R17). For a SUSPECT record the outlet is read from the map under its check code (R28). -/
def allotLookup (number : Byte) : Owner := onRecord number fun n s =>
  let s := s.readPlace n
  (s, .done (s.recordImage n))

/-- Read every record from a number to 64 (log 20). -/
def State.readFrom (start : RecNo) (s : State) : State := s.readEach fun _ n => start ≤ n

/-- The reply of a search: a count of at most 8, that many numbers, and the more mark (11.2). -/
def searchReply (found : List RecNo) : List Byte :=
  let shown := found.take 8
  byte1 shown.length ++ shown.map (fun n => BitVec.ofNat 8 (RecNo.number n)) ++ byte1 (decide (8 < found.length)).toNat

/-- The records a search by tag finds (R18). -/
def State.tagged (s : State) (tag : Half) (start : RecNo) : List RecNo :=
  allRecords.filter fun n =>
    decide (start ≤ n) && s.recState n ≠ .vacant && s.recState n ≠ .suspect && (s.terms n).holder == tag

/-- ALLOT_FIND (R18). -/
def allotFind (key : Byte) (tag : Half) (start node outlet : Byte) : Owner := fun s =>
  match key.toNat with
  | 1 =>
    match recordNumber start with
    | some n =>
      let s := s.readFrom n
      (s, .done (searchReply (s.tagged tag n)))
    | none => (s, .of .badField)
  | 2 =>
    match outletId node outlet with
    | some o =>
      let s := s.readBinding o
      (s, .done (searchReply (s.boundTo o).toList))
    | none => (s, .of .badField)
  | _ => (s, .of .badField)

/-- The records in a state (R19). -/
def State.inState (s : State) (st : RecState) (start : RecNo) : List RecNo :=
  allRecords.filter fun n => decide (start ≤ n) && s.recState n = st

/-- ALLOT_LIST (R19). -/
def allotList (state start : Byte) : Owner := fun s =>
  match RecState.ofCode state, recordNumber start with
  | some st, some n =>
    let s := s.readFrom n
    (s, .done (searchReply (s.inState st n)))
  | _, _ => (s, .of .badField)

/-! ## DAY_TURN (R21) -/

/-- One record at the day turn: its tally and recent sheds become 0, and QUOTA_OUT becomes SHED with hold-off 0. -/
def State.turnRecord (n : RecNo) (s : State) : State :=
  if s.recState n = .vacant then s
  else
    let s := s.modAccount n fun a => { a with today := 0, recent := 0 }
    if s.recState n = .quotaOut then s.become n .shed else s

/-- Whether DAY_TURN reads a slot: every non-VACANT record, one with a lost terms section among them (R21, R29). -/
def State.readAtTurn (s : State) (n : RecNo) : Bool :=
  s.recState n ≠ .vacant || s.nva.slots[n].terms.verdict = .lost

/-- DAY_TURN (R21). -/
def dayTurn : Owner := fun s =>
  (s.eachRecord fun n t => if t.readAtTurn n then (t.readRecord n).turnRecord n else t, .of .done)

end Sys2Proof.Machine
end

