-- ==== Sys2Proof/Machine/Plant.lean ====
section
/-! DEFINITION. The Water and Gate Controller: gate moves, the plant states and their entries, trips, the level
evaluation, and the rack and head checks (chapter 9). -/

namespace Sys2Proof.Machine

/-! ## Gate moves (R173 to R175) -/

/-- The time from one step pulse to the next: 500 per second, or 1,000 while emergency-close is set (R174). -/
def State.pulsePeriod (s : State) : Nat := if s.wgc.emergency then millis 1 else millis 2

/-- Whether a channel 3 value lies within 5 per mille of the target (R174). -/
def State.atTarget (s : State) (v : Int) : Bool := decide ((v - (s.wgc.gateTarget : Int)).natAbs ≤ 5)

/-- The direction toward the target from a channel 3 value (R174). -/
def State.toward (s : State) (v : Int) : GateDirection := if v < s.wgc.gateTarget then .open else .close

/-- Stepping with the direction from a value. -/
def State.stepToward (v : Int) (s : State) : State :=
  s.modWgc fun w => { w with move := .stepping, direction := s.toward v, pulse := w.pulse.startIfStopped s.pulsePeriod }

/-- The move becomes CHECKING: no pulses, and slot 2 is triggered (R174). -/
def State.checkGate (s : State) : State :=
  (s.modWgc fun w => { w with move := .checking, pulse := none }).triggerGate

/-- The start of a move, or its restart on a replacement (R174): the timeout runs for 20 s afresh, and the latest
channel 3 value decides between CHECKING, STEPPING with a direction and, when ABSENT, STEPPING without one. -/
def State.startMove (s : State) : State :=
  let s := s.modWgc fun w => { w with timeout := some (seconds 20) }
  match (s.reading 3).value with
  | some v => if s.atTarget v then s.checkGate else s.stepToward v
  | none => s.modWgc fun w => { w with move := .stepping, direction := .none, pulse := none }

/-- A setting of the gate target (R173): a target equal to the present one while the move is IDLE does nothing. -/
def State.setTarget (target : Nat) (s : State) : State :=
  if s.wgc.gateTarget = target ∧ s.wgc.move = .idle then s
  else (s.modWgc fun w => { w with gateTarget := target }).startMove

/-- A completion of channel 3 at a gate move (R174). STEPPING takes the direction from any completion and ends when the
value is within 5 per mille; CHECKING is judged at a completion of slot 2 alone; IDLE and FAULTED take nothing. -/
def State.gateReading (v : Int) (fromSlot2 : Bool) (s : State) : State :=
  match s.wgc.move with
  | .stepping => if s.atTarget v then s.checkGate else s.stepToward v
  | .checking =>
    if fromSlot2 then
      if s.atTarget v then s.modWgc fun w => { w with move := .idle, timeout := none } else s.stepToward v
    else s
  | .idle | .faulted => s

/-! ## What a change of plant state does at the other blocks -/

/-- The Supply Ladder's actions on entry to the present plant state (R115, R117, R118). -/
def State.ladderTakesPlant (s : State) : State :=
  match s.plant with
  | .waterShort => s.waterShortShed
  | .runDown | .tripped => s.plantShed
  | .runUp => s.openEveryOutlet
  | .standstill | .onLine => s

/-- The Saw Permit Unit's actions on entry to the present plant state (R132). -/
def State.stationsTakePlant (s : State) : State :=
  match s.plant with
  | .waterShort => s.abortEngaging .abortWaterShort
  | .runDown | .tripped => (s.abortEngaging .abortPlant).eachStation fun i t => t.windDown i
  | _ => s

/-- The governor's action: entry to STANDSTILL makes it INACTIVE (R71). -/
def State.governorTakesPlant (s : State) : State := if s.plant = .standstill then s.governorInactive else s

/-- A change of plant state reaches the governor, the ladder with its step and collapse tests (R107, R110), the
stations, the slip check (R63) and the Reserve Unit (R92), in this order (log 12). -/
def State.plantChanged (s : State) : State :=
  s.governorTakesPlant.ladderTakesPlant.stepTest.collapseTests.stationsTakePlant.slipTest.promptEvaluation

/-! ## Entries to the plant states -/

/-- Stop the timers that every exit from supply stops, and clear the pending level evaluation (R164, R168). -/
def Wgc.quiet (w : Wgc) : Wgc :=
  { w with sync := none, runup := none, short := none, recovery := none, level := none, evalPending := false,
           wasteHeld := false }

/-- A trip cause is taken (R168): nothing in STANDSTILL; in TRIPPED the first cause is kept and a FAULTED move starts
afresh; in every other state the plant becomes TRIPPED. An exit from WATER-SHORT by a trip latches no WATER_SHORT: the
model's choice between 10.5 and R163 (log 43). -/
def State.trip (cause : TripCause) (s : State) : State :=
  match s.plant with
  | .standstill => s
  | .tripped => if s.wgc.move = .faulted then s.startMove else s
  | _ =>
    let s := s.modPlantRecord fun r => { r with cause := some cause }
    let s := s.modWgc fun w =>
      { w.quiet with plant := .tripped, emergency := true, freqOver := none, shaftOver := none }
    ((s.setTarget 0).latch .trip).plantChanged

/-- A run-down cause is taken (R164): from RUN-UP, ON-LINE and WATER-SHORT the plant enters RUN-DOWN; in every other
state nothing changes. An exit from WATER-SHORT so latches no WATER_SHORT: the model's choice between 10.5 and R163
(log 43). -/
def State.runDown (s : State) : State :=
  match s.plant with
  | .runUp | .onLine | .waterShort =>
    (((s.modWgc fun w => { w.quiet with plant := .runDown }).setTarget 0).latch .runDown).plantChanged
  | _ => s

/-- Entry to STANDSTILL from RUN-DOWN (R166): the watch timers stop (R167) and the target stays 0. -/
def State.enterStandstill (s : State) : State :=
  (s.modWgc fun w => { w with plant := .standstill, freqOver := none, shaftOver := none }).plantChanged

/-- Entry to STANDSTILL by PLANT_CLEAR (R169): the cause is erased, emergency-close cleared, and a FAULTED move toward
0 starts anew. -/
def State.clearTrip (s : State) : State :=
  let s := s.modPlantRecord fun r => { r with cause := none }
  let s := s.modWgc fun w => { w with emergency := false, plant := .standstill, freqOver := none, shaftOver := none }
  let s := if s.wgc.move = .faulted then s.startMove else s
  s.plantChanged

/-- Whether the bearing alarm of channel 10 or 11 is raised. -/
def State.bearingAlarm (s : State) : Bool := (s.reading 10).alarm || (s.reading 11).alarm

/-- Entry to RUN-UP (R161). A bearing alarm raised at that moment trips the plant at once. -/
def State.enterRunUp (s : State) : State :=
  let s := s.modWgc fun w =>
    { w with plant := .runUp, emergency := false, runup := some (seconds s.set.runupTime), sync := none }
  let s := (s.setTarget (min s.set.runupGate s.set.gateCeiling)).plantChanged
  if s.bearingAlarm then s.trip .bearingHot else s

/-- LEVEL_INTERVAL in counts. -/
def State.levelInterval (s : State) : Nat := seconds s.set.levelInterval

/-- Entry to ON-LINE from RUN-UP (R161, R170): the synchronising and run-up timers stop, the level timer starts with the
waste mark set, and the short test is made (R162). -/
def State.goOnLine (s : State) : State :=
  let s := s.modWgc fun w =>
    { w with plant := .onLine, sync := none, runup := none, level := some s.levelInterval, waste := true }
  s.shortTest.plantChanged

/-- Entry to WATER-SHORT (R162). -/
def State.enterWaterShort (s : State) : State :=
  ((s.modWgc fun w => { w with plant := .waterShort, short := none }).latch .waterShort).plantChanged

/-- Return from WATER-SHORT to ON-LINE (R163): WATER_SHORT is latched again. -/
def State.leaveWaterShort (s : State) : State :=
  ((s.modWgc fun w => { w with plant := .onLine, recovery := none }).latch .waterShort).shortTest.plantChanged

/-! ## Rest (R166) -/

/-- The machine is at rest: the shaft speed valid and below 50 per mille, or invalid with the governor INACTIVE. -/
def State.atRest (s : State) : Bool :=
  if s.shaftValid then s.fsu.shaftSpeed < 50 else s.bgv.state = .inactive

/-- The gate is closed: channel 3 FRESH at 5 per mille or less. -/
def State.gateClosed (s : State) : Bool :=
  match s.freshValue 3 with
  | some v => decide (v ≤ 5)
  | none => false

/-- The rest test, made in RUN-DOWN (R166). -/
def State.restTest (s : State) : State :=
  if s.plant = .runDown && s.atRest && s.gateClosed then s.enterStandstill else s

/-- The reverse test at a window end (R167): in QUADRATURE, valid, REVERSE and above 20 per mille. -/
def State.reverseTest (s : State) : State :=
  if s.set.pickupMode = .quadrature && s.shaftValid && s.fsu.direction = .reverse && decide (20 < s.fsu.shaftSpeed)
  then s.trip .reverse else s

/-! ## Level following (R170, R171) -/

/-- Whether the plant is in RUN-UP, ON-LINE or WATER-SHORT, where the water can stop it (R164). -/
def State.stoppable (s : State) : Bool := s.plant = .runUp || s.plant = .onLine || s.plant = .waterShort

/-- The cases of a level evaluation (R171). -/
inductive LevelCase where
  | residual | high | low | waste | none
  deriving DecidableEq, Repr

/-- The case a level evaluation takes at a level, the first that applies (R171). -/
def State.levelCase (v : Int) (s : State) : LevelCase :=
  if (match s.freshValue 12 with | some r => decide (r < s.set.residualLevel) | none => false) then .residual
  else if v > (s.set.targetLevel : Int) + s.set.deadband then .high
  else if v < (s.set.targetLevel : Int) - s.set.deadband then .low
  else if s.wgc.wasteHeld && decide (v < s.set.targetLevel) then .waste
  else .none

/-- The target a case asks for, limited to GATE_FLOOR..GATE_CEILING (R171). -/
def State.levelTarget (c : LevelCase) (s : State) : Nat :=
  let raw := match c with
    | .residual | .low | .waste => s.wgc.gateTarget - s.set.gateStep
    | .high => s.wgc.gateTarget + s.set.gateStep
    | .none => s.wgc.gateTarget
  max s.set.gateFloor (min raw s.set.gateCeiling)

/-- A change of target starts or replaces a move and prompts the short test (R171, R162); an unchanged one does
neither. -/
def State.changeTarget (target : Nat) (s : State) : State :=
  if target = s.wgc.gateTarget then s else (s.setTarget target).shortTest

/-- The level evaluation at a completion of channel 0 (R171; log 36 for an evaluation that takes no case). -/
def State.levelEvaluation (v : Int) (s : State) : State :=
  let c := s.levelCase v
  let target := s.levelTarget c
  let s := if c = .residual ∧ s.wgc.residual = false then s.latch .residualShort else s
  let s := s.modWgc fun w => { w with residual := decide (c = .residual), evalPending := false, wasteHeld := false }
  s.changeTarget target

/-! ## Rack and head (R172) -/

/-- The rack check at a completion of channel 1 with channel 0 FRESH. -/
def State.rackCheck (s : State) : State :=
  match s.freshValue 0, s.freshValue 1 with
  | some level, some forebay =>
    let d := level - forebay
    let high := decide ((s.set.rackAlarm : Int) ≤ d)
    let s := if high && !s.wgc.rackAlarm then s.latch .rackAlarm else s
    let s := s.modWgc fun w => { w with rackDiff := some d, rackAlarm := high }
    if (s.set.rackTrip : Int) ≤ d then s.runDown else s
  | _, _ => s

/-- The head check at a completion of channel 0 or 2 with both FRESH. -/
def State.headCheck (s : State) : State :=
  match s.freshValue 0, s.freshValue 2 with
  | some level, some tail =>
    let h := level - tail
    let s := s.modWgc fun w => { w with netHead := some h }
    if h < s.set.headMin then s.runDown else s
  | _, _ => s

/-- A completion of channel 0 (R162 to R165, R171, R172), in the order of log 12. -/
def State.levelReading (v : Int) (s : State) : State :=
  let s := s.modWgc fun w => { w with levelLost := none }
  let s := if v < s.set.stopLevel then s.runDown else s
  let s := s.headCheck
  let s := if s.plant = .waterShort ∧ (s.set.targetLevel : Int) + s.set.deadband ≤ v then s.leaveWaterShort else s
  let s := if s.wgc.evalPending then s.levelEvaluation v else s
  s.shortTest

/-- What the Water and Gate Controller does at a completion of a channel (R143 step 4). -/
def State.waterReading (c : ChannelNo) (v : Int) (fromSlot2 : Bool) (s : State) : State :=
  match c.val with
  | 0 => s.levelReading v
  | 1 => s.rackCheck
  | 2 => s.headCheck
  | 3 => (s.gateReading v fromSlot2).restTest
  | _ => s

/-! ## Timers of this chapter -/

/-- The frequency becomes invalid or valid, or a period event: the in-step and overspeed tests (R161, R167). -/
def State.waterTakesFrequency (s : State) : State := s.inStepTest.freqOverTest

/-- The level timer's expiry (R170). -/
def State.levelExpiry (s : State) : State :=
  s.modWgc fun w =>
    { w with level := some s.levelInterval, evalPending := true, wasteHeld := w.waste, waste := true }

/-- The level-lost timer's expiry (R165). -/
def State.levelLostExpiry (s : State) : State :=
  ((s.modWgc fun w => { w with levelLost := none }).latch .levelLost).runDown

/-- The gate timeout's expiry (R175): the pulses stop, the move becomes FAULTED, and GATE_FAULT is handed on. -/
def State.gateTimeout (s : State) : State :=
  (s.modWgc fun w => { w with timeout := none, pulse := none, move := .faulted }).trip .gateFault

end Sys2Proof.Machine
end

