-- ==== Sys2Proof/Machine/Governor.lean ====
section
/-! DEFINITION. The Ballast Governor: the integrator limit, the computation, bank switching, stage health and the hold
timer (chapter 4). -/

namespace Sys2Proof.Machine

/-! ## Stages -/

/-- The health of a stage. -/
def Healths.get (h : Healths) : Stage → Health
  | .a => h.a | .b => h.b | .c => h.c | .d => h.d | .trim => h.trim

/-- The health of one stage replaced. -/
def Healths.put (h : Healths) (v : Health) : Stage → Healths
  | .a => { h with a := v }
  | .b => { h with b := v }
  | .c => { h with c := v }
  | .d => { h with d := v }
  | .trim => { h with trim := v }

/-- A stage that is not FAULTED counts as fit; an UNTESTED one does (R74). -/
def Healths.fit (h : Healths) (g : Stage) : Bool := h.get g ≠ .faulted

/-- The weight of a bank in coarse units (04 4.1); the trim stage has none. -/
def Stage.weight : Stage → Nat
  | .a => 8 | .b => 4 | .c => 2 | .d => 1 | .trim => 0

/-- STAGE_AMPS of a stage. -/
def State.stageAmps (s : State) : Stage → Nat
  | .a => s.set.stageAmps[0] | .b => s.set.stageAmps[1] | .c => s.set.stageAmps[2] | .d => s.set.stageAmps[3]
  | .trim => s.set.stageAmps[4]

/-! ## The limits (R74) -/

/-- The sum of the weights of the banks that are not FAULTED. -/
def Healths.coarseCapacity (h : Healths) : Nat :=
  (if h.fit .a then 8 else 0) + (if h.fit .b then 4 else 0) + (if h.fit .c then 2 else 0) + (if h.fit .d then 1 else 0)

/-- Cmax, the largest demand the healthy stages can realise. -/
def Healths.capacity (h : Healths) : Nat := 256 * h.coarseCapacity + (if h.fit .trim then 255 else 0)

/-- Imax, the integrator limit. -/
def Healths.integLimit (h : Healths) : Nat := h.capacity * 256 + 255

/-! ## The computation (R72 to R76) -/

/-- A value clamped to a range. -/
def clampInt (lo hi v : Int) : Int := max lo (min v hi)

/-- Step 1: the error (R72). -/
def govError (f fset : Nat) : Int := clampInt (-2000) 2000 ((f : Int) - (fset : Int))

/-- Steps 2 and 4: a sum clamped to 0..Imax. -/
def clampLimit (limit : Nat) (v : Int) : Nat := (clampInt 0 limit v).toNat

/-- Step 6, coarse level (R75): banks are taken from the heaviest down while they fit. For the weights 8, 4, 2 and 1 the
sum so taken is the largest achievable one. -/
def coarseBanks (h : Healths) (q : Nat) : Banks :=
  let a := h.fit .a && decide (8 ≤ q)
  let q := if a then q - 8 else q
  let b := h.fit .b && decide (4 ≤ q)
  let q := if b then q - 4 else q
  let c := h.fit .c && decide (2 ≤ q)
  let q := if c then q - 2 else q
  let d := h.fit .d && decide (1 ≤ q)
  { a := a, b := b, c := c, d := d }

/-- The sum of the weights of a bank set. -/
def Banks.level (x : Banks) : Nat :=
  (if x.a then 8 else 0) + (if x.b then 4 else 0) + (if x.c then 2 else 0) + (if x.d then 1 else 0)

/-- The computation on a frequency, from the settings and the state before it (R72 to R76): error, integrator,
proportional term, sum, demand, mapping and reserve. The governor is ACTIVE after it and the hold timer stopped
(R68). -/
def Bgv.compute (set : Settings) (f : Nat) (b : Bgv) : Bgv :=
  let limit := b.health.integLimit
  let err := govError f set.fset
  let integ := clampLimit limit ((b.integ : Int) + (set.ki : Int) * err)
  let sum := clampLimit limit ((integ : Int) + (set.kp : Int) * err)
  let demand := sum / 256
  let target := coarseBanks b.health (demand / 256)
  let coarse := target.level
  let trim := if b.health.fit .trim then min (demand - 256 * coarse) 255 else 0
  let effective := 256 * coarse + trim
  { b with state := .active, err := err, integ := integ, demand := demand, coarse := coarse, trim := trim,
           effective := effective, reserve := effective * set.ballastFull / 4096, target := target, hold := none }

/-- A period event at the governor (R68): INACTIVE in STANDSTILL it does nothing; in every other case it computes. A
trim duty that rises from below 128 to 128 or more starts the trim's test (R79). The computation ends with a governor
update (R76). -/
def State.governorPeriod (s : State) : State :=
  if s.plant = .standstill then s
  else
    let before := s.bgv.trim
    let s := s.modBgv fun b => b.compute s.set s.fsu.freq
    let s := if before < 128 ∧ 128 ≤ s.bgv.trim then s.triggerStage .trim else s
    s.governorUpdate

/-! ## Switching (R77, R79) -/

/-- A bank's membership of a set. -/
def Banks.has (x : Banks) : Stage → Bool
  | .a => x.a | .b => x.b | .c => x.c | .d => x.d | .trim => false

/-- Start the test of a bank that a switching instant turned on (R79). -/
def State.testIfJoined (before : Banks) (g : Stage) (s : State) : State :=
  if s.bgv.switched.has g && !before.has g then s.triggerStage g else s

/-- A switching instant (R77): in ACTIVE or HOLDING the switched set takes the target set, and each bank turned on is
tested. -/
def State.switchingInstant (s : State) : State :=
  if s.bgv.state = .inactive then s
  else
    let before := s.bgv.switched
    let s := s.modBgv fun b => { b with switched := b.target }
    (((s.testIfJoined before .a).testIfJoined before .b).testIfJoined before .c).testIfJoined before .d

/-! ## Stage health (R80 to R82) -/

/-- Whether a stage is on: a bank in the switched set, the trim at duty 128 or more (R80). -/
def Bgv.on (b : Bgv) : Stage → Bool
  | .trim => 128 ≤ b.trim
  | g => b.switched.has g

/-- A stage becomes FAULTED (R81): Imax is recomputed, I clamped to it, and BANK_FAULT latched. -/
def State.faultStage (g : Stage) (s : State) : State :=
  (s.modBgv fun b =>
    let h := b.health.put .faulted g
    { b with health := h, integ := min b.integ h.integLimit }).latch .bankFault

/-- The judgement of a slot 1 result (R80). A stage that is off, or FAULTED until it is retested, is not judged. -/
def State.judgeStage (g : Stage) (v : Int) (s : State) : State :=
  if s.bgv.on g = false ∨ s.bgv.health.get g = .faulted then s
  else if (s.stageAmps g : Int) ≤ 2 * v then s.modBgv fun b => { b with health := b.health.put .healthy g }
  else s.faultStage g

/-! ## HOLDING (R69, R70) -/

/-- The loss of the frequency at an ACTIVE governor (R69). -/
def State.governorLosesFrequency (s : State) : State :=
  if s.bgv.state = .active then s.modBgv fun b => { b with state := .holding, hold := some (seconds 1) } else s

/-- The hold timer's expiry (R70). In RUN-UP, ON-LINE and WATER-SHORT it restarts and the plant trips with FREQ_LOST; in
RUN-DOWN and TRIPPED the governor becomes INACTIVE, which is a rest test in RUN-DOWN (R166). HOLDING never stands in
STANDSTILL (R71; log 33). -/
def State.holdExpiry (s : State) : State :=
  match s.plant with
  | .runUp | .onLine | .waterShort => (s.modBgv fun b => { b with hold := some (seconds 1) }).trip .freqLost
  | .runDown | .tripped => s.governorInactive.restTest
  | .standstill => s

end Sys2Proof.Machine
end

