-- ==== Sys2Proof/Machine/Frequency.lean ====
section
/-! DEFINITION. The Frequency and Speed Unit: crossings, periods, the frequency and its validity, the shaft pickup, the
index check, and the speed window (chapter 3). -/

namespace Sys2Proof.Machine

/-! ## Validity of the frequency (R54) -/

/-- The frequency becomes invalid (R54): the governor enters HOLDING (R69); the ladder makes its tests, and its
first-level action at once if the plant is ON-LINE (R110); the stations, the water controller and the slip check make
their tests; where the governor's state changed, the rest test is made (R166). -/
def State.frequencyLost (s : State) : State :=
  let governorBefore := s.bgv.state
  let s := (s.modFsu fun u => { u with freqValid := false }).governorLosesFrequency
  let s := s.stepTest.collapseTests
  let s := if s.plant = .onLine then s.collapseFirst else s
  let s := s.dipTest.waterTakesFrequency.slipTest
  if s.bgv.state = governorBefore then s else s.restTest

/-- A rejection (R52 to R54): the run rises by 1, up to 3, and at 3 a valid frequency becomes invalid. -/
def State.reject (s : State) : State :=
  let s := s.modFsu fun u => { u with rejections := min 3 (u.rejections + 1) }
  if s.fsu.rejections = 3 ∧ s.fsu.freqValid then s.frequencyLost else s

/-! ## Periods (R52, R55, R56) -/

/-- The frequency of a period in counts: 8,000,000,000 / P in mHz, rounded to nearest with halves up (R55). -/
def frequencyOf (p : Nat) : Nat :=
  if 2 * (8000000000 % p) < p then 8000000000 / p else 8000000000 / p + 1

/-- A period event (R56): the frequency is published and marked valid and the rejection run is 0; the governor computes;
the ladder, the stations and the water controller make their tests. A change of validity makes the slip test (R63) and a
step test (R107), and a change of the governor's state the rest test (R166). -/
def State.periodEvent (p : Nat) (s : State) : State :=
  let validBefore := s.fsu.freqValid
  let governorBefore := s.bgv.state
  let s := s.modFsu fun u => { u with freq := frequencyOf p, freqValid := true, rejections := 0 }
  let s := s.governorPeriod
  let s := if validBefore then s else s.stepTest
  let s := s.collapseTests.dipTest.waterTakesFrequency
  let s := if validBefore then s else s.slipTest
  if s.bgv.state = governorBefore then s else s.restTest

/-- The judgement of an accepted crossing's capture against the reference (R52). -/
def State.judgeCapture (c : BitVec 32) (s : State) : State :=
  match s.fsu.reference with
  | none => s.modFsu fun u => { u with reference := some c }
  | some r =>
    let p := (c - r).toNat
    if p < 114286 then (s.modFsu fun u => { u with reference := none }).reject
    else
      let s := s.modFsu fun u => { u with reference := some c }
      if p ≤ 266667 then s.periodEvent p else s.reject

/-- Whether the crossing filter ignores an edge: less than 96,000 counts after the last accepted crossing (R51;
log 4). -/
def Fsu.filtered (u : Fsu) (c : BitVec 32) : Bool :=
  match u.lastCrossing with
  | some l => decide ((c - l).toNat < 96000)
  | none => false

/-- A rising edge on the crossing input at a capture count (R51). -/
def State.crossing (c : BitVec 32) (s : State) : State :=
  if s.fsu.filtered c then s
  else
    ((s.modFsu fun u => { u with lastCrossing := some c, gap := some (millis 40) }).switchingInstant).judgeCapture c

/-- The gap timer's expiry (R53): one rejection, the reference absent, the timer restarted for 40 ms. -/
def State.gapExpiry (s : State) : State :=
  (s.modFsu fun u => { u with reference := none, gap := some (millis 40) }).reject

/-! ## The shaft pickup and the index (R57, R60, R61) -/

/-- The judging condition (R60). -/
def State.judging (s : State) : Bool := s.fsu.freqValid || decide (100 ≤ s.fsu.shaftSpeed)

/-- A change of the shaft speed's validity: the slip test (R63), the shaft overspeed test (R167) and the rest test
(R166). -/
def State.shaftValidityChanged (s : State) : State := s.slipTest.shaftOverTest.restTest

/-- A good revolution (R61). -/
def State.goodRevolution (s : State) : State :=
  let s := s.modFsu fun u => { u with goodRun := min 3 (u.goodRun + 1), badRun := 0 }
  if s.fsu.pickupFault ∧ s.fsu.goodRun = 3 then
    (s.modFsu fun u => { u with pickupFault := false }).shaftValidityChanged
  else s

/-- A bad revolution (R61). -/
def State.badRevolution (s : State) : State :=
  let s := s.modFsu fun u => { u with badRun := min 3 (u.badRun + 1), goodRun := 0 }
  if s.fsu.pickupFault = false ∧ s.fsu.badRun = 3 then
    ((s.modFsu fun u => { u with pickupFault := true }).latch .pickupFault).shaftValidityChanged
  else s

/-- A lost index (R60): the count's absolute value has reached 2 x SHAFT_TEETH + 2. -/
def State.lostIndexTest (s : State) : State :=
  if 2 * s.set.shaftTeeth + 2 ≤ s.fsu.revolution.natAbs then
    let s := s.modFsu fun u => { u with revolution := 0 }
    if s.judging then s.badRevolution else s
  else s

/-- A shaft pulse with track B at a level (R57). In SINGLE every pulse is forward. -/
def State.shaftPulse (trackB : Bool) (s : State) : State :=
  let s := if s.set.pickupMode = .quadrature ∧ trackB then
      s.modFsu fun u => { u with reverse := min 65535 (u.reverse + 1), revolution := u.revolution - 1 }
    else
      s.modFsu fun u => { u with forward := min 65535 (u.forward + 1), revolution := u.revolution + 1 }
  s.lostIndexTest

/-- An index edge (R60). -/
def State.indexEdge (s : State) : State :=
  let count := s.fsu.revolution.natAbs
  let armed := s.fsu.armed
  let s := s.modFsu fun u => { u with revolution := 0, armed := true }
  if armed && s.judging then
    if ((count : Int) - (s.set.shaftTeeth : Int)).natAbs ≤ 1 then s.goodRevolution else s.badRevolution
  else s

/-! ## The speed window (R58, R59, R62) -/

/-- A count over a nominal, in per mille, truncated and clamped to 2,000 (R58, R62). -/
def perMille (count nominal : Nat) : Nat := min 2000 (count * 1000 / nominal)

/-- The net count of a window (R58). -/
def Fsu.netCount (mode : PickupMode) (u : Fsu) : Nat :=
  match mode with
  | .single => u.forward
  | .quadrature => ((u.forward : Int) - (u.reverse : Int)).natAbs

/-- The direction a window gives (R59). -/
def Fsu.windowDirection (mode : PickupMode) (u : Fsu) : Direction :=
  match mode with
  | .single => .none
  | .quadrature =>
    if u.reverse < u.forward then .forward else if u.forward < u.reverse then .reverse else u.direction

/-- The values a window end publishes, and the counts of the window that begins (R58, R59, R62). -/
def Fsu.endWindow (set : Settings) (u : Fsu) : Fsu :=
  { u with
    window := some (millis 100)
    shaftSpeed := perMille (u.netCount set.pickupMode) set.shaftNominal
    direction := u.windowDirection set.pickupMode
    arborSpeed := Vector.ofFn fun i => perMille u.arborCount[i] set.arborNominal[i]
    forward := 0, reverse := 0, arborCount := Vector.replicate 3 0 }

/-- What a station does at a window end that finds its arbor at a speed: the end of an engagement at 900 per mille
(R130), the jam watch below 600 (R134), the end of winding down below 100 (R135). -/
def State.stationWindow (i : StationNo) (s : State) : State :=
  let speed := s.fsu.arborSpeed[i]
  match (s.station i).state with
  | .engaging =>
    if 900 ≤ speed then
      ((s.stationTo i .running).modStation i fun x =>
        { x with engage := none, dip := none, jam := none, voltPending := false }).dropReservation (.station i)
    else s
  | .running => s.modStation i fun x => { x with jam := x.jam.follow (decide (speed < 600)) (millis 500) }
  | .windingDown => if speed < 100 then s.stationTo i .idle else s
  | .idle | .waiting | .lockedOut => s

/-- A window end (R58): the speeds are published, then the slip test, the stations, the reverse test, the shaft
overspeed test and the rest test are made, in the order of log 12. -/
def State.windowEnd (s : State) : State :=
  let s := s.modFsu fun u => u.endWindow s.set
  let s := s.slipTest.eachStation State.stationWindow
  s.reverseTest.shaftOverTest.restTest

/-- An arbor pulse (R62). -/
def State.arborPulse (i : StationNo) (s : State) : State :=
  s.modFsu fun u => { u with arborCount := u.arborCount.set i (min 65535 (u.arborCount[i] + 1)) }

/-- The slip timer's expiry (R63). -/
def State.slipExpiry (s : State) : State :=
  (s.modFsu fun u => { u with slip := none, slipSpent := true }).latch .beltSlip

/-- A change of PICKUP_MODE, SHAFT_TEETH or SHAFT_NOMINAL (R64). -/
def State.restartShaft (s : State) : State :=
  s.modFsu fun u => { u with armed := false, revolution := 0, badRun := 0, goodRun := 0 }

/-- The direction a mode starts with (R59, R64, R65). -/
def PickupMode.firstDirection : PickupMode → Direction
  | .single => .none
  | .quadrature => .forward

end Sys2Proof.Machine
end

