-- ==== Sys2Proof/Machine/Saw.lean ====
section
/-! DEFINITION. The Saw Permit Unit's own events: inputs, START and STOP, its timers, and the voltage judgement
(chapter 7). -/

namespace Sys2Proof.Machine

/-! ## Inputs (R121) -/

/-- INPUT_FILTER in counts. -/
def State.inputFilter (s : State) : Nat := millis s.set.inputFilter

/-- A raw level on a START pin: the filter timer runs while it differs from the filtered level (R121). -/
def Station.startLevel (filter : Nat) (level : Bool) (x : Station) : Station :=
  { x with rawStart := level, startFilter := x.startFilter.follow (level != x.startPressed) filter }

/-- A raw level on a STOP pin. -/
def Station.stopLevel (filter : Nat) (level : Bool) (x : Station) : Station :=
  { x with rawStop := level, stopFilter := x.stopFilter.follow (level != x.stopOpen) filter }

/-- A change of the raw level on an input (R121). -/
def State.inputChange (i : StationNo) (input : StationInput) (level : Bool) (s : State) : State :=
  s.modStation i fun x =>
    match input with
    | .start => x.startLevel s.inputFilter level
    | .stop => x.stopLevel s.inputFilter level

/-- A change of the raw level while the reset pin is held: the pin's level alone (log 14). -/
def State.inputRaw (i : StationNo) (input : StationInput) (level : Bool) (s : State) : State :=
  s.modStation i fun x =>
    match input with
    | .start => { x with rawStart := level }
    | .stop => { x with rawStop := level }

/-- A START (R123). -/
def State.takeStart (i : StationNo) (s : State) : State :=
  let x := s.station i
  if x.state = .idle then
    if x.stopOpen then
      s.modStation i fun x => { x with outcome := .refusedStop, refusal := some refusalShow }
    else if s.plant = .onLine then
      (s.stationTo i .waiting).modStation i fun x => { x with wait := some (seconds s.set.sawWait) }
    else s.modStation i fun x => { x with outcome := .refusedPlant, refusal := some refusalShow }
  else s

/-- A STOP (R124). -/
def State.takeStop (i : StationNo) (s : State) : State :=
  match (s.station i).state with
  | .waiting => (s.stationTo i .idle).modStation i fun x => { x with wait := none }
  | .engaging => s.abortStation i .abortStop
  | .running => s.windDown i
  | .idle | .windingDown | .lockedOut => s

/-- The expiry of a filter timer: the filtered level takes the raw level (R121). -/
def State.filterExpiry (i : StationNo) (input : StationInput) (s : State) : State :=
  match input with
  | .start =>
    let t := s.modStation i fun x => { x with startFilter := none, startPressed := x.rawStart }
    if (t.station i).startPressed && !(s.station i).startPressed then t.takeStart i else t
  | .stop =>
    let t := s.modStation i fun x => { x with stopFilter := none, stopOpen := x.rawStop }
    if (t.station i).stopOpen && !(s.station i).stopOpen then t.takeStop i else t

/-! ## Timers (R125, R129, R131, R134, R136) -/

/-- The wait timer's expiry (R125). -/
def State.waitExpiry (i : StationNo) (s : State) : State :=
  (s.stationTo i .idle).modStation i fun x =>
    { x with wait := none, outcome := .waitExpired, refusal := some refusalShow }

/-- The jam timer's expiry (R134): LOCKED_OUT, SAW_LOCKED latched, the mark written to the plant record (R137). -/
def State.jamExpiry (i : StationNo) (s : State) : State :=
  ((((s.stationTo i .lockedOut).modStation i fun x => { x with jam := none, outcome := .jammed }).latch
    .sawLocked)).modPlantRecord fun r => { r with lockouts := r.lockouts.set i true }

/-- SAW_CLEAR's release of a LOCKED_OUT station (R138). -/
def State.releaseStation (i : StationNo) (s : State) : State :=
  (s.stationTo i .idle).modPlantRecord fun r => { r with lockouts := r.lockouts.set i false }

/-! ## The voltage check (R128) -/

/-- Whether a voltage passes: at least 80 % of VOLT_NOMINAL. -/
def State.voltageOk (v : Int) (s : State) : Bool := decide (4 * (s.set.voltNominal : Int) ≤ 5 * v)

/-- A slot 3 completion at a station: judged if it is ENGAGING with its check pending. -/
def State.judgeVoltageAt (v : Int) (i : StationNo) (s : State) : State :=
  if (s.station i).state = .engaging ∧ (s.station i).voltPending then
    if s.voltageOk v then s.modStation i fun x => { x with voltPending := false }
    else s.abortStation i .abortVoltage
  else s

/-- The voltage judgement (R128). -/
def State.judgeVoltage (v : Int) (s : State) : State := s.eachStation (State.judgeVoltageAt v)

/-! ## Outputs (R122, R136) -/

/-- The clutch output (R122). -/
def Station.clutch (x : Station) : Bool := x.state = .engaging || x.state = .running

/-- The lamp pattern (R136). -/
def Station.lamp (x : Station) : Lamp :=
  match x.state with
  | .idle => if x.refusal.running then .doubleBlink else .off
  | .waiting => .slowBlink
  | .engaging => .fastBlink
  | .running => .steady
  | .windingDown => .off
  | .lockedOut => .tripleBlink

end Sys2Proof.Machine
end

