-- ==== Sys2Proof/Machine/Sequencer.lean ====
section
/-! DEFINITION. The Measurement Sequencer: scaling, the completion of a conversion, window watches, the routine list and
calibration (chapter 8). -/

namespace Sys2Proof.Machine

/-! ## Scaling (R142) -/

/-- A raw value scaled: times GAIN less OFFSET, over 1,024 truncated toward zero, clamped to -32,767..32,767. -/
def scale (offset gain raw : Nat) : Int :=
  clampInt (-32767) 32767 ((((raw : Int) - (offset : Int)) * (gain : Int)).tdiv 1024)

/-- The scaled value of a channel under the settings in force. -/
def State.scaled (c : ChannelNo) (raw : Nat) (s : State) : Int := scale s.set.offset[c] s.set.gain[c] raw

/-! ## The reading table (R143, R144) -/

/-- SCAN_INTERVAL in counts. -/
def State.scanInterval (s : State) : Nat := millis s.set.scanInterval

/-- Steps 1 and 2 of a completion: the entry takes raw, value and source, and is FRESH with its timer restarted for
3 x SCAN_INTERVAL. -/
def State.enterReading (c : ChannelNo) (raw : Nat) (v : Int) (src : Source) (s : State) : State :=
  s.modReading c fun x =>
    { x with raw := some raw, value := some v, state := .fresh, timer := some (3 * s.scanInterval), source := src }

/-! ## Window watches (R152, R153) -/

/-- Whether a value is outside a channel's window. -/
def State.outsideWindow (c : ChannelNo) (v : Int) (s : State) : Bool :=
  decide (v < s.set.low[c]) || decide (s.set.high[c] < v)

/-- The runs and the alarm after a value outside or inside (R152). -/
def Reading.watch (count : Nat) (outside : Bool) (x : Reading) : Reading :=
  if outside then
    let run := min count (x.outside + 1)
    { x with outside := run, inside := 0, alarm := x.alarm || decide (count ≤ run) }
  else
    let run := min count (x.inside + 1)
    { x with inside := run, outside := 0, alarm := x.alarm && !decide (count ≤ run) }

/-- The actions of a raised alarm (R153). -/
def State.raiseAlarm (c : ChannelNo) (s : State) : State :=
  let s := s.latchWindow c
  match c.val with
  | 10 | 11 => s.trip .bearingHot
  | 13 => s.latch .batteryLow
  | 15 => s.latch .dieHot
  | _ => s

/-- Step 3 of a completion: the window watch takes the value (R152). -/
def State.watchWindow (c : ChannelNo) (v : Int) (s : State) : State :=
  let before := (s.reading c).alarm
  let s := s.modReading c fun x => x.watch s.set.count[c] (s.outsideWindow c v)
  if (s.reading c).alarm && !before then s.raiseAlarm c else s

/-! ## The completion (R143, R146) -/

/-- Step 4 of a completion: the owner of the source, then the Water and Gate Controller for its channels. -/
def State.handOn (c : ChannelNo) (v : Int) (src : Source) (s : State) : State :=
  let s := match src with
    | .slot1 => (match stageOf c with | some g => s.judgeStage g v | none => s)
    | .slot3 => s.judgeVoltage v
    | _ => s
  s.waterReading c v (src = .slot2)

/-- What a completion does to the queue it came from: a stage channel leaves slot 1's set (R149); a routine conversion
moves the pointer and counts the run down (R146). The converter is held until step 5. -/
def Msq.endConversion (listLength : Nat) (src : Source) (c : ChannelNo) (m : Msq) : Msq :=
  let m := { m with conv := .completing }
  match src with
  | .slot1 => (match stageOf c with | some g => { m with slot1 := m.slot1.put false g } | none => m)
  | .routine =>
    { m with pointer := if m.pointer < listLength then m.pointer + 1 else 1, runCount := m.runCount - 1 }
  | _ => m

/-- Steps 1 to 4 of a completion of a channel, whatever its source (R143). -/
def State.takeReading (c : ChannelNo) (raw : Nat) (src : Source) (s : State) : State :=
  let v := s.scaled c raw
  ((s.enterReading c raw v src).watchWindow c v).handOn c v src

/-- Step 5: the converter is freed and the arbiter chooses (R143, R147). -/
def State.freeConverter (s : State) : State :=
  s.modMsq fun m => ({ m with conv := .free }).arbitrate s.set.routine

/-- The completion of the conversion under way (R143). With none under way nothing completes. -/
def State.completeConversion (raw : BitVec 12) (s : State) : State :=
  match s.msq.conv with
  | .converting src c =>
    ((s.modMsq fun m => m.endConversion s.set.routine.length src c).takeReading c raw.toNat src).freeConverter
  | _ => s

/-! ## The routine list (R145) and freshness (R144) -/

/-- The count of a run that begins: RUN_LENGTH, or the list's length when it is 0, limited to the list's length. -/
def Settings.runCount (x : Settings) : Nat :=
  if x.runLength = 0 then x.routine.length else min x.runLength x.routine.length

/-- The scan timer's expiry (R145). -/
def State.scanExpiry (s : State) : State :=
  s.modMsq fun m =>
    let m := { m with scan := some s.scanInterval }
    if m.runCount > 0 then m else ({ m with runCount := s.set.runCount }).arbitrate s.set.routine

/-- The freshness timer's expiry (R144); for channel 0 it starts the level-lost timer (R165) and makes the short test
(R162). -/
def State.freshnessExpiry (c : ChannelNo) (s : State) : State :=
  let s := s.modReading c fun x => { x with state := .stale, timer := none }
  if c = 0 then (s.modWgc fun w => { w with levelLost := some (seconds 60) }).shortTest else s

/-- A change of a window setting sets both runs of the channel to 0 (R156). -/
def State.clearRuns (c : ChannelNo) (s : State) : State :=
  s.modReading c fun x => { x with outside := 0, inside := 0 }

/-- A change of the routine list ends a run in progress (R156). The converter that an abandoned conversion frees is left
to the arbiter, which finds no work it was not already waiting for. -/
def State.endRun (s : State) : State :=
  s.modMsq fun m =>
    ({ m with pointer := 1, runCount := 0 }).abandonRoutine.arbitrate s.set.routine

/-! ## Calibration (R154) -/

/-- The end of a calibration attempt with the raw result of channel 14 (R154). -/
def State.calibrate (raw : BitVec 12) (s : State) : State :=
  if s.msq.state = .calibrating then
    if 1900 ≤ raw.toNat ∧ raw.toNat ≤ 2200 then
      ((s.modMsq fun m => { m with state := .running, conv := .completing, scan := some s.scanInterval }).takeReading 14
        raw.toNat .calibration).freeConverter
    else if s.msq.secondAttempt then (s.modMsq fun m => { m with state := .failed }).latch .calFault
    else (s.modMsq fun m => { m with secondAttempt := true }).latch .calFault
  else s

end Sys2Proof.Machine
end

