-- ==== Sys2Proof/Machine/Requests.lean ====
section
/-! DEFINITION. The requests of the plant, the stations, the chain, the sequencer, the governor and the reserve, as
their owners answer them, with the reply images of 11.7. -/

namespace Sys2Proof.Machine

/-! ## Plant (R160, R164, R169, R177) -/

/-- The conditions of PLANT_START (R160). -/
def State.startAllowed (s : State) : Bool :=
  s.plant = .standstill &&
    (match s.freshValue 0 with | some v => decide ((s.set.startLevel : Int) ≤ v) | none => false) &&
    !s.svl.defaulted && s.msq.state = .running && s.plantRecord.cause.isNone

/-- PLANT_START (R160). -/
def plantStart : Owner := fun s => if s.startAllowed then (s.enterRunUp, .of .done) else (s, .of .wrongState)

/-- PLANT_STOP (R164). -/
def plantStop : Owner := fun s =>
  match s.plant with
  | .runUp | .onLine | .waterShort => (s.runDown, .of .done)
  | .runDown => (s, .of .done)
  | .standstill | .tripped => (s, .of .wrongState)

/-- Whether the stored cause's condition is gone (R169). -/
def State.causeGone (s : State) : Bool :=
  match s.plantRecord.cause with
  | some .overspeed => !s.fsu.freqValid || decide (s.fsu.freq ≤ 57500)
  | some .reverse => s.fsu.direction ≠ .reverse
  | some .bearingHot => !s.bearingAlarm
  | some .gateFault => s.wgc.move = .idle
  | some .runupFail | some .freqLost | some .recordLost => true
  | none => true

/-- PLANT_CLEAR (R169). -/
def plantClear : Owner := fun s =>
  if s.plant = .tripped && s.atRest && s.causeGone then (s.clearTrip, .of .done) else (s, .of .wrongState)

/-- A timer's time left, in whole milliseconds and 3 bytes (11.7). -/
def timeLeft (t : Timer) : List Byte := byte3 t.leftMillis

/-- A reading state and its v (11.7). -/
def Reading.brief (x : Reading) : List Byte := byte1 x.state.code ++ signed2 (x.value.getD 0)

/-- The PLANT_GET image (R177, 11.7). A rack differential or net head beyond the 2 signed bytes of 11.7 (the difference of
two values in -32,767..32,767, R172) is sent as its low 16 bits: the model's choice, the spec is silent (log 42). -/
def State.plantImage (s : State) : List Byte :=
  let w := s.wgc
  let u := s.fsu
  let timers := [w.sync, w.runup, w.short, w.recovery, w.level, w.levelLost, w.freqOver, w.shaftOver]
  byte1 w.plant.code ++ byte1 ((s.plantRecord.cause.map TripCause.code).getD 0) ++
  byte1 (lockoutCode s.plantRecord.lockouts) ++ byte2 w.gateTarget ++
  byte1 (marks [w.emergency, w.timeout.running]) ++ byte1 w.move.code ++ byte1 w.direction.code ++
  timeLeft w.timeout ++
  (s.reading 3).brief ++ (s.reading 0).brief ++ (s.reading 12).brief ++ (s.reading 1).brief ++ (s.reading 2).brief ++
  signed2 (w.rackDiff.getD 0) ++ signed2 (w.netHead.getD 0) ++
  byte1 (marks [w.rackDiff.isSome, w.netHead.isSome, w.rackAlarm, w.residual]) ++
  byte1 (marks (timers.map Timer.running)) ++ timers.flatMap timeLeft ++
  byte1 (marks [w.evalPending, w.wasteHeld, w.waste]) ++
  byte2 u.shaftSpeed ++ byte1 u.direction.code ++ byte1 (marks [s.shaftValid, u.pickupFault, u.freqValid]) ++
  byte3 u.freq

/-- PLANT_GET (R177). -/
def plantGet : Owner := fun s => (s, .done s.plantImage)

/-! ## Stations (R138, R139) -/

/-- SAW_CLEAR (R138). -/
def sawClear (station : Byte) : Owner := fun s =>
  match stationNumber station with
  | none => (s, .of .badField)
  | some i => if (s.station i).state = .lockedOut then (s.releaseStation i, .of .done) else (s, .of .wrongState)

/-- The amount a holder's entry reserves, 0 without one. -/
def State.reservedFor (s : State) (h : Holder) : Nat :=
  ((s.rsv.table.filter fun e => e.holder = h).map Reservation.amount).sum

/-- The image of one station (11.7). -/
def State.stationImage (s : State) (i : StationNo) : List Byte :=
  let x := s.station i
  byte1 x.state.code ++
  byte1 (marks [x.clutch, x.startPressed, x.stopOpen, x.wait.running, x.engage.running, x.dip.running, x.jam.running,
    x.voltPending]) ++
  byte1 x.lamp.code ++ byte2 s.fsu.arborSpeed[i] ++ timeLeft x.wait ++ timeLeft x.engage ++ byte1 x.outcome.code ++
  byte2 (if x.state = .engaging then s.reservedFor (.station i) else 0) ++ byte2 s.set.sawDraw[i] ++
  byte2 s.set.arborNominal[i]

/-- SAW_GET (R139). -/
def sawGet : Owner := fun s => (s, .done (allStations.flatMap s.stationImage))

/-! ## Nodes (R48) -/

/-- The NODE_GET image (11.7). -/
def State.nodeImage (s : State) (a : NodeNo) : List Byte :=
  let x := s.node a
  byte1 x.state.code ++ byte1 x.missed ++ byte2 x.valid ++ byte1 x.discarded ++ byte1 x.failsafe ++
  (outletsOf a).flatMap fun o =>
    byte1 (s.outlet o).code ++ byte1 (((s.boundTo o).map RecNo.number).getD 0)

/-- NODE_GET (R48): the map entries are read under their check code, and the counts are cleared once shown. -/
def nodeGet (node : Byte) : Owner := fun s =>
  match nodeAddress node with
  | none => (s, .of .badField)
  | some a =>
    let s := (outletsOf a).foldl (fun t o => t.readBinding o) s
    (s.modNode a fun x => { x with valid := 0, discarded := 0, failsafe := 0 }, .done (s.nodeImage a))

/-! ## The sequencer (R151, R157) -/

/-- The activity code of READINGS_GET (11.3): the source of the conversion under way, and 0 when free. A calibration
attempt is converting, or still trimming, as a free value says (log 17). -/
def State.activityCode (s : State) : Nat :=
  if s.msq.state = .calibrating then
    (if Config.calibrationConverting s.free then Source.calibration.code else 0)
  else match s.msq.conv with
    | .converting src _ => src.code
    | .free | .completing => 0

/-- A reading table entry's 9 bytes (11.7). -/
def Reading.image (x : Reading) : List Byte :=
  byte1 x.state.code ++ byte2 (x.raw.getD 0) ++ signed2 (x.value.getD 0) ++ byte1 x.source.code ++
  byte1 x.alarm.toNat ++ byte1 x.outside ++ byte1 x.inside

/-- Slot 4's code and channel (11.3, 11.7; log 38): 1 and the channel while pending, 2 and the channel while
converting. -/
def Msq.slot4Bytes (m : Msq) : List Byte :=
  match m.slot4, m.conv with
  | some c, _ => byte1 1 ++ byte1 c.val
  | none, .converting .slot4 c => byte1 2 ++ byte1 c.val
  | none, _ => byte1 0 ++ byte1 0

/-- The READINGS_GET image (11.7), with the activity code given. -/
def State.readingsImage (s : State) (activity : Nat) : List Byte :=
  let m := s.msq
  byte1 m.state.code ++ byte1 activity ++ (allChannels.flatMap fun c => (s.reading c).image) ++
  byte1 (marks [m.slot1.a, m.slot1.b, m.slot1.c, m.slot1.d, m.slot1.trim]) ++ byte1 (marks [m.slot2, m.slot3]) ++
  m.slot4Bytes ++ byte1 m.pointer ++ byte1 m.runCount

/-- READINGS_GET (R157): it changes nothing of the part; the model's counter of free values advances when one is
drawn. -/
def readingsGet : Owner := fun s =>
  (if s.msq.state = .calibrating then { s with free := s.free + 1 } else s, .done (s.readingsImage s.activityCode))

/-- SAMPLE_NOW (R151). -/
def sampleNow (channel : Byte) : Owner := fun s =>
  match channelNumber channel with
  | none => (s, .of .badField)
  | some c =>
    match s.msq.state with
    | .calibrating => (s, .of .busy)
    | .failed => (s, .of .wrongState)
    | .running =>
      if s.msq.slot4.isSome || s.msq.convertingFor .slot4 then (s, .of .busy) else (s.triggerSample c, .of .done)

/-! ## The governor (R82, R84) -/

/-- The GOVERNOR_GET image (11.7). -/
def State.governorImage (s : State) : List Byte :=
  let b := s.bgv
  byte3 s.fsu.freq ++ byte1 (marks [s.fsu.freqValid]) ++ byte1 b.state.code ++ signed2 b.err ++ byte3 b.integ ++
  byte2 b.demand ++ byte1 b.coarse ++ byte1 b.trim ++ byte2 b.effective ++ byte2 b.reserve ++ byte1 b.target.code ++
  byte1 b.switched.code ++ byte1 b.health.a.code ++ byte1 b.health.b.code ++ byte1 b.health.c.code ++
  byte1 b.health.d.code ++ byte1 b.health.trim.code

/-- GOVERNOR_GET (R84). -/
def governorGet : Owner := fun s => (s, .done s.governorImage)

/-- STAGE_RETEST (R82). Imax is a function of the health, so it rises with it. -/
def stageRetest (stage : Byte) : Owner := fun s =>
  match Stage.ofCode stage with
  | none => (s, .of .badField)
  | some g =>
    if s.bgv.health.get g = .faulted then
      (s.modBgv fun b => { b with health := b.health.put .untested g }, .of .done)
    else (s, .of .wrongState)

/-! ## The reserve (R98) -/

/-- The class code of a claim. -/
def State.claimClass (s : State) : Holder → Nat
  | .allotment n => ((s.terms n).cls.map AllotClass.code).getD 0
  | .station _ => worksCode

/-- The pause conditions in one byte (11.3). -/
def State.pauseCode (s : State) : Nat :=
  marks [!s.fsu.freqValid, s.offBand, s.engagingEntry, s.sld.pause.running]

/-- The eight places of the table (11.7). -/
def tableBytes (t : List Reservation) : List Byte :=
  ((t.take 8).flatMap fun e => byte1 e.holder.kindCode ++ byte1 e.holder.number ++ byte2 e.amount) ++
    List.replicate (32 - 4 * (t.take 8).length) 0

/-- The head's fields (11.7); with an empty list all are 0 and the reason is NONE (log 21). -/
def State.headBytes (s : State) : List Byte :=
  match s.head with
  | some h =>
    byte1 h.kindCode ++ byte1 h.number ++ byte1 (s.claimClass h) ++ byte2 (s.need h) ++ byte1 (s.wait h).code
  | none => byte1 0 ++ byte1 0 ++ byte1 0 ++ byte2 0 ++ byte1 Wait.none.code

/-- The RESERVE_GET image (11.7). -/
def State.reserveImage (s : State) : List Byte :=
  byte2 s.bgv.reserve ++ signed4 s.available ++ byte1 s.rsv.table.length ++ tableBytes s.rsv.table ++
  byte1 s.rsv.allowanceUsed.toNat ++ byte1 s.pauseCode ++ byte1 s.claims.length ++ s.headBytes

/-- RESERVE_GET (R98): the list is derived, reading records, and nothing is granted. -/
def reserveGet : Owner := fun s =>
  let s := s.readForList
  (s, .done s.reserveImage)

end Sys2Proof.Machine
end

