-- ==== Sys2Proof/Machine/Settings.lean ====
section
/-! DEFINITION. The settings: their identifiers, ranges and checks, the settings page, and the requests of the Service
Link port (10 10.3 to 10.6, 11.6, R182 to R188, R193). -/

namespace Sys2Proof.Machine

/-! ## Cells: the 131 settings of one value (11.6) -/

/-- A setting of one 16-bit value: an identifier with its index. The routine list, identifier 28, is not one. -/
inductive Cell where
   | fset | kp | ki | ballastFull | stageAmps (k : Fin 5) | voltNominal | shaftTeeth | shaftNominal
   | pickupMode | arborNominal (k : Fin 3) | shedOffset | shedDelay | stepInterval | restoreBand
   | restoreMargin | holdoff | tripCount | tripCooloff | sawDraw (k : Fin 3) | sawMargin | engageDip
   | engageTime | sawWait | inputFilter | roundPeriod | scanInterval | runLength | offset (k : Fin 16)
   | gain (k : Fin 16) | low (k : Fin 16) | high (k : Fin 16) | count (k : Fin 16) | targetLevel | deadband
   | startLevel | stopLevel | residualLevel | headMin | gateFloor | gateCeiling | gateStep | levelInterval
   | runupGate | runupTime | wasteLevel | shortMargin | rackAlarm | rackTrip
  deriving DecidableEq, Repr

/-- The cell of an identifier and index; none where the table has none, or the index is out of range or nonzero for a
setting that takes none (R182, R192). -/
def Cell.ofBytes (id index : Byte) : Option Cell :=
  let plain (c : Cell) : Option Cell := if index = 0 then some c else none
  match id.toNat with
  | 1 => plain .fset
  | 2 => plain .kp
  | 3 => plain .ki
  | 4 => plain .ballastFull
  | 5 => (indexFrom1 5 index.toNat).map .stageAmps
  | 6 => plain .voltNominal
  | 7 => plain .shaftTeeth
  | 8 => plain .shaftNominal
  | 9 => plain .pickupMode
  | 10 => (indexFrom1 3 index.toNat).map .arborNominal
  | 11 => plain .shedOffset
  | 12 => plain .shedDelay
  | 13 => plain .stepInterval
  | 14 => plain .restoreBand
  | 15 => plain .restoreMargin
  | 16 => plain .holdoff
  | 17 => plain .tripCount
  | 18 => plain .tripCooloff
  | 19 => (indexFrom1 3 index.toNat).map .sawDraw
  | 20 => plain .sawMargin
  | 21 => plain .engageDip
  | 22 => plain .engageTime
  | 23 => plain .sawWait
  | 24 => plain .inputFilter
  | 25 => plain .roundPeriod
  | 26 => plain .scanInterval
  | 27 => plain .runLength
  | 29 => (indexFrom0 16 index.toNat).map .offset
  | 30 => (indexFrom0 16 index.toNat).map .gain
  | 31 => (indexFrom0 16 index.toNat).map .low
  | 32 => (indexFrom0 16 index.toNat).map .high
  | 33 => (indexFrom0 16 index.toNat).map .count
  | 34 => plain .targetLevel
  | 35 => plain .deadband
  | 36 => plain .startLevel
  | 37 => plain .stopLevel
  | 38 => plain .residualLevel
  | 39 => plain .headMin
  | 40 => plain .gateFloor
  | 41 => plain .gateCeiling
  | 42 => plain .gateStep
  | 43 => plain .levelInterval
  | 44 => plain .runupGate
  | 45 => plain .runupTime
  | 46 => plain .wasteLevel
  | 47 => plain .shortMargin
  | 48 => plain .rackAlarm
  | 49 => plain .rackTrip
  | _ => none

/-- The cells in the order of the page: by identifier, then by index (R193). -/
def Cell.all : List Cell :=
  List.flatten [
  [.fset, .kp, .ki, .ballastFull],
  (List.finRange 5).map .stageAmps,
  [.voltNominal, .shaftTeeth, .shaftNominal, .pickupMode],
  (List.finRange 3).map .arborNominal,
  [.shedOffset, .shedDelay, .stepInterval, .restoreBand, .restoreMargin, .holdoff, .tripCount, .tripCooloff],
  (List.finRange 3).map .sawDraw,
  [.sawMargin, .engageDip, .engageTime, .sawWait, .inputFilter, .roundPeriod, .scanInterval, .runLength],
  (List.finRange 16).map .offset,
  (List.finRange 16).map .gain,
  (List.finRange 16).map .low,
  (List.finRange 16).map .high,
  (List.finRange 16).map .count,
  [.targetLevel, .deadband, .startLevel, .stopLevel, .residualLevel, .headMin, .gateFloor, .gateCeiling,
   .gateStep, .levelInterval, .runupGate, .runupTime, .wasteLevel, .shortMargin, .rackAlarm, .rackTrip]]

/-- The value of a cell. -/
def Cell.get (st : Settings) : Cell → Int
  | .fset => st.fset
  | .kp => st.kp
  | .ki => st.ki
  | .ballastFull => st.ballastFull
  | .stageAmps k => st.stageAmps[k]
  | .voltNominal => st.voltNominal
  | .shaftTeeth => st.shaftTeeth
  | .shaftNominal => st.shaftNominal
  | .pickupMode => match st.pickupMode with | .single => 0 | .quadrature => 1
  | .arborNominal k => st.arborNominal[k]
  | .shedOffset => st.shedOffset
  | .shedDelay => st.shedDelay
  | .stepInterval => st.stepInterval
  | .restoreBand => st.restoreBand
  | .restoreMargin => st.restoreMargin
  | .holdoff => st.holdoff
  | .tripCount => st.tripCount
  | .tripCooloff => st.tripCooloff
  | .sawDraw k => st.sawDraw[k]
  | .sawMargin => st.sawMargin
  | .engageDip => st.engageDip
  | .engageTime => st.engageTime
  | .sawWait => st.sawWait
  | .inputFilter => st.inputFilter
  | .roundPeriod => st.roundPeriod
  | .scanInterval => st.scanInterval
  | .runLength => st.runLength
  | .offset k => st.offset[k]
  | .gain k => st.gain[k]
  | .low k => st.low[k]
  | .high k => st.high[k]
  | .count k => st.count[k]
  | .targetLevel => st.targetLevel
  | .deadband => st.deadband
  | .startLevel => st.startLevel
  | .stopLevel => st.stopLevel
  | .residualLevel => st.residualLevel
  | .headMin => st.headMin
  | .gateFloor => st.gateFloor
  | .gateCeiling => st.gateCeiling
  | .gateStep => st.gateStep
  | .levelInterval => st.levelInterval
  | .runupGate => st.runupGate
  | .runupTime => st.runupTime
  | .wasteLevel => st.wasteLevel
  | .shortMargin => st.shortMargin
  | .rackAlarm => st.rackAlarm
  | .rackTrip => st.rackTrip

/-- The settings with one cell replaced. -/
def Cell.put (v : Int) (st : Settings) : Cell → Settings
  | .fset => { st with fset := v.toNat }
  | .kp => { st with kp := v.toNat }
  | .ki => { st with ki := v.toNat }
  | .ballastFull => { st with ballastFull := v.toNat }
  | .stageAmps k => { st with stageAmps := st.stageAmps.set k v.toNat }
  | .voltNominal => { st with voltNominal := v.toNat }
  | .shaftTeeth => { st with shaftTeeth := v.toNat }
  | .shaftNominal => { st with shaftNominal := v.toNat }
  | .pickupMode => { st with pickupMode := if v = 1 then .quadrature else .single }
  | .arborNominal k => { st with arborNominal := st.arborNominal.set k v.toNat }
  | .shedOffset => { st with shedOffset := v.toNat }
  | .shedDelay => { st with shedDelay := v.toNat }
  | .stepInterval => { st with stepInterval := v.toNat }
  | .restoreBand => { st with restoreBand := v.toNat }
  | .restoreMargin => { st with restoreMargin := v.toNat }
  | .holdoff => { st with holdoff := v.toNat }
  | .tripCount => { st with tripCount := v.toNat }
  | .tripCooloff => { st with tripCooloff := v.toNat }
  | .sawDraw k => { st with sawDraw := st.sawDraw.set k v.toNat }
  | .sawMargin => { st with sawMargin := v.toNat }
  | .engageDip => { st with engageDip := v.toNat }
  | .engageTime => { st with engageTime := v.toNat }
  | .sawWait => { st with sawWait := v.toNat }
  | .inputFilter => { st with inputFilter := v.toNat }
  | .roundPeriod => { st with roundPeriod := v.toNat }
  | .scanInterval => { st with scanInterval := v.toNat }
  | .runLength => { st with runLength := v.toNat }
  | .offset k => { st with offset := st.offset.set k v.toNat }
  | .gain k => { st with gain := st.gain.set k v.toNat }
  | .low k => { st with low := st.low.set k v }
  | .high k => { st with high := st.high.set k v }
  | .count k => { st with count := st.count.set k v.toNat }
  | .targetLevel => { st with targetLevel := v.toNat }
  | .deadband => { st with deadband := v.toNat }
  | .startLevel => { st with startLevel := v.toNat }
  | .stopLevel => { st with stopLevel := v.toNat }
  | .residualLevel => { st with residualLevel := v.toNat }
  | .headMin => { st with headMin := v.toNat }
  | .gateFloor => { st with gateFloor := v.toNat }
  | .gateCeiling => { st with gateCeiling := v.toNat }
  | .gateStep => { st with gateStep := v.toNat }
  | .levelInterval => { st with levelInterval := v.toNat }
  | .runupGate => { st with runupGate := v.toNat }
  | .runupTime => { st with runupTime := v.toNat }
  | .wasteLevel => { st with wasteLevel := v.toNat }
  | .shortMargin => { st with shortMargin := v.toNat }
  | .rackAlarm => { st with rackAlarm := v.toNat }
  | .rackTrip => { st with rackTrip := v.toNat }

/-- The range of a cell, both ends included (11.6). -/
def Cell.range : Cell → Int × Int
  | .fset => (48000, 52000)
  | .kp => (0, 1023)
  | .ki => (0, 255)
  | .ballastFull => (1000, 60000)
  | .stageAmps _ => (0, 1000)
  | .voltNominal => (1, 5000)
  | .shaftTeeth => (1, 240)
  | .shaftNominal => (1, 65535)
  | .pickupMode => (0, 1)
  | .arborNominal _ => (1, 65535)
  | .shedOffset => (200, 2000)
  | .shedDelay => (5, 100)
  | .stepInterval => (1, 30)
  | .restoreBand => (100, 1000)
  | .restoreMargin => (0, 5000)
  | .holdoff => (2, 60)
  | .tripCount => (1, 10)
  | .tripCooloff => (10, 600)
  | .sawDraw _ => (500, 20000)
  | .sawMargin => (0, 5000)
  | .engageDip => (46000, 50000)
  | .engageTime => (2, 30)
  | .sawWait => (10, 600)
  | .inputFilter => (1, 128)
  | .roundPeriod => (250, 2000)
  | .scanInterval => (10, 1000)
  | .runLength => (0, 8)
  | .offset _ => (0, 4095)
  | .gain _ => (0, 65535)
  | .low _ => (-32767, 32767)
  | .high _ => (-32767, 32767)
  | .count _ => (1, 15)
  | .targetLevel => (0, 5000)
  | .deadband => (0, 500)
  | .startLevel => (0, 5000)
  | .stopLevel => (0, 5000)
  | .residualLevel => (0, 1000)
  | .headMin => (0, 5000)
  | .gateFloor => (0, 1000)
  | .gateCeiling => (0, 1000)
  | .gateStep => (1, 100)
  | .levelInterval => (1, 600)
  | .runupGate => (0, 1000)
  | .runupTime => (10, 600)
  | .wasteLevel => (0, 4095)
  | .shortMargin => (0, 10000)
  | .rackAlarm => (0, 2000)
  | .rackTrip => (0, 2000)

/-- Whether a value lies in a cell's range; INPUT_FILTER must also be a power of two (R183). -/
def Cell.inRange (c : Cell) (v : Int) : Bool :=
  decide (c.range.1 ≤ v) && decide (v ≤ c.range.2) &&
    (match c with
      | .inputFilter => v == 1 || v == 2 || v == 4 || v == 8 || v == 16 || v == 32 || v == 64 || v == 128
      | _ => true)

/-- LOW and HIGH are signed (11.6). -/
def Cell.signed : Cell → Bool
  | .low _ | .high _ => true
  | _ => false

/-- A 16-bit field as a cell's value. -/
def Cell.ofHalf (c : Cell) (h : Half) : Int := if c.signed then h.toInt else h.toNat

/-- The standstill-only settings (R183). -/
def Cell.standstillOnly : Cell → Bool
  | .ballastFull | .stageAmps _ | .shaftTeeth | .shaftNominal | .pickupMode | .sawDraw _ => true
  | _ => false

/-- The cross-checks of R183: the new value of one of a pair against the working value of the other. -/
def Cell.crossOk (st : Settings) (v : Int) : Cell → Bool
  | .stopLevel => decide (v < st.startLevel)
  | .startLevel => decide ((st.stopLevel : Int) < v)
  | .gateFloor => decide (v ≤ st.gateCeiling)
  | .gateCeiling => decide ((st.gateFloor : Int) ≤ v)
  | _ => true

/-! ## The settings page (R193) -/

/-- The format mark, 0x4C32. -/
def pageMark : List Byte := [0x4C, 0x32]

/-- The routine list as its entry count and 16 channel bytes, the entries beyond the count written as 0 (R193). -/
def routineBytes (l : List ChannelNo) : List Byte :=
  byte1 l.length ++ (l.map fun c => BitVec.ofNat 8 c.val) ++ List.replicate (16 - l.length) 0

/-- The first 281 bytes of the page of some settings (R193). -/
def pageEncode (st : Settings) : List Byte :=
  pageMark ++ (Cell.all.flatMap fun c => signed2 (c.get st)) ++ routineBytes st.routine

/-- Read the cells in order from their bytes into settings; none when a value is out of its range. The bytes left over
are the routine list's. -/
def readCells : List Cell → List Byte → Settings → Option (Settings × List Byte)
  | [], rest, st => some (st, rest)
  | c :: cs, hi :: lo :: rest, st =>
    if c.inRange (c.ofHalf (half hi lo)) then readCells cs rest (c.put (c.ofHalf (half hi lo)) st) else none
  | _ :: _, _, _ => none

/-- Channel bytes as channels; none when one is above 15. -/
def channels (l : List Byte) : Option (List ChannelNo) := l.mapM channelNumber

/-- Read the routine list's 17 bytes; none when the entry count is outside 1..16 or an entry is above 15. -/
def readRoutine : List Byte → Option (List ChannelNo)
  | k :: entries =>
    if entries.length = 16 ∧ 1 ≤ k.toNat ∧ k.toNat ≤ 16 then channels (entries.take k.toNat) else none
  | [] => none

/-- The judgement of a page's first 281 bytes after any correction (R193): its settings, or none when the page is taken
as uncorrectable. -/
def pageDecode (bytes : List Byte) : Option Settings :=
  if bytes.take 2 = pageMark then
    match readCells Cell.all (bytes.drop 2) .defaults with
    | some (st, rest) =>
      match readRoutine rest with
      | some l =>
        let st := { st with routine := l }
        if st.stopLevel < st.startLevel ∧ st.gateFloor ≤ st.gateCeiling then some st else none
      | none => none
    | none => none
  else none

/-! ## SETTING_GET and SETTING_PUT (R182, R183) -/

/-- The identifier of the routine list. -/
def routineId : Byte := 28

/-- SETTING_GET (R182). -/
def settingGet (id index : Byte) : Owner := fun s =>
  if id = routineId then
    if index = 0 then
      (s, .done (byte1 s.set.routine.length ++ s.set.routine.map fun c => BitVec.ofNat 8 c.val))
    else (s, .of .badField)
  else match Cell.ofBytes id index with
    | some c => (s, .done (signed2 (c.get s.set)))
    | none => (s, .of .badField)

/-- What the owning block does when a working value has changed (R64, R156, R173). -/
def State.settingChanged (c : Cell) (s : State) : State :=
  match c with
  | .gateCeiling => if s.set.gateCeiling < s.wgc.gateTarget then s.changeTarget s.set.gateCeiling else s
  | .pickupMode => s.restartShaft.modFsu fun u => { u with direction := s.set.pickupMode.firstDirection }
  | .shaftTeeth | .shaftNominal => s.restartShaft
  | .low k | .high k | .count k => s.clearRuns k
  | _ => s

/-- A working value replaced (R183): the unstored-changes mark is set, and a value equal to the working one changes
nothing at the owner. -/
def State.writeCell (c : Cell) (v : Int) (s : State) : State :=
  let t := s.modSvl fun x => { x with settings := c.put v x.settings, unstored := true }
  if c.get s.set = v then t else t.settingChanged c

/-- The routine list replaced (R156, R183). -/
def State.writeRoutine (l : List ChannelNo) (s : State) : State :=
  let t := s.modSvl fun x => { x with settings := { x.settings with routine := l }, unstored := true }
  if s.set.routine = l then t else t.endRun

/-- Whether the store is idle. -/
def StoreState.isIdle : StoreState → Bool
  | .idle => true
  | .storing _ => false

/-- Checks 2 to 5 of R183 on one value. -/
def putCell (c : Cell) (v : Int) : Owner := fun s =>
  if !s.svl.store.isIdle then (s, .of .busy)
  else if !c.inRange v then (s, .of .badField)
  else if c.standstillOnly && s.plant ≠ .standstill then (s, .of .wrongState)
  else if !c.crossOk s.set v then (s, .of .badField)
  else (s.writeCell c v, .of .done)

/-- Checks 2 and 3 of R183 on a routine list. -/
def putRoutine (entries : List Byte) : Owner := fun s =>
  if !s.svl.store.isIdle then (s, .of .busy)
  else match channels entries with
    | some l => if 1 ≤ l.length ∧ l.length ≤ 16 then (s.writeRoutine l, .of .done) else (s, .of .badField)
    | none => (s, .of .badField)

/-- SETTING_PUT (R183), its layout checked first (R192): `rest` is the value, or the entry count and the entries. -/
def settingPut (id index : Byte) (rest : List Byte) : Owner :=
  if id = routineId then
    match rest with
    | k :: entries => if index = 0 ∧ entries.length = k.toNat then putRoutine entries else refuse .badField
    | [] => refuse .badField
  else match Cell.ofBytes id index, rest with
    | some c, [hi, lo] => putCell c (c.ofHalf (half hi lo))
    | _, _ => refuse .badField

/-! ## SETTINGS_STORE, STATUS_GET, RESTART (R184, R186, R188) -/

/-- SETTINGS_STORE (R184). -/
def settingsStore : Owner := fun s =>
  if s.svl.store.isIdle then
    (s.modSvl fun v => { v with store := .storing v.settings }, .of .done)
  else (s, .of .busy)

/-- The completion of the page write (R184): the page holds the fixed values under a fresh code (R193). -/
def State.storeComplete (fixed : Settings) (s : State) : State :=
  (s.modNva fun v => { v with page := pageSeal (pageEncode fixed) }).modSvl fun v =>
    { v with store := .idle, defaulted := false, unstored := false }

/-- The STATUS_GET image (11.3): three flag bytes, the WINDOW channel set, the marks. -/
def State.statusImage (s : State) : List Byte :=
  let f := s.svl.flags.toNat
  byte1 f ++ byte1 (f / 256) ++ byte1 (f / 65536) ++ byte2 s.svl.windowSet.toNat ++
  byte1 (marks [s.svl.defaulted, s.svl.unstored, !s.svl.store.isIdle])

/-- STATUS_GET (R186): with the acknowledge mark set, every flag returned as set is cleared. -/
def statusGet (acknowledge : Byte) : Owner := fun s =>
  match acknowledge.toNat with
  | 0 => (s, .done s.statusImage)
  | 1 => (s.clearFlags, .done s.statusImage)
  | _ => (s, .of .badField)

/-- RESTART (R188): DONE at once; the reset comes with the end of the reply, or of the store if that is later. -/
def restart : Owner := fun s => (s.modSvl fun v => { v with restartCalled := true }, .of .done)

end Sys2Proof.Machine
end

