-- ==== Sys2Proof/Machine/Reset.lean ====
section
/-! DEFINITION. A reset of any kind: the Service Link port's own state, the start-up work, and every block's reset state
(R30 to R32, R65, R85, R99, R119, R137, R155, R158, R159, R185, R189, R190); and the end of the start-up work. -/

namespace Sys2Proof.Machine

/-- A reset that comes while STORING leaves the page with a check code that does not match its contents (R184). The
contents are a free value (log 40). -/
def State.cutStore (s : State) : State :=
  if s.svl.store.isIdle then s
  else { s with nva := { s.nva with page := pageCut (Config.cutPage s.free).toList }, free := s.free + 1 }

/-- The Service Link port's own state at a reset (R189). -/
def Svl.reset (v : Svl) : Svl :=
  { v with rx := .hunting, buffer := [], bytesDue := none, gap := none, serving := false, reply := none,
           restartCalled := false, startedUp := false, unstored := false, store := .idle, flags := 0,
           windowSet := 0 }

/-- The page cannot be used: every setting takes its default (R185). -/
def State.useDefaults (s : State) : State :=
  (s.modSvl fun v => { v with settings := .defaults, defaulted := true }).latch .settingsDefaulted

/-- The settings of a page's first 281 bytes become the working values (R185). -/
def State.useSettings (x : Settings) (s : State) : State :=
  s.modSvl fun v => { v with settings := x, defaulted := false }

/-- The page load (R185, R193): the check code is applied first, and the page judged after any correction. A page that
passes once corrected is rewritten; an uncorrectable one is not. -/
def State.loadPage (s : State) : State :=
  match pageVerdict s.nva.page with
  | .clean =>
    match pageDecode (s.nva.page.take 281) with
    | some x => s.useSettings x
    | none => s.useDefaults
  | .oneFlip =>
    let fixed := pageCorrect s.nva.page
    match pageDecode (fixed.take 281) with
    | some x => ((s.useSettings x).modNva fun v => { v with page := fixed }).latch .recordCorrected
    | none => s.useDefaults
  | .lost => s.useDefaults

/-- The plant record load (R158). -/
def State.loadPlantRecord (s : State) : State :=
  match s.nva.plantRecord.verdict with
  | .clean => s
  | .oneFlip => (s.modPlantRecord id).latch .recordCorrected
  | .lost =>
    (s.modPlantRecord fun _ => { cause := some .recordLost, lockouts := Vector.replicate 3 true }).latch .recordSuspect

/-- A station at a reset (R121, R137): LOCKED_OUT where its mark is set, the filtered levels at rest, and a filter timer
started where a raw level differs. -/
def Station.reset (locked : Bool) (filter : Nat) (x : Station) : Station :=
  { Station.rest with
    state := if locked then .lockedOut else .idle
    rawStart := x.rawStart, rawStop := x.rawStop
    startFilter := if x.rawStart then some filter else none
    stopFilter := if x.rawStop then some filter else none }

/-- Every block but the Allotment Table and the Service Link port takes its reset state. -/
def State.resetBlocks (s : State) : State :=
  { s with
    fcl := .reset
    fsu := .reset s.set.pickupMode
    bgv := .reset
    rsv := .reset
    sld := .reset
    msq := .reset
    wgc := .reset s.plantRecord.cause.isSome
    spu := Vector.ofFn fun i => (s.spu[i]).reset s.plantRecord.lockouts[i] s.inputFilter }

/-- The start-up scan (R30): records 1 to 64 in turn. -/
def State.startUpScan (s : State) : State := s.readEach fun _ _ => true

/-- A record's staged set at a reset: applied, or discarded for a SUSPECT record (R31). -/
def State.resetStaged (n : RecNo) (s : State) : State :=
  if (s.terms n).staged then
    if s.recState n = .suspect then s.modTerms n fun x => { x with stagedClass := none, stagedRank := none }
    else s.modTerms n Terms.applyStaged
  else s

/-- A record's state at a reset (R31): LIVE and RESTORING become SHED with cause PLANT, subject to R5; RETIRING becomes
VACANT. -/
def State.resetState (n : RecNo) (s : State) : State :=
  match s.recState n with
  | .live | .restoring =>
    if s.quotaSpent n then s.modTerms n fun x => { x with state := .quotaOut }
    else (s.modTerms n fun x => { x with state := .shed }).modAccount n fun a => { a with cause := some .plant }
  | .retiring => s.vacate n
  | _ => s

/-- A record's working fields at a reset (R31): absent or 0, and the full TRIP_COOLOFF for a TRIPPED record. -/
def State.resetWork (n : RecNo) (s : State) : State :=
  s.modWork n fun _ =>
    { Working.zero with cooloff := if s.recState n = .tripped then s.set.tripCooloff else 0 }

/-- The rewrite of one record after the scan (R31). -/
def State.resetRecord (n : RecNo) (s : State) : State := ((s.resetStaged n).resetState n).resetWork n

/-- A reset of any kind, with its start-up work done up to the event that ends it (R189, R190). -/
def State.resetAll (s : State) : State :=
  let s := (s.cutStore.modSvl Svl.reset).loadPage
  let s := s.loadPlantRecord.resetBlocks
  let s := s.startUpScan.eachRecord State.resetRecord
  s.modRsv fun _ => .reset

/-- The end of the start-up work (R190): RESTARTED is latched, requests are served, and the round timer is started
(R32, R35). -/
def State.startUp (s : State) : State :=
  ((s.modSvl fun v => { v with startedUp := true }).latch .restarted).modFcl fun l =>
    { l with roundTimer := some (millis s.set.roundPeriod) }

end Sys2Proof.Machine
end

