-- ==== Sys2Proof/Machine/Time.lean ====
section
/-! DEFINITION. Time: counts of the 8 MHz reference pass through every timer of State (R50; log 1). -/

namespace Sys2Proof.Machine

/-- A timer after `n` counts: a running one falls and stands at 0 until its expiry is taken. -/
def Timer.pass (n : Nat) (t : Timer) : Timer := t.map fun k => k - n

/-- Counts in one second. -/
def oneSecond : Nat := 8000000

/-- A whole-second count downward after `n` counts: it falls by the seconds completed, to 1 at the least; the last second
ends at its expiry command. Answers the value and the counts gone of the second under way (log 5). -/
def countDown (n value frac : Nat) : Nat × Nat :=
  if value = 0 then (0, 0) else (max 1 (value - (frac + n) / oneSecond), (frac + n) % oneSecond)

/-- A whole-second count upward after `n` counts, to 299 at the most; the last second ends at its expiry command. -/
def countUp (n value frac : Nat) : Nat × Nat :=
  if 299 < value then (value, 0) else (min 299 (value + (frac + n) / oneSecond), (frac + n) % oneSecond)

/-- A record's whole-second counts after `n` counts: the hold-off of a SHED record (R105), the cool-off of a TRIPPED one
(R4), the live timer of a LIVE one (R106). -/
def Working.pass (n : Nat) (st : RecState) (w : Working) : Working :=
  match st with
  | .shed =>
    let r := countDown n w.holdoff w.holdoffFrac
    { w with holdoff := r.1, holdoffFrac := r.2 }
  | .tripped =>
    let r := countDown n w.cooloff w.cooloffFrac
    { w with cooloff := r.1, cooloffFrac := r.2 }
  | .live =>
    let r := countUp n w.liveTimer w.liveFrac
    { w with liveTimer := r.1, liveFrac := r.2 }
  | _ => w

/-- The part of a slot under way after `n` counts. -/
def LinePhase.pass (n : Nat) : LinePhase → LinePhase
  | .idle => .idle
  | .turnaround a c left => .turnaround a c (left - n)
  | .sending a c f => .sending a c f
  | .window a c left => .window a c (left - n)
  | .receiving a c left => .receiving a c (left - n)

/-- A station's timers after `n` counts. -/
def Station.pass (n : Nat) (x : Station) : Station :=
  { x with startFilter := x.startFilter.pass n, stopFilter := x.stopFilter.pass n, wait := x.wait.pass n,
           engage := x.engage.pass n, dip := x.dip.pass n, jam := x.jam.pass n, refusal := x.refusal.pass n }

/-- The capture count and the timers of the Frequency and Speed Unit after `n` counts. -/
def Fsu.pass (n : Nat) (u : Fsu) : Fsu :=
  { u with captureCount := u.captureCount + BitVec.ofNat 32 n, gap := u.gap.pass n, window := u.window.pass n,
           slip := u.slip.pass n }

/-- The ladder's timers after `n` counts. -/
def Sld.pass (n : Nat) (l : Sld) : Sld :=
  { l with step := l.step.pass n, pause := l.pause.pass n, collapse1 := l.collapse1.pass n,
           collapse2 := l.collapse2.pass n }

/-- The sequencer's timers after `n` counts. -/
def Msq.pass (n : Nat) (m : Msq) : Msq :=
  { m with scan := m.scan.pass n, entries := m.entries.map fun x => { x with timer := x.timer.pass n } }

/-- The Water and Gate Controller's timers after `n` counts. -/
def Wgc.pass (n : Nat) (w : Wgc) : Wgc :=
  { w with timeout := w.timeout.pass n, pulse := w.pulse.pass n, sync := w.sync.pass n, runup := w.runup.pass n,
           short := w.short.pass n, recovery := w.recovery.pass n, level := w.level.pass n,
           levelLost := w.levelLost.pass n, freqOver := w.freqOver.pass n, shaftOver := w.shaftOver.pass n }

/-- The whole part after `n` counts of the reference with no event. -/
def State.advance (n : Nat) (s : State) : State :=
  { s with
    atb := Vector.ofFn fun i => (s.atb[i]).pass n (s.recState i)
    fcl := { s.fcl with roundTimer := s.fcl.roundTimer.pass n, phase := s.fcl.phase.pass n }
    fsu := s.fsu.pass n
    bgv := { s.bgv with hold := s.bgv.hold.pass n }
    sld := s.sld.pass n
    spu := s.spu.map (Station.pass n)
    msq := s.msq.pass n
    wgc := s.wgc.pass n
    svl := { s.svl with gap := s.svl.gap.pass n } }

end Sys2Proof.Machine
end

