-- ==== Sys2Proof/Machine/Link.lean ====
section
/-! DEFINITION. Serving requests: the reply, the dispatch of a frame to its owner, and the receiver (10 10.1 and 10.2,
R178 to R181). -/

namespace Sys2Proof.Machine

/-- What a meaning answers: with the reset pin held the part does nothing (R187; log 14), and else the state the rules
give. No command stops the part (log 34). -/
def unlessHeld (f : State → State) (s : State) : Host.Outcome State Fault Refusal :=
  .next (if s.held then s else f s)

/-- The reply to a request goes to the transmitter and serving begins (R180). -/
def State.answer (kind : Byte) (a : Answer) (s : State) : State :=
  s.modSvl fun v => { v with reply := some (replyFrame kind a), serving := true }

/-- A request that has passed the CRC check: discarded while another is served, answered TOO_EARLY before the start-up
work is complete, else taken by its owner (R179 checks 2 and 3, R180). The evaluations it calls for follow it (R92). -/
def State.serve (kind : Byte) (owner : Owner) (s : State) : State :=
  if s.svl.serving then s
  else if !s.svl.startedUp then s.answer kind (.of .tooEarly)
  else
    let r := owner s
    (r.1.answer kind r.2).settle

/-- A request of a kind as a whole event. -/
def request (k : Kind) (owner : Owner) : State → Host.Outcome State Fault Refusal := unlessHeld (State.serve k.code owner)

/-- The owner of a request from its kind and payload (R181, 11.2). The lengths have been checked before. -/
def ownerOf : Kind → List Byte → Owner
  | .allotCreate, [h1, h0, node, outlet, cls, rank, c1, c0, q1, q0] =>
    allotCreate (half h1 h0) node outlet cls rank (half c1 c0) (half q1 q0)
  | .allotAmend, [number, presence, h1, h0, c1, c0, q1, q0, cls, rank, node, outlet] =>
    allotAmend number presence (half h1 h0) (half c1 c0) (half q1 q0) cls rank node outlet
  | .allotActivate, [n] => allotActivate n
  | .allotSuspend, [n] => allotSuspend n
  | .allotRetire, [n] => allotRetire n
  | .allotLookup, [n] => allotLookup n
  | .allotFind, [key, t1, t0, start, node, outlet] => allotFind key (half t1 t0) start node outlet
  | .allotList, [state, start] => allotList state start
  | .tripClear, [n] => tripClear n
  | .dayTurn, [] => dayTurn
  | .settingGet, [id, index] => settingGet id index
  | .settingPut, id :: index :: rest => settingPut id index rest
  | .settingsStore, [] => settingsStore
  | .statusGet, [ack] => statusGet ack
  | .restart, [] => restart
  | .plantStart, [] => plantStart
  | .plantStop, [] => plantStop
  | .plantClear, [] => plantClear
  | .plantGet, [] => plantGet
  | .sawClear, [i] => sawClear i
  | .sawGet, [] => sawGet
  | .nodeGet, [a] => nodeGet a
  | .readingsGet, [] => readingsGet
  | .sampleNow, [c] => sampleNow c
  | .governorGet, [] => governorGet
  | .stageRetest, [g] => stageRetest g
  | .reserveGet, [] => reserveGet
  | _, _ => refuse .badLength

/-- Checks 4 and 5 of R179, then the owner. -/
def dispatch (kind : Byte) (payload : List Byte) : Owner :=
  match Kind.ofCode kind with
  | none => refuse .badKind
  | some k => if k.lengthOk payload.length then ownerOf k payload else refuse .badLength

/-- A complete frame, given as the bytes after the start byte: length, kind, payload and CRC (R179). -/
def State.frameComplete (bytes : List Byte) (s : State) : State :=
  let body := bytes.take (bytes.length - 2)
  match body with
  | _ :: kind :: payload =>
    if crcBytes body = bytes.drop (bytes.length - 2) then s.serve kind (dispatch kind payload) else s
  | _ => s

/-- The receiver back in HUNTING with nothing collected. -/
def State.hunt (s : State) : State :=
  s.modSvl fun v => { v with rx := .hunting, buffer := [], bytesDue := none, gap := none }

/-- A byte stored in COLLECTING (R178): the gap timer restarts; the first is the length, above 64 an abandonment; the
last byte due completes the frame. -/
def State.collect (b : Byte) (s : State) : State :=
  match s.svl.bytesDue with
  | none =>
    if 64 < b.toNat then s.hunt
    else s.modSvl fun v => { v with buffer := [b], bytesDue := some (b.toNat + 3), gap := some (millis 5) }
  | some due =>
    if due ≤ 1 then s.hunt.frameComplete (s.svl.buffer ++ [b])
    else s.modSvl fun v => { v with buffer := v.buffer ++ [b], bytesDue := some (due - 1), gap := some (millis 5) }

/-- A byte from the line (R178). -/
def State.linkByte (b : Byte) (stopOk : Bool) (s : State) : State :=
  match s.svl.rx with
  | .hunting =>
    if stopOk ∧ b = startByte then
      s.modSvl fun v => { v with rx := .collecting, buffer := [], bytesDue := none, gap := some (millis 5) }
    else s
  | .collecting => if stopOk then s.collect b else s.hunt

/-- The last byte of a reply leaves the transmitter (R180): serving ends, but for a RESTART, which ends at its reset
(R188). -/
def State.replyEnds (s : State) : State :=
  let s := s.modSvl fun v => { v with reply := none }
  if s.svl.restartCalled then (if s.svl.store.isIdle then s.resetAll else s)
  else s.modSvl fun v => { v with serving := false }

/-- The completion of a page write, and the soft reset that waited for it (R184, R188). -/
def State.storeEnds (fixed : Settings) (s : State) : State :=
  let s := s.storeComplete fixed
  if s.svl.restartCalled ∧ s.svl.reply = none then s.resetAll else s

end Sys2Proof.Machine
end

