-- ==== Sys2Proof/Machine/ExecLink.lean ====
section
/-! DEFINITION. The meanings of the Service Link's events and of the resets (chapter 10), and of the Feeder Chain's
events (chapter 2). An expiry acts while its timer runs (log 2). -/

namespace Sys2Proof.Machine

/-! ## Service Link events -/

/-- SERVICE_LINK_BYTE (R178, R179). -/
def execServiceLinkByte (byte : Byte) (stopOk : Bool) (s : State) : Host.Outcome State Fault Refusal :=
  unlessHeld (fun s => s.linkByte byte stopOk) s

/-- SERVICE_GAP_TIMER_EXPIRY (R178): the frame is abandoned. -/
def execServiceGapTimerExpiry (s : State) : Host.Outcome State Fault Refusal :=
  unlessHeld (fun s => if s.svl.gap.running then s.hunt else s) s

/-- REPLY_SENT (R180, R188). -/
def execReplySent (s : State) : Host.Outcome State Fault Refusal :=
  unlessHeld (fun s => if s.svl.reply.isSome then s.replyEnds else s) s

/-- SETTINGS_STORE_COMPLETE (R184). -/
def execSettingsStoreComplete (s : State) : Host.Outcome State Fault Refusal :=
  unlessHeld (fun s => match s.svl.store with | .storing fixed => s.storeEnds fixed | .idle => s) s

/-! ## Resets -/

/-- POWER_ON_RESET (R189, R190). The reset pin stays as it stands (log 35). -/
def execPowerOnReset (s : State) : Host.Outcome State Fault Refusal := .next s.resetAll

/-- PIN_RESET (R189, R190): the release of the pin resets the part. -/
def execPinReset (s : State) : Host.Outcome State Fault Refusal := .next ({ s with held := false } : State).resetAll

/-- RESET_PIN_ASSERTED (R187): the part is held until the pin is released. -/
def execResetPinAsserted (s : State) : Host.Outcome State Fault Refusal := .next { s with held := true }

/-- START_UP_COMPLETE (R190). -/
def execStartUpComplete (s : State) : Host.Outcome State Fault Refusal :=
  unlessHeld (fun s => if s.svl.startedUp then s else s.startUp) s

/-! ## Feeder Chain events -/

/-- ROUND_TIMER_EXPIRY (R35, R36). -/
def execRoundTimerExpiry (s : State) : Host.Outcome State Fault Refusal :=
  unlessHeld (fun s => if s.fcl.roundTimer.running then s.roundExpiry.settle else s) s

/-- LINE_TURNAROUND_END (R34, R38). -/
def execLineTurnaroundEnd (s : State) : Host.Outcome State Fault Refusal :=
  unlessHeld (fun s => match s.fcl.phase with | .turnaround a call _ => s.sendFrame a call | _ => s) s

/-- FRAME_SENT (R38). -/
def execFrameSent (s : State) : Host.Outcome State Fault Refusal :=
  unlessHeld (fun s => match s.fcl.phase with | .sending a call _ => s.openWindow a call | _ => s) s

/-- REPLY_BEGINS (R38). -/
def execReplyBegins (s : State) : Host.Outcome State Fault Refusal :=
  unlessHeld (fun s => match s.fcl.phase with | .window a call _ => s.beginReception a call | _ => s) s

/-- REPLY_WINDOW_EXPIRY (R38): the slot ends with no reply. -/
def execReplyWindowExpiry (s : State) : Host.Outcome State Fault Refusal :=
  unlessHeld (fun s => match s.fcl.phase with | .window _ _ _ => s.nextFrame.settle | _ => s) s

/-- REPLY_RECEIVED (R39, R40). -/
def execReplyReceived (chars : List LineChar) (s : State) : Host.Outcome State Fault Refusal :=
  unlessHeld (fun s => match s.fcl.phase with
    | .receiving a call _ => (s.receiveReply a call chars).endSlot.settle
    | _ => s) s

/-- RECEPTION_TIMEOUT (R38, R39): fewer than 26 characters came within 1.2 ms, so the frame fails check 1. -/
def execReceptionTimeout (s : State) : Host.Outcome State Fault Refusal :=
  unlessHeld (fun s => match s.fcl.phase with
    | .receiving a _ _ => (s.discardReply a).endSlot.settle
    | _ => s) s

end Sys2Proof.Machine
end

