-- ==== Sys2Proof/Machine/ExecPlant.lean ====
section
/-! DEFINITION. The meanings of the events of the frequency, the governor, the ladder, the record timers, the saw
stations, the converter and the plant (chapters 1, 3, 4, 6 to 9). An expiry acts while its timer runs (log 2); the
evaluations an event calls for follow it (R92). -/

namespace Sys2Proof.Machine

/-! ## Frequency, speed and governor (chapters 3 and 4) -/

/-- The time that passes up to an edge which carries its capture count (log 3). -/
def State.advanceTo (count : BitVec 32) (s : State) : State := s.advance (count - s.fsu.captureCount).toNat

/-- CROSSING_EDGE (R51 to R56). -/
def execCrossingEdge (count : BitVec 32) (s : State) : Host.Outcome State Fault Refusal :=
  unlessHeld (fun s => ((s.advanceTo count).crossing count).settle) s

/-- GAP_TIMER_EXPIRY (R53). -/
def execGapTimerExpiry (s : State) : Host.Outcome State Fault Refusal :=
  unlessHeld (fun s => if s.fsu.gap.running then s.gapExpiry.settle else s) s

/-- HOLD_TIMER_EXPIRY (R70). -/
def execHoldTimerExpiry (s : State) : Host.Outcome State Fault Refusal :=
  unlessHeld (fun s => if s.bgv.hold.running then s.holdExpiry.settle else s) s

/-- SHAFT_PULSE (R57, R60). -/
def execShaftPulse (trackB : Bool) (s : State) : Host.Outcome State Fault Refusal :=
  unlessHeld (fun s => (s.shaftPulse trackB).settle) s

/-- INDEX_EDGE (R60, R61). -/
def execIndexEdge (s : State) : Host.Outcome State Fault Refusal := unlessHeld (fun s => s.indexEdge.settle) s

/-- ARBOR_PULSE (R62). -/
def execArborPulse (station : StationNo) (s : State) : Host.Outcome State Fault Refusal :=
  unlessHeld (fun s => s.arborPulse station) s

/-- SPEED_WINDOW_END (R58, R59, R62). -/
def execSpeedWindowEnd (s : State) : Host.Outcome State Fault Refusal :=
  unlessHeld (fun s => if s.fsu.window.running then s.windowEnd.settle else s) s

/-- SLIP_TIMER_EXPIRY (R63). -/
def execSlipTimerExpiry (s : State) : Host.Outcome State Fault Refusal :=
  unlessHeld (fun s => if s.fsu.slip.running then s.slipExpiry else s) s

/-! ## Ladder and record timers (chapters 6 and 1) -/

/-- STEP_TIMER_EXPIRY (R107 to R109). -/
def execStepTimerExpiry (s : State) : Host.Outcome State Fault Refusal :=
  unlessHeld (fun s => if s.sld.step.running then s.stepExpiry.settle else s) s

/-- STEP_PAUSE_EXPIRY (R109): the pause becomes clear and the Reserve Unit evaluates. -/
def execStepPauseExpiry (s : State) : Host.Outcome State Fault Refusal :=
  unlessHeld (fun s =>
    if s.sld.pause.running then (s.modSld fun l => { l with pause := none }).promptEvaluation.settle else s) s

/-- FIRST_COLLAPSE_TIMER_EXPIRY (R110). -/
def execFirstCollapseTimerExpiry (s : State) : Host.Outcome State Fault Refusal :=
  unlessHeld (fun s =>
    if s.sld.collapse1.running then
      (s.collapseFirst.modSld fun l => { l with collapse1 := none, collapse1Spent := true }).settle
    else s) s

/-- SECOND_COLLAPSE_TIMER_EXPIRY (R111). -/
def execSecondCollapseTimerExpiry (s : State) : Host.Outcome State Fault Refusal :=
  unlessHeld (fun s =>
    if s.sld.collapse2.running then
      (s.collapseSecond.modSld fun l => { l with collapse2 := none, collapse2Spent := true }).settle
    else s) s

/-- HOLDOFF_EXPIRY (R105): a SHED record's hold-off reaches 0, which is an evaluation event. -/
def execHoldoffExpiry (record : RecNo) (s : State) : Host.Outcome State Fault Refusal :=
  unlessHeld (fun s =>
    if s.recState record = .shed ∧ (s.work record).holdoff ≠ 0 then
      (s.modWork record fun w => { w with holdoff := 0, holdoffFrac := 0 }).promptEvaluation.settle
    else s) s

/-- LIVE_TIMER_FULL (R106): the timer stands at 300 and the recent sheds become 0. -/
def execLiveTimerFull (record : RecNo) (s : State) : Host.Outcome State Fault Refusal :=
  unlessHeld (fun s =>
    if s.recState record = .live ∧ (s.work record).liveTimer < 300 then
      (s.modWork record fun w => { w with liveTimer := 300, liveFrac := 0 }).modAccount record fun a =>
        { a with recent := 0 }
    else s) s

/-- COOLOFF_EXPIRY (R4): the cool-off stands at 0; no state changes. -/
def execCooloffExpiry (record : RecNo) (s : State) : Host.Outcome State Fault Refusal :=
  unlessHeld (fun s =>
    if s.recState record = .tripped then s.modWork record fun w => { w with cooloff := 0, cooloffFrac := 0 } else s) s

/-! ## Saw stations (chapter 7) -/

/-- INPUT_LEVEL_CHANGE (R121). While the reset pin is held the level on the pin changes and nothing else (log 14). -/
def execInputLevelChange (station : StationNo) (input : StationInput) (active : Bool) (s : State) :
    Host.Outcome State Fault Refusal :=
  .next (if s.held then s.inputRaw station input active else s.inputChange station input active)

/-- Whether an input's filter timer runs. -/
def Station.filterRuns (x : Station) : StationInput → Bool
  | .start => x.startFilter.running
  | .stop => x.stopFilter.running

/-- INPUT_FILTER_EXPIRY (R121, R123, R124). -/
def execInputFilterExpiry (station : StationNo) (input : StationInput) (s : State) :
    Host.Outcome State Fault Refusal :=
  unlessHeld (fun s =>
    if (s.station station).filterRuns input then (s.filterExpiry station input).settle else s) s

/-- WAIT_TIMER_EXPIRY (R125). -/
def execWaitTimerExpiry (station : StationNo) (s : State) : Host.Outcome State Fault Refusal :=
  unlessHeld (fun s => if (s.station station).wait.running then (s.waitExpiry station).settle else s) s

/-- ENGAGE_TIMER_EXPIRY (R131). -/
def execEngageTimerExpiry (station : StationNo) (s : State) : Host.Outcome State Fault Refusal :=
  unlessHeld (fun s =>
    if (s.station station).engage.running then (s.abortStation station .abortTimeout).settle else s) s

/-- DIP_TIMER_EXPIRY (R129). -/
def execDipTimerExpiry (station : StationNo) (s : State) : Host.Outcome State Fault Refusal :=
  unlessHeld (fun s => if (s.station station).dip.running then (s.abortStation station .abortDip).settle else s) s

/-- JAM_TIMER_EXPIRY (R134). -/
def execJamTimerExpiry (station : StationNo) (s : State) : Host.Outcome State Fault Refusal :=
  unlessHeld (fun s => if (s.station station).jam.running then (s.jamExpiry station).settle else s) s

/-- REFUSAL_SHOW_EXPIRY (R136): the lamp goes off. -/
def execRefusalShowExpiry (station : StationNo) (s : State) : Host.Outcome State Fault Refusal :=
  unlessHeld (fun s => s.modStation station fun x => { x with refusal := none }) s

/-! ## Converter (chapter 8) -/

/-- CONVERSION_COMPLETE (R143). -/
def execConversionComplete (raw : BitVec 12) (s : State) : Host.Outcome State Fault Refusal :=
  unlessHeld (fun s => (s.completeConversion raw).settle) s

/-- SCAN_TIMER_EXPIRY (R145). -/
def execScanTimerExpiry (s : State) : Host.Outcome State Fault Refusal :=
  unlessHeld (fun s => if s.msq.scan.running then s.scanExpiry else s) s

/-- FRESHNESS_TIMER_EXPIRY (R144). -/
def execFreshnessTimerExpiry (channel : ChannelNo) (s : State) : Host.Outcome State Fault Refusal :=
  unlessHeld (fun s => if (s.reading channel).timer.running then s.freshnessExpiry channel else s) s

/-- CALIBRATION_COMPLETE (R154). -/
def execCalibrationComplete (raw : BitVec 12) (s : State) : Host.Outcome State Fault Refusal :=
  unlessHeld (fun s => (s.calibrate raw).settle) s

/-! ## Water and gate (chapter 9) -/

/-- SYNCHRONISING_TIMER_EXPIRY (R161). -/
def execSynchronisingTimerExpiry (s : State) : Host.Outcome State Fault Refusal :=
  unlessHeld (fun s => if s.wgc.sync.running then s.goOnLine.settle else s) s

/-- RUNUP_TIMER_EXPIRY (R161). -/
def execRunupTimerExpiry (s : State) : Host.Outcome State Fault Refusal :=
  unlessHeld (fun s =>
    if s.wgc.runup.running then ((s.modWgc fun w => { w with runup := none }).trip .runupFail).settle else s) s

/-- SHORT_TIMER_EXPIRY (R162). -/
def execShortTimerExpiry (s : State) : Host.Outcome State Fault Refusal :=
  unlessHeld (fun s => if s.wgc.short.running then s.enterWaterShort.settle else s) s

/-- RECOVERY_TIMER_EXPIRY (R163). -/
def execRecoveryTimerExpiry (s : State) : Host.Outcome State Fault Refusal :=
  unlessHeld (fun s => if s.wgc.recovery.running then s.leaveWaterShort.settle else s) s

/-- LEVEL_TIMER_EXPIRY (R170). -/
def execLevelTimerExpiry (s : State) : Host.Outcome State Fault Refusal :=
  unlessHeld (fun s => if s.wgc.level.running then s.levelExpiry else s) s

/-- LEVEL_LOST_TIMER_EXPIRY (R165). -/
def execLevelLostTimerExpiry (s : State) : Host.Outcome State Fault Refusal :=
  unlessHeld (fun s => if s.wgc.levelLost.running then s.levelLostExpiry.settle else s) s

/-- FREQUENCY_OVERSPEED_EXPIRY (R167). -/
def execFrequencyOverspeedExpiry (s : State) : Host.Outcome State Fault Refusal :=
  unlessHeld (fun s =>
    if s.wgc.freqOver.running then ((s.modWgc fun w => { w with freqOver := none }).trip .overspeed).settle else s) s

/-- SHAFT_OVERSPEED_EXPIRY (R167). -/
def execShaftOverspeedExpiry (s : State) : Host.Outcome State Fault Refusal :=
  unlessHeld (fun s =>
    if s.wgc.shaftOver.running then ((s.modWgc fun w => { w with shaftOver := none }).trip .overspeed).settle else s) s

/-- GATE_TIMEOUT_EXPIRY (R175). -/
def execGateTimeoutExpiry (s : State) : Host.Outcome State Fault Refusal :=
  unlessHeld (fun s => if s.wgc.timeout.running then s.gateTimeout.settle else s) s

/-- GATE_STEP_PULSE (R174): a pulse goes out and the next is timed. -/
def execGateStepPulse (s : State) : Host.Outcome State Fault Refusal :=
  unlessHeld (fun s =>
    if s.wgc.pulse.running then
      s.modWgc fun w => { w with pulses := w.pulses + 1, pulse := some s.pulsePeriod }
    else s) s

end Sys2Proof.Machine
end

