-- ==== Sys2Proof/Machine/ExecRequests.lean ====
section
/-! DEFINITION. The meanings of the request commands: each is one request frame, complete and with its CRC right
(log 13), served by its owner. -/

namespace Sys2Proof.Machine

/-! ## Allotments (chapter 1) -/

/-- ALLOT_CREATE (R7). -/
def execAllotCreate (holder : Half) (node outlet cls rank : Byte) (cap quota : Half) (s : State) :
    Host.Outcome State Fault Refusal :=
  request .allotCreate (allotCreate holder node outlet cls rank cap quota) s

/-- ALLOT_AMEND (R8 to R12). -/
def execAllotAmend (number presence : Byte) (holder cap quota : Half) (cls rank node outlet : Byte) (s : State) :
    Host.Outcome State Fault Refusal :=
  request .allotAmend (allotAmend number presence holder cap quota cls rank node outlet) s

/-- ALLOT_ACTIVATE (R13). -/
def execAllotActivate (number : Byte) (s : State) : Host.Outcome State Fault Refusal :=
  request .allotActivate (allotActivate number) s

/-- ALLOT_SUSPEND (R14). -/
def execAllotSuspend (number : Byte) (s : State) : Host.Outcome State Fault Refusal :=
  request .allotSuspend (allotSuspend number) s

/-- ALLOT_RETIRE (R15). -/
def execAllotRetire (number : Byte) (s : State) : Host.Outcome State Fault Refusal :=
  request .allotRetire (allotRetire number) s

/-- ALLOT_LOOKUP (R17). -/
def execAllotLookup (number : Byte) (s : State) : Host.Outcome State Fault Refusal :=
  request .allotLookup (allotLookup number) s

/-- ALLOT_FIND (R18). -/
def execAllotFind (key : Byte) (tag : Half) (start node outlet : Byte) (s : State) : Host.Outcome State Fault Refusal :=
  request .allotFind (allotFind key tag start node outlet) s

/-- ALLOT_LIST (R19). -/
def execAllotList (state start : Byte) (s : State) : Host.Outcome State Fault Refusal :=
  request .allotList (allotList state start) s

/-- TRIP_CLEAR (R20). -/
def execTripClear (number : Byte) (s : State) : Host.Outcome State Fault Refusal :=
  request .tripClear (tripClear number) s

/-- DAY_TURN (R21). -/
def execDayTurn (s : State) : Host.Outcome State Fault Refusal := request .dayTurn dayTurn s

/-! ## Plant and stations (chapters 9 and 7) -/

/-- PLANT_START (R160). -/
def execPlantStart (s : State) : Host.Outcome State Fault Refusal := request .plantStart plantStart s

/-- PLANT_STOP (R164). -/
def execPlantStop (s : State) : Host.Outcome State Fault Refusal := request .plantStop plantStop s

/-- PLANT_CLEAR (R169). -/
def execPlantClear (s : State) : Host.Outcome State Fault Refusal := request .plantClear plantClear s

/-- PLANT_GET (R177). -/
def execPlantGet (s : State) : Host.Outcome State Fault Refusal := request .plantGet plantGet s

/-- SAW_CLEAR (R138). -/
def execSawClear (station : Byte) (s : State) : Host.Outcome State Fault Refusal :=
  request .sawClear (sawClear station) s

/-- SAW_GET (R139). -/
def execSawGet (s : State) : Host.Outcome State Fault Refusal := request .sawGet sawGet s

/-! ## Chain, sequencer, governor, reserve (chapters 2, 8, 4, 5) -/

/-- NODE_GET (R48). -/
def execNodeGet (node : Byte) (s : State) : Host.Outcome State Fault Refusal := request .nodeGet (nodeGet node) s

/-- READINGS_GET (R157). -/
def execReadingsGet (s : State) : Host.Outcome State Fault Refusal := request .readingsGet readingsGet s

/-- SAMPLE_NOW (R151). -/
def execSampleNow (channel : Byte) (s : State) : Host.Outcome State Fault Refusal :=
  request .sampleNow (sampleNow channel) s

/-- GOVERNOR_GET (R84). -/
def execGovernorGet (s : State) : Host.Outcome State Fault Refusal := request .governorGet governorGet s

/-- STAGE_RETEST (R82). -/
def execStageRetest (stage : Byte) (s : State) : Host.Outcome State Fault Refusal :=
  request .stageRetest (stageRetest stage) s

/-- RESERVE_GET (R98). -/
def execReserveGet (s : State) : Host.Outcome State Fault Refusal := request .reserveGet reserveGet s

/-! ## Service Link port (chapter 10) -/

/-- SETTING_GET (R182). -/
def execSettingGet (id index : Byte) (s : State) : Host.Outcome State Fault Refusal :=
  request .settingGet (settingGet id index) s

/-- The owner of a SETTING_PUT of a length: outside 4..19 the frame is answered BAD_LENGTH (R179, R192). -/
def settingPutChecked (id index : Byte) (rest : List Byte) : Owner :=
  if Kind.settingPut.lengthOk (rest.length + 2) then settingPut id index rest else refuse .badLength

/-- SETTING_PUT (R183). -/
def execSettingPut (id index : Byte) (rest : List Byte) (s : State) : Host.Outcome State Fault Refusal :=
  request .settingPut (settingPutChecked id index rest) s

/-- SETTINGS_STORE (R184). -/
def execSettingsStore (s : State) : Host.Outcome State Fault Refusal := request .settingsStore settingsStore s

/-- STATUS_GET (R186). -/
def execStatusGet (acknowledge : Byte) (s : State) : Host.Outcome State Fault Refusal :=
  request .statusGet (statusGet acknowledge) s

/-- RESTART (R188). -/
def execRestart (s : State) : Host.Outcome State Fault Refusal := request .restart restart s

end Sys2Proof.Machine
end

