-- ==== Sys2Proof/Machine/Dispatch.lean ====
section
/-! DEFINITION. The effect of each command, one arm per constructor of Instr. -/

namespace Sys2Proof.Machine

/-- The command's effect on everything but the queue. -/
def exec (i : Instr) (s : State) : Host.Outcome State Fault Refusal :=
  match i with
  | .allotCreate holder node outlet cls rank cap quota => Sys2Proof.Machine.execAllotCreate holder node outlet cls rank cap quota s
  | .allotAmend number presence holder cap quota cls rank node outlet => Sys2Proof.Machine.execAllotAmend number presence holder cap quota cls rank node outlet s
  | .allotActivate number => Sys2Proof.Machine.execAllotActivate number s
  | .allotSuspend number => Sys2Proof.Machine.execAllotSuspend number s
  | .allotRetire number => Sys2Proof.Machine.execAllotRetire number s
  | .allotLookup number => Sys2Proof.Machine.execAllotLookup number s
  | .allotFind key tag start node outlet => Sys2Proof.Machine.execAllotFind key tag start node outlet s
  | .allotList state start => Sys2Proof.Machine.execAllotList state start s
  | .tripClear number => Sys2Proof.Machine.execTripClear number s
  | .dayTurn => Sys2Proof.Machine.execDayTurn s
  | .plantStart => Sys2Proof.Machine.execPlantStart s
  | .plantStop => Sys2Proof.Machine.execPlantStop s
  | .plantClear => Sys2Proof.Machine.execPlantClear s
  | .plantGet => Sys2Proof.Machine.execPlantGet s
  | .sawClear station => Sys2Proof.Machine.execSawClear station s
  | .sawGet => Sys2Proof.Machine.execSawGet s
  | .nodeGet node => Sys2Proof.Machine.execNodeGet node s
  | .readingsGet => Sys2Proof.Machine.execReadingsGet s
  | .sampleNow channel => Sys2Proof.Machine.execSampleNow channel s
  | .governorGet => Sys2Proof.Machine.execGovernorGet s
  | .stageRetest stage => Sys2Proof.Machine.execStageRetest stage s
  | .reserveGet => Sys2Proof.Machine.execReserveGet s
  | .settingGet id index => Sys2Proof.Machine.execSettingGet id index s
  | .settingPut id index rest => Sys2Proof.Machine.execSettingPut id index rest s
  | .settingsStore => Sys2Proof.Machine.execSettingsStore s
  | .statusGet acknowledge => Sys2Proof.Machine.execStatusGet acknowledge s
  | .restart => Sys2Proof.Machine.execRestart s
  | .serviceLinkByte byte stopOk => Sys2Proof.Machine.execServiceLinkByte byte stopOk s
  | .serviceGapTimerExpiry => Sys2Proof.Machine.execServiceGapTimerExpiry s
  | .replySent => Sys2Proof.Machine.execReplySent s
  | .settingsStoreComplete => Sys2Proof.Machine.execSettingsStoreComplete s
  | .powerOnReset => Sys2Proof.Machine.execPowerOnReset s
  | .pinReset => Sys2Proof.Machine.execPinReset s
  | .startUpComplete => Sys2Proof.Machine.execStartUpComplete s
  | .roundTimerExpiry => Sys2Proof.Machine.execRoundTimerExpiry s
  | .lineTurnaroundEnd => Sys2Proof.Machine.execLineTurnaroundEnd s
  | .frameSent => Sys2Proof.Machine.execFrameSent s
  | .replyBegins => Sys2Proof.Machine.execReplyBegins s
  | .replyWindowExpiry => Sys2Proof.Machine.execReplyWindowExpiry s
  | .replyReceived chars => Sys2Proof.Machine.execReplyReceived chars s
  | .receptionTimeout => Sys2Proof.Machine.execReceptionTimeout s
  | .crossingEdge count => Sys2Proof.Machine.execCrossingEdge count s
  | .gapTimerExpiry => Sys2Proof.Machine.execGapTimerExpiry s
  | .holdTimerExpiry => Sys2Proof.Machine.execHoldTimerExpiry s
  | .shaftPulse trackB => Sys2Proof.Machine.execShaftPulse trackB s
  | .indexEdge => Sys2Proof.Machine.execIndexEdge s
  | .arborPulse station => Sys2Proof.Machine.execArborPulse station s
  | .speedWindowEnd => Sys2Proof.Machine.execSpeedWindowEnd s
  | .slipTimerExpiry => Sys2Proof.Machine.execSlipTimerExpiry s
  | .stepTimerExpiry => Sys2Proof.Machine.execStepTimerExpiry s
  | .stepPauseExpiry => Sys2Proof.Machine.execStepPauseExpiry s
  | .firstCollapseTimerExpiry => Sys2Proof.Machine.execFirstCollapseTimerExpiry s
  | .secondCollapseTimerExpiry => Sys2Proof.Machine.execSecondCollapseTimerExpiry s
  | .holdoffExpiry record => Sys2Proof.Machine.execHoldoffExpiry record s
  | .liveTimerFull record => Sys2Proof.Machine.execLiveTimerFull record s
  | .cooloffExpiry record => Sys2Proof.Machine.execCooloffExpiry record s
  | .inputLevelChange station input active => Sys2Proof.Machine.execInputLevelChange station input active s
  | .inputFilterExpiry station input => Sys2Proof.Machine.execInputFilterExpiry station input s
  | .waitTimerExpiry station => Sys2Proof.Machine.execWaitTimerExpiry station s
  | .engageTimerExpiry station => Sys2Proof.Machine.execEngageTimerExpiry station s
  | .dipTimerExpiry station => Sys2Proof.Machine.execDipTimerExpiry station s
  | .jamTimerExpiry station => Sys2Proof.Machine.execJamTimerExpiry station s
  | .refusalShowExpiry station => Sys2Proof.Machine.execRefusalShowExpiry station s
  | .conversionComplete raw => Sys2Proof.Machine.execConversionComplete raw s
  | .scanTimerExpiry => Sys2Proof.Machine.execScanTimerExpiry s
  | .freshnessTimerExpiry channel => Sys2Proof.Machine.execFreshnessTimerExpiry channel s
  | .calibrationComplete raw => Sys2Proof.Machine.execCalibrationComplete raw s
  | .synchronisingTimerExpiry => Sys2Proof.Machine.execSynchronisingTimerExpiry s
  | .runupTimerExpiry => Sys2Proof.Machine.execRunupTimerExpiry s
  | .shortTimerExpiry => Sys2Proof.Machine.execShortTimerExpiry s
  | .recoveryTimerExpiry => Sys2Proof.Machine.execRecoveryTimerExpiry s
  | .levelTimerExpiry => Sys2Proof.Machine.execLevelTimerExpiry s
  | .levelLostTimerExpiry => Sys2Proof.Machine.execLevelLostTimerExpiry s
  | .frequencyOverspeedExpiry => Sys2Proof.Machine.execFrequencyOverspeedExpiry s
  | .shaftOverspeedExpiry => Sys2Proof.Machine.execShaftOverspeedExpiry s
  | .gateTimeoutExpiry => Sys2Proof.Machine.execGateTimeoutExpiry s
  | .gateStepPulse => Sys2Proof.Machine.execGateStepPulse s
  | .resetPinAsserted => Sys2Proof.Machine.execResetPinAsserted s

end Sys2Proof.Machine
end

