-- ==== Sys2Proof/WellFormed.lean ====
section
/-! DEFINITION. Which commands the outside can send: the two operands whose type is wider than their rule. -/

namespace Sys2Proof

/-- A SETTING_PUT request has a payload of 4 to 19 bytes (11.2), two of which are the identifier and the
index; a REPLY_RECEIVED ends its reception at 26 characters (R38). Every other operand is as wide as its
field, and a field value out of range is answered or discarded by the rules themselves. -/
def Instr.wellFormed : Instr → Bool
  | .settingPut _ _ rest => 2 ≤ rest.length && rest.length ≤ 17
  | .replyReceived chars => chars.length == 26
  | _ => true

end Sys2Proof
end

