-- ==== Sys2Proof/Safety.lean ====
section
/-! DEFINITION. The words the statements use: when a request is served, when the sections of the array read without an
error, the frame of each request, the reply images as the tables of 11.4 and 11.7 lay them out, and the laws of the 2408 as
properties of a state. -/

namespace Sys2Proof

/-! ## Requests (11.2) -/

/-- The kind of a request command and the payload of its frame, by the layouts of 11.2; none for an event. -/
def Instr.request : Instr → Option (Machine.Kind × List Byte)
  | .allotCreate holder node outlet cls rank cap quota =>
    some (.allotCreate, Machine.byte2 holder.toNat ++ [node, outlet, cls, rank] ++ Machine.byte2 cap.toNat ++ Machine.byte2 quota.toNat)
  | .allotAmend number presence holder cap quota cls rank node outlet =>
    some (.allotAmend, [number, presence] ++ Machine.byte2 holder.toNat ++ Machine.byte2 cap.toNat ++ Machine.byte2 quota.toNat ++
      [cls, rank, node, outlet])
  | .allotActivate number => some (.allotActivate, [number])
  | .allotSuspend number => some (.allotSuspend, [number])
  | .allotRetire number => some (.allotRetire, [number])
  | .allotLookup number => some (.allotLookup, [number])
  | .allotFind key tag start node outlet => some (.allotFind, [key] ++ Machine.byte2 tag.toNat ++ [start, node, outlet])
  | .allotList state start => some (.allotList, [state, start])
  | .tripClear number => some (.tripClear, [number])
  | .dayTurn => some (.dayTurn, [])
  | .plantStart => some (.plantStart, [])
  | .plantStop => some (.plantStop, [])
  | .plantClear => some (.plantClear, [])
  | .plantGet => some (.plantGet, [])
  | .sawClear station => some (.sawClear, [station])
  | .sawGet => some (.sawGet, [])
  | .nodeGet node => some (.nodeGet, [node])
  | .readingsGet => some (.readingsGet, [])
  | .sampleNow channel => some (.sampleNow, [channel])
  | .governorGet => some (.governorGet, [])
  | .stageRetest stage => some (.stageRetest, [stage])
  | .reserveGet => some (.reserveGet, [])
  | .settingGet id index => some (.settingGet, [id, index])
  | .settingPut id index rest => some (.settingPut, [id, index] ++ rest)
  | .settingsStore => some (.settingsStore, [])
  | .statusGet acknowledge => some (.statusGet, [acknowledge])
  | .restart => some (.restart, [])
  | _ => none

end Sys2Proof

namespace Sys2Proof.Machine

/-! ## Conditions on a state -/

/-- A request that completes now is served: the reset pin is released, the start-up work is complete, and no other
request is being served (R179 checks 2 and 3, R187). -/
abbrev State.ready (s : State) : Prop := s.held = false ∧ s.svl.startedUp = true ∧ s.svl.serving = false

/-- No evaluation is outstanding. It is so between any two steps (log 11). -/
abbrev State.calm (s : State) : Prop := s.rsv.due = false

/-- The two sections of a record read without an error (R28, R29). -/
abbrev State.reads (s : State) (n : RecNo) : Prop :=
  s.nva.slots[n].terms.verdict = .clean ∧ s.nva.slots[n].account.verdict = .clean

/-- An entry of the bound-record map reads without an error. -/
abbrev State.mapReads (s : State) (o : OutletId) : Prop := s.nva.map[o.index].verdict = .clean

/-- Every record reads without an error. -/
abbrev State.allRead (s : State) : Prop := ∀ n, s.reads n

/-- The frame of a request after its start byte: length, kind, payload and CRC (11.2, R191). -/
def requestFrame (k : Kind) (payload : List Byte) : List Byte :=
  let body := byte1 payload.length ++ [k.code] ++ payload
  body ++ crcBytes body

/-! ## What two changes of plant state do to the loads -/

/-- A record shed (R102, R103): SHED with the cause, the recent sheds, the hold-off and the pre-shed draw of its kind, or
QUOTA_OUT with all of them kept where its tally has reached its quota (R5); its outlet open with the essential mark clear
(R3), and its reservation gone (R87). -/
def State.recordShed (kind : ShedKind) (cause : ShedCause) (s t : State) (n : RecNo) : Prop :=
  (if s.quotaSpent n = true then
    t.terms n = { s.terms n with state := .quotaOut } ∧ t.account n = s.account n ∧
    (t.work n).preShed = (s.work n).preShed
  else
    t.terms n = { s.terms n with state := .shed } ∧
    t.account n = { s.account n with cause := some cause, recent := kind.recent (s.account n).recent } ∧
    (t.work n).holdoff = kind.holdoff s.set.holdoff (kind.recent (s.account n).recent) ∧
    (t.work n).preShed = s.shedDraw n) ∧
  (∀ o : OutletId, (s.terms n).outlet = some o →
    t.outlet o = { s.outlet o with closed := false, essential := false }) ∧
  (s.recState n = .restoring → t.holds (.allotment n) = false)

/-- A record as it was. -/
def State.recordKept (s t : State) (n : RecNo) : Prop :=
  t.nva.slots[n] = s.nva.slots[n] ∧ t.work n = s.work n

/-- A station aborted from ENGAGING with an outcome (R131). -/
def Station.aborted (x : Station) (why : SawOutcome) : Station :=
  { x with state := .idle, engage := none, dip := none, wait := none, voltPending := false, outcome := why,
           refusal := some (seconds 5) }

/-- A station taken from RUNNING to WINDING_DOWN (R133). -/
def Station.wound (x : Station) : Station := { x with state := .windingDown, jam := none, refusal := none }

/-- What the entry to RUN-DOWN or TRIPPED does to the loads (R117, R132): every outlet is ordered open with its essential
mark clear, every LIVE and RESTORING record is shed, the restoration watch is empty, the ENGAGING station is aborted and the RUNNING ones wind down. -/
def State.poweredDown (s t : State) : Prop :=
  (∀ o, t.outlet o = { s.outlet o with closed := false, essential := false }) ∧
  (∀ n, if s.supplied n = true then s.recordShed .zero .plant t n else s.recordKept t n) ∧
  t.sld.watch = [] ∧
  (∀ i, t.station i =
    if (s.station i).state = .engaging then (s.station i).aborted .abortPlant
    else if (s.station i).state = .running then (s.station i).wound
    else s.station i)

/-! ## Reply images (11.4, 11.7) -/

/-- The number an image holds at an offset, in a size in bytes, most significant byte first (11). -/
def fieldAt (image : List Byte) (offset size : Nat) : Nat :=
  ((image.drop offset).take size).foldl (fun v b => 256 * v + b.toNat) 0

/-- An image holds a table of fields, each an offset, a size and a value of which the image holds the low bytes. -/
def holdsFields (image : List Byte) (fields : List (Nat × Nat × Nat)) : Prop :=
  ∀ f ∈ fields, fieldAt image f.1 f.2.1 = f.2.2 % 256 ^ f.2.1

/-- The number of a mark byte: bit k is the k-th mark. -/
def bitsValue : List Bool → Nat
  | [] => 0
  | b :: l => b.toNat + 2 * bitsValue l

/-- The number of a signed quantity in a size in bytes, two's complement (11). -/
def signedValue (size : Nat) (v : Int) : Nat := (v % ((256 ^ size : Nat) : Int)).toNat

/-- The time left of a timer in whole milliseconds, 0 while it is stopped (11.7): 8,000 counts each. -/
def millisLeft (t : Timer) : Nat := t.getD 0 / 8000

/-- The 40 bytes of the record image (11.4). -/
def State.recordFields (s : State) (n : RecNo) : List (Nat × Nat × Nat) :=
  let x := s.terms n
  let a := s.account n
  let w := s.work n
  let place := s.outletOf n
  let marks := place.map fun o => bitsValue [(s.outlet o).closed, (s.outlet o).essential, (s.outlet o).answered]
  [(0, 1, n.val + 1), (1, 1, x.state.code), (2, 2, x.holder.toNat),
   (4, 1, (place.map fun o => o.node.val + 1).getD 0), (5, 1, (place.map fun o => o.outlet.val + 1).getD 0),
   (6, 1, (x.cls.map AllotClass.code).getD 0), (7, 1, x.rank), (8, 2, x.cap),
   (10, 1, bitsValue [x.quota.isSome, x.stagedClass.isSome, x.stagedRank.isSome, a.cause.isSome, w.reading.isSome,
     w.fresh, w.preShed.isSome, w.baseline.isSome]),
   (11, 2, x.quota.getD 0), (13, 1, (x.stagedClass.map AllotClass.code).getD 0), (14, 1, x.stagedRank.getD 0),
   (15, 2, a.today), (17, 3, a.kwh), (20, 2, a.wh), (22, 1, a.recent), (23, 1, (a.cause.map ShedCause.code).getD 0),
   (24, 1, a.corrected), (25, 2, w.reading.getD 0), (27, 2, w.preShed.getD 0), (29, 2, w.baseline.getD 0),
   (31, 1, w.overRun), (32, 1, w.openRun), (33, 1, w.closedRun), (34, 2, w.liveTimer), (36, 1, w.holdoff),
   (37, 2, w.cooloff), (39, 1, marks.getD 0)]

/-- The 25 bytes of GOVERNOR_GET (11.7). -/
def State.governorFields (s : State) : List (Nat × Nat × Nat) :=
  let b := s.bgv
  [(0, 3, s.fsu.freq), (3, 1, s.fsu.freqValid.toNat), (4, 1, b.state.code), (5, 2, signedValue 2 b.err),
   (7, 3, b.integ), (10, 2, b.demand), (12, 1, b.coarse), (13, 1, b.trim), (14, 2, b.effective), (16, 2, b.reserve),
   (18, 1, bitsValue [b.target.a, b.target.b, b.target.c, b.target.d]),
   (19, 1, bitsValue [b.switched.a, b.switched.b, b.switched.c, b.switched.d]),
   (20, 1, b.health.a.code), (21, 1, b.health.b.code), (22, 1, b.health.c.code), (23, 1, b.health.d.code),
   (24, 1, b.health.trim.code)]

/-- The 14 bytes of NODE_GET (11.7). -/
def State.nodeFields (s : State) (a : NodeNo) : List (Nat × Nat × Nat) :=
  let x := s.node a
  [(0, 1, x.state.code), (1, 1, x.missed), (2, 2, x.valid), (4, 1, x.discarded), (5, 1, x.failsafe)] ++
    (List.finRange 4).flatMap fun k =>
      let o := s.outlet ⟨a, k⟩
      [(6 + 2 * k.val, 1, bitsValue [o.closed, o.essential, o.answered]),
       (7 + 2 * k.val, 1, ((s.boundTo ⟨a, k⟩).map fun n => n.val + 1).getD 0)]

/-- The 48 bytes of RESERVE_GET (11.7). Without a claim the head's fields are 0 (log 21). -/
def State.reserveFields (s : State) : List (Nat × Nat × Nat) :=
  [(0, 2, s.bgv.reserve), (2, 4, signedValue 4 s.available), (6, 1, s.rsv.table.length)] ++
    ((List.range 8).flatMap fun k =>
      let e := s.rsv.table[k]?
      [(7 + 4 * k, 1, (e.map fun e => e.holder.kindCode).getD 0), (8 + 4 * k, 1, (e.map fun e => e.holder.number).getD 0),
       (9 + 4 * k, 2, (e.map Reservation.amount).getD 0)]) ++
    [(39, 1, s.rsv.allowanceUsed.toNat),
     (40, 1, bitsValue [!s.fsu.freqValid,
       s.fsu.freqValid && decide (s.set.restoreBand < ((s.fsu.freq : Int) - s.set.fset).natAbs),
       s.rsv.table.any fun e => match e.holder with | .station _ => true | .allotment _ => false,
       s.sld.pause.isSome]),
     (41, 1, s.claims.length), (42, 1, (s.head.map Holder.kindCode).getD 0), (43, 1, (s.head.map Holder.number).getD 0),
     (44, 1, match s.head with
       | some (.allotment n) => ((s.terms n).cls.map AllotClass.code).getD 0
       | some (.station _) => 5
       | none => 0),
     (45, 2, (s.head.map s.need).getD 0), (47, 1, (s.head.map fun h => (s.wait h).code).getD 0)]

/-- The 18 bytes of one station in SAW_GET (11.7). -/
def State.stationFields (s : State) (i : StationNo) : List (Nat × Nat × Nat) :=
  let x := s.station i
  let amount : Nat := if x.state = .engaging then
      ((s.rsv.table.filter fun e => e.holder = .station i).map Reservation.amount).sum else 0
  [(0, 1, x.state.code),
   (1, 1, bitsValue [x.clutch, x.startPressed, x.stopOpen, x.wait.isSome, x.engage.isSome, x.dip.isSome, x.jam.isSome,
     x.voltPending]),
   (2, 1, x.lamp.code), (3, 2, s.fsu.arborSpeed[i]), (5, 3, millisLeft x.wait), (8, 3, millisLeft x.engage),
   (11, 1, x.outcome.code), (12, 2, amount), (14, 2, s.set.sawDraw[i]), (16, 2, s.set.arborNominal[i])]

/-- The 152 bytes of READINGS_GET (11.7), with an activity code. The channel of slot 4 is shown while the slot converts,
too (log 38). -/
def State.readingsFields (s : State) (activity : Nat) : List (Nat × Nat × Nat) :=
  let m := s.msq
  let slot4 : Nat × Nat := match m.slot4, m.conv with
    | some c, _ => (1, c.val)
    | none, .converting .slot4 c => (2, c.val)
    | none, _ => (0, 0)
  [(0, 1, m.state.code), (1, 1, activity)] ++
    ((List.finRange 16).flatMap fun c =>
      let x := s.reading c
      [(2 + 9 * c.val, 1, x.state.code), (3 + 9 * c.val, 2, x.raw.getD 0), (5 + 9 * c.val, 2, signedValue 2 (x.value.getD 0)),
       (7 + 9 * c.val, 1, x.source.code), (8 + 9 * c.val, 1, x.alarm.toNat), (9 + 9 * c.val, 1, x.outside),
       (10 + 9 * c.val, 1, x.inside)]) ++
    [(146, 1, bitsValue [m.slot1.a, m.slot1.b, m.slot1.c, m.slot1.d, m.slot1.trim]), (147, 1, bitsValue [m.slot2, m.slot3]),
     (148, 1, slot4.1), (149, 1, slot4.2), (150, 1, m.pointer), (151, 1, m.runCount)]

/-- The 64 bytes of PLANT_GET (11.7). A rack differential or net head beyond 16 bits shows its low 16 bits (log 42). -/
def State.plantFields (s : State) : List (Nat × Nat × Nat) :=
  let w := s.wgc
  let u := s.fsu
  let timers := [w.sync, w.runup, w.short, w.recovery, w.level, w.levelLost, w.freqOver, w.shaftOver]
  [(0, 1, w.plant.code), (1, 1, (s.plantRecord.cause.map TripCause.code).getD 0),
   (2, 1, bitsValue [s.plantRecord.lockouts[0], s.plantRecord.lockouts[1], s.plantRecord.lockouts[2]]),
   (3, 2, w.gateTarget), (5, 1, bitsValue [w.emergency, w.timeout.isSome]), (6, 1, w.move.code),
   (7, 1, w.direction.code), (8, 3, millisLeft w.timeout)] ++
    (([(0, 3), (1, 0), (2, 12), (3, 1), (4, 2)] : List (Nat × ChannelNo)).flatMap fun p =>
      [(11 + 3 * p.1, 1, (s.reading p.2).state.code), (12 + 3 * p.1, 2, signedValue 2 ((s.reading p.2).value.getD 0))]) ++
    [(26, 2, signedValue 2 (w.rackDiff.getD 0)), (28, 2, signedValue 2 (w.netHead.getD 0)),
     (30, 1, bitsValue [w.rackDiff.isSome, w.netHead.isSome, w.rackAlarm, w.residual]),
     (31, 1, bitsValue (timers.map Option.isSome))] ++
    (timers.zipIdx.map fun p => (32 + 3 * p.2, 3, millisLeft p.1)) ++
    [(56, 1, bitsValue [w.evalPending, w.wasteHeld, w.waste]), (57, 2, u.shaftSpeed), (59, 1, u.direction.code),
     (60, 1, bitsValue [!u.pickupFault, u.pickupFault, u.freqValid]), (61, 3, u.freq)]

/-! ## Laws -/

/-- What the Frequency and Speed Unit keeps (R52 to R62): the published frequency is one a valid period can give, a valid
frequency has a rejection run below 3, the speeds lie in 0..2,000 per mille, and the runs of revolutions agree with the
pickup fault. -/
def State.frequencyLaw (s : State) : Prop :=
  30000 ≤ s.fsu.freq ∧ s.fsu.freq ≤ 70000 ∧ s.fsu.rejections ≤ 3 ∧
  (s.fsu.freqValid = true → s.fsu.rejections < 3) ∧
  s.fsu.shaftSpeed ≤ 2000 ∧ (∀ i : Fin 3, s.fsu.arborSpeed[i] ≤ 2000) ∧
  s.fsu.badRun ≤ 3 ∧ s.fsu.goodRun ≤ 3 ∧
  (s.fsu.pickupFault = false → s.fsu.badRun < 3) ∧ (s.fsu.pickupFault = true → s.fsu.goodRun < 3)

/-- What the Ballast Governor keeps (R67, R70 to R76): the integrator within the limit of the stages that are not FAULTED,
the mapping, and the values at rest. -/
def State.governorLaw (s : State) : Prop :=
  s.bgv.integ ≤ s.bgv.health.integLimit ∧ s.bgv.err.natAbs ≤ 2000 ∧ s.bgv.demand ≤ 4095 ∧
  s.bgv.coarse = s.bgv.target.level ∧ s.bgv.trim ≤ 255 ∧
  s.bgv.effective = 256 * s.bgv.coarse + s.bgv.trim ∧ s.bgv.effective ≤ s.bgv.demand ∧
  (s.bgv.state = .inactive → s.bgv = { Bgv.reset with health := s.bgv.health }) ∧
  (s.bgv.state = .holding ↔ s.bgv.hold.isSome = true) ∧
  (s.plant = .standstill → s.bgv.state = .inactive)

/-- What the reservation table and the restoration watch keep (R86, R112, R126): one entry for each RESTORING record and
each ENGAGING station and no others, at most 8, one watch entry for each RESTORING record, one station ENGAGING at the
most. The timers WAITING and RUNNING own run in those states alone. -/
def State.reserveLaw (s : State) : Prop :=
  s.rsv.due = false ∧ s.rsv.table.length ≤ 8 ∧ (s.rsv.table.map Reservation.holder).Nodup ∧
  (∀ n : RecNo, s.holds (.allotment n) = true ↔ s.recState n = .restoring) ∧
  (∀ i : StationNo, s.holds (.station i) = true ↔ (s.station i).state = .engaging) ∧
  (s.sld.watch.map Restoration.record).Nodup ∧
  (∀ n : RecNo, n ∈ s.sld.watch.map Restoration.record ↔ s.recState n = .restoring) ∧
  (∀ i j : StationNo, (s.station i).state = .engaging → (s.station j).state = .engaging → i = j) ∧
  (∀ i : StationNo, (s.station i).wait.isSome = true → (s.station i).state = .waiting) ∧
  (∀ i : StationNo, (s.station i).jam.isSome = true → (s.station i).state = .running)

/-- What keeps the hamlet and the saws safe (R33, R122): an outlet is ordered closed, and a clutch is on, while the plant
is ON-LINE or WATER-SHORT alone; the plant is TRIPPED exactly while the plant record holds a cause (R158, R159, R168,
R169); the timers of one plant state run in that state alone (R161 to R163); and in WATER-SHORT no station is ENGAGING
and no DEFERRABLE record is LIVE or RESTORING (R115). -/
def State.supplyLaw (s : State) : Prop :=
  (∀ o : OutletId, (s.outlet o).closed = true → s.supplying = true) ∧
  (∀ i : StationNo, (s.station i).clutch = true → s.supplying = true) ∧
  (s.plant = .tripped ↔ s.plantRecord.cause.isSome = true) ∧
  (s.wgc.sync.isSome = true → s.plant = .runUp) ∧ (s.wgc.runup.isSome = true → s.plant = .runUp) ∧
  (s.wgc.short.isSome = true → s.plant = .onLine) ∧ (s.wgc.recovery.isSome = true → s.plant = .waterShort) ∧
  (s.plant = .waterShort → (∀ i : StationNo, (s.station i).state ≠ .engaging) ∧
    ∀ n : RecNo, s.supplied n = true → (s.terms n).cls ≠ some .deferrable)

/-- The quota law (R5): no record that is LIVE, RESTORING or SHED has a today tally at or above its quota, and every
quota is above 0. -/
def State.quotaLaw (s : State) : Prop :=
  ∀ n : RecNo, (s.terms n).quota ≠ some 0 ∧
    (s.recState n = .live ∨ s.recState n = .restoring ∨ s.recState n = .shed → s.quotaSpent n = false)

/-- Settings the port can hold (R183, 11.6): every value in its range, and the two pairs in their order. -/
def Settings.valid (x : Settings) : Prop :=
  (∀ c : Cell, c.inRange (c.get x) = true) ∧ x.stopLevel < x.startLevel ∧ x.gateFloor ≤ x.gateCeiling ∧
  1 ≤ x.routine.length ∧ x.routine.length ≤ 16

/-- What the settings and the gate keep (R173, R183, R185): the working settings are valid, and so are those a store under
way writes; the gate target is at most GATE_CEILING. -/
def State.settingsLaw (s : State) : Prop :=
  s.set.valid ∧ (∀ x, s.svl.store = .storing x → x.valid) ∧ s.wgc.gateTarget ≤ s.set.gateCeiling

/-- What the Measurement Sequencer keeps (R141, R144, R145, R147, R149, R150, R154): outside RUNNING nothing is pending,
converted or entered; in RUNNING the converter is free only when nothing waits for it; no completion is half done; and
slot 1 converts stage channels, slot 2 channel 3 and slot 3 channel 4 alone. -/
def State.converterLaw (s : State) : Prop :=
  s.msq.conv ≠ .completing ∧
  (∀ c : ChannelNo, (s.msq.conv = .converting .slot1 c → (stageOf c).isSome = true) ∧
    (s.msq.conv = .converting .slot2 c → c = 3) ∧ (s.msq.conv = .converting .slot3 c → c = 4)) ∧
  (s.msq.state ≠ .running → s.msq.conv = .free ∧ s.msq.slot1.lowest = none ∧ s.msq.slot2 = false ∧
    s.msq.slot3 = false ∧ s.msq.slot4 = none ∧ s.msq.runCount = 0 ∧ s.msq.scan = none ∧
    ∀ c : ChannelNo, (s.reading c).state = .absent) ∧
  (s.msq.state = .running → s.msq.conv = .free → s.msq.slot1.lowest = none ∧ s.msq.slot2 = false ∧
    s.msq.slot3 = false ∧ s.msq.slot4 = none ∧ s.msq.runCount = 0) ∧
  (∀ c : ChannelNo, (s.reading c).timer.isSome = true ↔ (s.reading c).state = .fresh) ∧
  (∀ c : ChannelNo, (s.reading c).state = .absent ↔ (s.reading c).value = none)

end Sys2Proof.Machine
end

