-- ==== Sys2Proof/Certificates/Slice0/Obligations.lean ====
section
/-! DEFINITION. The statements for the provers. A result is stated as `exec c s = .next t`. Where the Reserve Unit
evaluates after the event (R92), t is `mid.settle`, and the statement says what mid is: the state the event itself leaves;
what the evaluations after it can do is a statement of its own. -/

open Sys2Proof Sys2Proof.Machine

/-! ## Steps, the reset pin, the Service Link -/

/-- A step takes the command at the front of the queue, on the queue's rest. -/
def Obligations.StepTakesFrontCommand : Prop :=
  ∀ (c : Instr) (rest : List Instr) (s : State), s.pending = c :: rest → step s = exec c { s with pending := rest }

/-- On an empty queue one count of the 8 MHz reference passes, and with the reset pin held nothing does: the model's
choice (logs 1 and 30). What so many counts change (a CROSSING_EDGE lets more than one pass, log 3): the capture count
rises, every running timer and the part of a slot under way fall and stand at 0, and the whole seconds of a SHED
record's hold-off, a TRIPPED one's cool-off and a LIVE one's live timer go on (R4, R105, R106); where their seconds
begin, and that the last second is left to its expiry, is the model's choice (log 5, log 2). Nothing else changes. -/
def Obligations.EmptyQueuePassesOneCount : Prop :=
  (∀ s : State, s.pending = [] →
     (s.held = true → step s = .next s) ∧ (s.held = false → step s = .next (s.advance 1))) ∧
  (∀ (s : State) (k : Nat),
     let t := s.advance k
     let down (x : Timer) : Timer := x.map fun n => n - k
     let seconds (f : Nat) : Nat := (f + k) / 8000000
     let part (f : Nat) : Nat := (f + k) % 8000000
     (t = { s with
       atb := t.atb
       fcl := { s.fcl with
         roundTimer := down s.fcl.roundTimer
         phase := (match s.fcl.phase with
           | .turnaround a call left => .turnaround a call (left - k)
           | .window a call left => .window a call (left - k)
           | .receiving a call left => .receiving a call (left - k)
           | other => other) }
       fsu := { s.fsu with
         captureCount := s.fsu.captureCount + BitVec.ofNat 32 k
         gap := down s.fsu.gap
         window := down s.fsu.window
         slip := down s.fsu.slip }
       bgv := { s.bgv with hold := down s.bgv.hold }
       sld := { s.sld with
         step := down s.sld.step
         pause := down s.sld.pause
         collapse1 := down s.sld.collapse1
         collapse2 := down s.sld.collapse2 }
       spu := t.spu
       msq := { s.msq with
         scan := down s.msq.scan
         entries := t.msq.entries }
       wgc := { s.wgc with
         timeout := down s.wgc.timeout
         pulse := down s.wgc.pulse
         sync := down s.wgc.sync
         runup := down s.wgc.runup
         short := down s.wgc.short
         recovery := down s.wgc.recovery
         level := down s.wgc.level
         levelLost := down s.wgc.levelLost
         freqOver := down s.wgc.freqOver
         shaftOver := down s.wgc.shaftOver }
       svl := { s.svl with gap := down s.svl.gap } }) ∧
     (∀ i : StationNo, t.station i = { s.station i with
       startFilter := down (s.station i).startFilter
       stopFilter := down (s.station i).stopFilter
       wait := down (s.station i).wait
       engage := down (s.station i).engage
       dip := down (s.station i).dip
       jam := down (s.station i).jam
       refusal := down (s.station i).refusal }) ∧
     (∀ c : ChannelNo, t.reading c = { s.reading c with timer := down (s.reading c).timer }) ∧
     (∀ n : RecNo, t.work n =
       let w := s.work n
       match s.recState n with
       | .shed => { w with
           holdoff := if w.holdoff = 0 then 0 else max 1 (w.holdoff - seconds w.holdoffFrac)
           holdoffFrac := if w.holdoff = 0 then 0 else part w.holdoffFrac }
       | .tripped => { w with
           cooloff := if w.cooloff = 0 then 0 else max 1 (w.cooloff - seconds w.cooloffFrac)
           cooloffFrac := if w.cooloff = 0 then 0 else part w.cooloffFrac }
       | .live => { w with
           liveTimer := if 299 < w.liveTimer then w.liveTimer else min 299 (w.liveTimer + seconds w.liveFrac)
           liveFrac := if 299 < w.liveTimer then 0 else part w.liveFrac }
       | _ => w))

/-- Every command answers a next state, and leaves the queue as it is: no event stops the part (log 34). -/
def Obligations.EveryCommandCompletes : Prop :=
  ∀ (c : Instr) (s : State), ∃ t, exec c s = .next t ∧ t.pending = s.pending

/-- With the reset pin held no command acts but the resets and the pins themselves (R187; log 14): asserted, the pin
holds the part and changes nothing else; its release is the same reset as a rise of the core supply; while it is held
a change on an input moves the raw level alone. A request that completes while another is served is discarded, and one
that completes during the start-up work is answered TOO_EARLY with no action (R179 checks 2 and 3). -/
def Obligations.CommandsOutsideServiceAreNotTaken : Prop :=
  (∀ (c : Instr) (s : State), s.held = true → c ≠ .pinReset → c ≠ .powerOnReset → c ≠ .resetPinAsserted →
     (∀ i p a, c ≠ .inputLevelChange i p a) → exec c s = .next s) ∧
  ((∀ s : State, exec .resetPinAsserted s = .next { s with held := true }) ∧
   (∀ s : State, ∃ t, exec .pinReset s = .next t ∧ exec .powerOnReset { s with held := false } = .next t ∧ t.held = false) ∧
   (∀ (s : State) (i : StationNo) (a : Bool), s.held = true →
     exec (.inputLevelChange i .start a) s = .next (s.modStation i fun x => { x with rawStart := a }) ∧
     exec (.inputLevelChange i .stop a) s = .next (s.modStation i fun x => { x with rawStop := a }))) ∧
  (∀ (c : Instr) (k : Kind) (p : List Byte) (s : State), c.request = some (k, p) → s.held = false →
     (s.svl.serving = true → exec c s = .next s) ∧
     (s.svl.serving = false → s.svl.startedUp = false → exec c s = .next (s.answer k.code ⟨.tooEarly, []⟩)))

/-- Every expiry command that finds its timer stopped, every command of the chain outside the part of a slot it
belongs to, and every completion with nothing under way, changes nothing: the model's choice (log 2). -/
def Obligations.ExpiriesOfStoppedTimersChangeNothing : Prop :=
  ∀ (s : State) (i : StationNo) (n : RecNo) (c : ChannelNo) (raw : BitVec 12) (chars : List LineChar),
    (s.svl.gap = none → exec .serviceGapTimerExpiry s = .next s) ∧
    (s.svl.reply = none → exec .replySent s = .next s) ∧
    (s.svl.store = .idle → exec .settingsStoreComplete s = .next s) ∧
    (s.fcl.roundTimer = none → exec .roundTimerExpiry s = .next s) ∧
    ((s.fcl.phase matches .turnaround _ _ _) = false → exec .lineTurnaroundEnd s = .next s) ∧
    ((s.fcl.phase matches .sending _ _ _) = false → exec .frameSent s = .next s) ∧
    ((s.fcl.phase matches .window _ _ _) = false →
      exec .replyBegins s = .next s ∧ exec .replyWindowExpiry s = .next s) ∧
    ((s.fcl.phase matches .receiving _ _ _) = false →
      exec (.replyReceived chars) s = .next s ∧ exec .receptionTimeout s = .next s) ∧
    (s.fsu.gap = none → exec .gapTimerExpiry s = .next s) ∧
    (s.fsu.window = none → exec .speedWindowEnd s = .next s) ∧
    (s.bgv.hold = none → exec .holdTimerExpiry s = .next s) ∧
    (s.fsu.slip = none → exec .slipTimerExpiry s = .next s) ∧
    (s.sld.step = none → exec .stepTimerExpiry s = .next s) ∧
    (s.sld.pause = none → exec .stepPauseExpiry s = .next s) ∧
    (s.sld.collapse1 = none → exec .firstCollapseTimerExpiry s = .next s) ∧
    (s.sld.collapse2 = none → exec .secondCollapseTimerExpiry s = .next s) ∧
    ((s.recState n ≠ .shed ∨ (s.work n).holdoff = 0) → exec (.holdoffExpiry n) s = .next s) ∧
    (s.recState n ≠ .live → exec (.liveTimerFull n) s = .next s) ∧
    (s.recState n ≠ .tripped → exec (.cooloffExpiry n) s = .next s) ∧
    ((s.station i).startFilter = none → exec (.inputFilterExpiry i .start) s = .next s) ∧
    ((s.station i).stopFilter = none → exec (.inputFilterExpiry i .stop) s = .next s) ∧
    ((s.station i).wait = none → exec (.waitTimerExpiry i) s = .next s) ∧
    ((s.station i).engage = none → exec (.engageTimerExpiry i) s = .next s) ∧
    ((s.station i).dip = none → exec (.dipTimerExpiry i) s = .next s) ∧
    ((s.station i).jam = none → exec (.jamTimerExpiry i) s = .next s) ∧
    ((s.station i).refusal = none → exec (.refusalShowExpiry i) s = .next s) ∧
    (s.msq.scan = none → exec .scanTimerExpiry s = .next s) ∧
    ((s.reading c).timer = none → exec (.freshnessTimerExpiry c) s = .next s) ∧
    (s.calm → s.msq.conv = .free → exec (.conversionComplete raw) s = .next s) ∧
    (s.calm → s.msq.state ≠ .calibrating → exec (.calibrationComplete raw) s = .next s) ∧
    (s.wgc.sync = none → exec .synchronisingTimerExpiry s = .next s) ∧
    (s.wgc.runup = none → exec .runupTimerExpiry s = .next s) ∧
    (s.wgc.short = none → exec .shortTimerExpiry s = .next s) ∧
    (s.wgc.recovery = none → exec .recoveryTimerExpiry s = .next s) ∧
    (s.wgc.level = none → exec .levelTimerExpiry s = .next s) ∧
    (s.wgc.levelLost = none → exec .levelLostTimerExpiry s = .next s) ∧
    (s.wgc.freqOver = none → exec .frequencyOverspeedExpiry s = .next s) ∧
    (s.wgc.shaftOver = none → exec .shaftOverspeedExpiry s = .next s) ∧
    (s.wgc.timeout = none → exec .gateTimeoutExpiry s = .next s) ∧
    (s.wgc.pulse = none → exec .gateStepPulse s = .next s)

/-- The receiver takes each byte (R178): hunting for the start byte, the length, the bytes due, framing errors, and
the gap of 5 ms. -/
def Obligations.ReceiverTakesEachByte : Prop :=
  ∀ (b : Byte) (ok : Bool) (s : State), s.held = false →
    (s.hunt = { s with svl := { s.svl with rx := .hunting, buffer := [], bytesDue := none, gap := none } }) ∧
    (s.svl.rx = .hunting → ok = true → b = 0xA5 → exec (.serviceLinkByte b ok) s =
      .next { s with svl := { s.svl with rx := .collecting, buffer := [], bytesDue := none, gap := some 40000 } }) ∧
    (s.svl.rx = .hunting → (ok = false ∨ b ≠ 0xA5) → exec (.serviceLinkByte b ok) s = .next s) ∧
    (s.svl.rx = .collecting → ok = false → exec (.serviceLinkByte b ok) s = .next s.hunt) ∧
    (s.svl.rx = .collecting → ok = true → s.svl.bytesDue = none → 64 < b.toNat →
      exec (.serviceLinkByte b ok) s = .next s.hunt) ∧
    (s.svl.rx = .collecting → ok = true → s.svl.bytesDue = none → b.toNat ≤ 64 →
      exec (.serviceLinkByte b ok) s = .next
        { s with svl := { s.svl with buffer := [b], bytesDue := some (b.toNat + 3), gap := some 40000 } }) ∧
    (∀ due, s.svl.rx = .collecting → ok = true → s.svl.bytesDue = some due → 1 < due →
      exec (.serviceLinkByte b ok) s = .next
        { s with svl := { s.svl with buffer := s.svl.buffer ++ [b], bytesDue := some (due - 1), gap := some 40000 } }) ∧
    (∀ n, s.svl.gap = some n → exec .serviceGapTimerExpiry s = .next s.hunt)

/-- The last byte of a complete frame whose CRC is right is the request command that the frame spells, taken with the
receiver back in HUNTING (R178, R181, 11.2). The five checks come in their order (R179): a wrong CRC is discarded;
then service, start-up, kind and length. -/
def Obligations.CompleteFramesAreChecked : Prop :=
  (∀ (c : Instr) (k : Kind) (p init : List Byte) (b : Byte) (s : State), c.request = some (k, p) → c.wellFormed = true →
     requestFrame k p = init ++ [b] → s.held = false → s.svl.rx = .collecting → s.svl.bytesDue = some 1 →
     s.svl.buffer = init → exec (.serviceLinkByte b true) s = exec c s.hunt) ∧
  (∀ (kind x y b : Byte) (p init : List Byte) (s : State), s.held = false → s.svl.rx = .collecting →
     s.svl.bytesDue = some 1 → s.svl.buffer = init →
     byte1 p.length ++ [kind] ++ p ++ [x, y] = init ++ [b] →
     ([x, y] ≠ crcBytes (byte1 p.length ++ [kind] ++ p) → exec (.serviceLinkByte b true) s = .next s.hunt) ∧
     ([x, y] = crcBytes (byte1 p.length ++ [kind] ++ p) →
       (s.svl.serving = true → exec (.serviceLinkByte b true) s = .next s.hunt) ∧
       (s.svl.serving = false → s.svl.startedUp = false →
         exec (.serviceLinkByte b true) s = .next (s.hunt.answer kind ⟨.tooEarly, []⟩)) ∧
       (s.svl.serving = false → s.svl.startedUp = true → s.calm → (∀ k : Kind, k.code ≠ kind) →
         exec (.serviceLinkByte b true) s = .next (s.hunt.answer kind ⟨.badKind, []⟩)) ∧
       (∀ k : Kind, s.svl.serving = false → s.svl.startedUp = true → s.calm → k.code = kind →
         (p.length < k.lengths.1 ∨ k.lengths.2 < p.length) →
         exec (.serviceLinkByte b true) s = .next (s.hunt.answer kind ⟨.badLength, []⟩))))

/-- A reply frame is the start byte, length, the kind echoed, status, payload and CRC; nothing but the transmitter
changes, and serving begins (R180, 11.2). The end of a reply ends the serving; a RESTART's ends at its reset, which
waits for a store under way (R180, R188). RESTART is answered DONE at once in every plant state and calls for the
reset at the end of its reply (R188). -/
def Obligations.RepliesAreSentAndEnd : Prop :=
  (∀ (s : State) (kind : Byte) (st : Status) (p : List Byte),
     s.answer kind ⟨st, p⟩ = { s with svl := { s.svl with
       serving := true
       reply := some
         (let body := [BitVec.ofNat 8 (p.length + 1), kind, BitVec.ofNat 8 st.code] ++ p
          [0xA5#8] ++ body ++ [BitVec.ofNat 8 ((crc16 body).toNat / 256), BitVec.ofNat 8 (crc16 body).toNat]) } }) ∧
  (∀ (s : State) (r : List Byte), s.held = false → s.svl.reply = some r →
     (s.svl.restartCalled = false →
       exec .replySent s = .next { s with svl := { s.svl with reply := none, serving := false } }) ∧
     (s.svl.restartCalled = true → s.svl.store = .idle →
       exec .replySent s = exec .powerOnReset { s with svl := { s.svl with reply := none } }) ∧
     (∀ x, s.svl.restartCalled = true → s.svl.store = .storing x →
       exec .replySent s = .next { s with svl := { s.svl with reply := none } })) ∧
  (∀ s : State, s.ready → s.calm →
     exec .restart s = .next (({ s with svl := { s.svl with restartCalled := true } } : State).answer 0x24 ⟨.done, []⟩))

/-- The CRC-16 (R191): bit by bit over each byte, most significant bit first, polynomial 0x1021, start 0xFFFF, high
byte first; the nine-byte value; and where both links send it and check it. -/
def Obligations.Crc16IsTheStatedCrc : Prop :=
  crc16 [] = 0xFFFF#16 ∧
  (∀ (l : List Byte) (b : Byte), crc16 (l ++ [b]) = (List.range 8).foldl
    (fun (c : BitVec 16) i => if (c.msb != b.getMsbD i) = true then (c <<< 1) ^^^ 0x1021#16 else c <<< 1) (crc16 l)) ∧
  crc16 [0x31#8, 0x32#8, 0x33#8, 0x34#8, 0x35#8, 0x36#8, 0x37#8, 0x38#8, 0x39#8] = 0x29B1#16 ∧
  (∀ l : List Byte, crcBytes l = [(crc16 l).extractLsb' 8 8, (crc16 l).extractLsb' 0 8]) ∧
  (∀ (kind : Byte) (a : Answer), ∃ body : List Byte,
    body = byte1 (a.payload.length + 1) ++ [kind] ++ (byte1 a.status.code ++ a.payload) ∧
    replyFrame kind a = [0xA5#8] ++ body ++ crcBytes body) ∧
  (∀ (s : State) (a : NodeNo), ∃ body : List Byte, body.length = 7 ∧ s.pollFrame a = body ++ crcBytes body) ∧
  (∀ a : NodeNo, ∃ body : List Byte, body.length = 3 ∧ callFrame a = body ++ crcBytes body) ∧
  (∀ (body : List Byte) (x y : Byte) (s : State), [x, y] ≠ crcBytes body → s.frameComplete (body ++ [x, y]) = s) ∧
  (∀ (a : NodeNo) (chars : List LineChar), replyValid a chars = true →
    crcBytes ((chars.map LineChar.byte).take 24) = (chars.map LineChar.byte).drop 24)

/-- SETTINGS_STORE fixes the working values and the completion writes them to the page (R184); a RESTART taken while
STORING resets at the completion (R188). -/
def Obligations.SettingsStoreWritesThePage : Prop :=
  (∀ s : State, s.ready → s.calm →
    (s.svl.store = .idle → exec .settingsStore s =
      .next (({ s with svl := { s.svl with store := .storing s.svl.settings } } : State).answer 0x22 ⟨.done, []⟩)) ∧
    (∀ x, s.svl.store = .storing x → exec .settingsStore s = .next (s.answer 0x22 ⟨.busy, []⟩))) ∧
  (∀ (s : State) (x : Settings), s.held = false → s.svl.store = .storing x →
    ∃ t : State, t = { s with
        nva := { s.nva with page := pageSeal (pageEncode x) }
        svl := { s.svl with store := .idle, defaulted := false, unstored := false } } ∧
      (s.svl.restartCalled = false ∨ s.svl.reply ≠ none → exec .settingsStoreComplete s = .next t) ∧
      (s.svl.restartCalled = true → s.svl.reply = none → exec .settingsStoreComplete s = exec .powerOnReset t))

/-- STATUS_GET shows every flag at its bit, the WINDOW channel set and the marks, and clears them with the acknowledge
mark set (R186, 11.3); a latch sets its flag and no other. -/
def Obligations.StatusGetShowsAndClearsFlags : Prop :=
  (∀ (s : State) (ack : Byte), s.ready → s.calm →
    (ack = 0 → exec (.statusGet ack) s = .next (s.answer 0x23 ⟨.done, s.statusImage⟩)) ∧
    (ack = 1 → exec (.statusGet ack) s =
      .next (({ s with svl := { s.svl with flags := 0, windowSet := 0 } } : State).answer 0x23 ⟨.done, s.statusImage⟩)) ∧
    (ack ≠ 0 → ack ≠ 1 → exec (.statusGet ack) s = .next (s.answer 0x23 ⟨.badField, []⟩))) ∧
  (∀ s : State, s.statusImage.length = 6 ∧
    (∀ f : Flag, (s.statusImage.getD (f.bit / 8) 0).getLsbD (f.bit % 8) = s.flag f) ∧
    (∀ c : ChannelNo, (s.statusImage.getD (4 - c.val / 8) 0).getLsbD (c.val % 8) = s.svl.windowSet.getLsbD c.val) ∧
    (s.statusImage.getD 5 0).getLsbD 0 = s.svl.defaulted ∧ (s.statusImage.getD 5 0).getLsbD 1 = s.svl.unstored ∧
    (s.statusImage.getD 5 0).getLsbD 2 = !s.svl.store.isIdle) ∧
  (∀ (s : State) (f g : Flag), (s.latch f).flag g = (s.flag g || decide (g = f)))

/-- ATTN (R187): asserted while a flag is set, released while none is, released with the pin held and during the
start-up work, asserted at the end of the start-up work, released by the acknowledging STATUS_GET, kept by the other.
-/
def Obligations.AttnFollowsTheFlags : Prop :=
  (∀ s : State, s.attn = true ↔ (∃ f : Flag, s.flag f = true) ∧ s.held = false ∧ s.svl.startedUp = true) ∧
  (∀ s : State, s.held = false → s.svl.startedUp = false → ∃ t, exec .startUpComplete s = .next t ∧ t.attn = true) ∧
  (∀ s : State, s.ready → s.calm → ∃ t, exec (.statusGet 1) s = .next t ∧ t.attn = false) ∧
  (∀ s : State, s.ready → s.calm → ∃ t, exec (.statusGet 0) s = .next t ∧ t.attn = s.attn)

/-- SETTING_GET (R182): the working value of the named setting, the routine list with its count, or BAD_FIELD; it
changes nothing but the transmitter. -/
def Obligations.SettingGetReadsTheWorkingValue : Prop :=
  ∀ (id index : Byte) (s : State), s.ready → s.calm →
    (∀ c : Cell, id ≠ 28 → Cell.ofBytes id index = some c →
      exec (.settingGet id index) s = .next (s.answer 0x20 ⟨.done, signed2 (c.get s.svl.settings)⟩)) ∧
    (id ≠ 28 → Cell.ofBytes id index = none →
      exec (.settingGet id index) s = .next (s.answer 0x20 ⟨.badField, []⟩)) ∧
    (id = 28 → index = 0 → exec (.settingGet id index) s = .next (s.answer 0x20
      ⟨.done, BitVec.ofNat 8 s.svl.settings.routine.length :: s.svl.settings.routine.map fun c => BitVec.ofNat 8 c.val⟩)) ∧
    (id = 28 → index ≠ 0 → exec (.settingGet id index) s = .next (s.answer 0x20 ⟨.badField, []⟩))

/-- SETTING_PUT of a setting of one value (R183): BUSY, the range, the standstill-only settings and the cross-checks
in their order; accepted, the working value and the unstored-changes mark, and the owner's own change (R64, R156,
R173). SETTING_PUT of the routine list (R156, R183): the entries replace the list, and a run in progress ends. That
the pointer becomes 1 when no run is in progress too is the model's choice (log 37). The other refusals (R183, R192):
an unknown identifier or index, a value of another length, and a list whose count does not match its entries, each
BAD_FIELD also while a store is under way; BUSY for a list while a store is under way, and BAD_FIELD for a channel out
of range. A command of a length outside 4..19 is answered BAD_LENGTH as a frame of that length is (R179; log 13). -/
def Obligations.SettingPutWritesTheWorkingValue : Prop :=
  (∀ (id index hi lo : Byte) (c : Cell) (s : State), s.ready → s.calm → id ≠ 28 → Cell.ofBytes id index = some c →
     (s.svl.store ≠ .idle → exec (.settingPut id index [hi, lo]) s = .next (s.answer 0x21 ⟨.busy, []⟩)) ∧
     (s.svl.store = .idle → c.inRange (c.ofHalf (hi ++ lo)) = false →
       exec (.settingPut id index [hi, lo]) s = .next (s.answer 0x21 ⟨.badField, []⟩)) ∧
     (s.svl.store = .idle → c.inRange (c.ofHalf (hi ++ lo)) = true → c.standstillOnly = true → s.plant ≠ .standstill →
       exec (.settingPut id index [hi, lo]) s = .next (s.answer 0x21 ⟨.wrongState, []⟩)) ∧
     (s.svl.store = .idle → c.inRange (c.ofHalf (hi ++ lo)) = true → (c.standstillOnly = false ∨ s.plant = .standstill) →
       c.crossOk s.svl.settings (c.ofHalf (hi ++ lo)) = false →
       exec (.settingPut id index [hi, lo]) s = .next (s.answer 0x21 ⟨.badField, []⟩)) ∧
     (s.svl.store = .idle → c.inRange (c.ofHalf (hi ++ lo)) = true → (c.standstillOnly = false ∨ s.plant = .standstill) →
       c.crossOk s.svl.settings (c.ofHalf (hi ++ lo)) = true →
       ∃ t u : State,
         t = { s with svl := { s.svl with settings := c.put (c.ofHalf (hi ++ lo)) s.svl.settings, unstored := true } } ∧
         exec (.settingPut id index [hi, lo]) s = .next (u.answer 0x21 ⟨.done, []⟩) ∧
         (c.get s.svl.settings = c.ofHalf (hi ++ lo) → u = t) ∧
         (c.get s.svl.settings ≠ c.ofHalf (hi ++ lo) →
           match c with
           | .gateCeiling =>
             (t.svl.settings.gateCeiling < s.wgc.gateTarget → u.wgc.gateTarget = t.svl.settings.gateCeiling) ∧
             (s.wgc.gateTarget ≤ t.svl.settings.gateCeiling → u = t) ∧ u.plant = s.plant ∧ u.svl = t.svl ∧ u.nva = t.nva
           | .pickupMode =>
             u = { t with fsu := { t.fsu with
               armed := false
               revolution := 0
               badRun := 0
               goodRun := 0
               direction := (match t.svl.settings.pickupMode with | .quadrature => .forward | .single => .none) } }
           | .shaftTeeth | .shaftNominal =>
             u = { t with fsu := { t.fsu with armed := false, revolution := 0, badRun := 0, goodRun := 0 } }
           | .low k | .high k | .count k => u = t.modReading k fun x => { x with outside := 0, inside := 0 }
           | _ => u = t))) ∧
  (∀ (entries : List ChannelNo) (s : State), s.ready → s.calm → s.svl.store = .idle →
     1 ≤ entries.length → entries.length ≤ 16 →
     ∃ t u : State,
       t = { s with svl := { s.svl with settings := { s.svl.settings with routine := entries }, unstored := true } } ∧
       exec (.settingPut 28 0 (BitVec.ofNat 8 entries.length :: entries.map fun c => BitVec.ofNat 8 c.val)) s =
         .next (u.answer 0x21 ⟨.done, []⟩) ∧
       (s.svl.settings.routine = entries → u = t) ∧
       (s.svl.settings.routine ≠ entries → u.msq.pointer = 1 ∧ u.msq.runCount = 0 ∧
         (∀ c, u.msq.conv ≠ .converting .routine c) ∧ u.msq.entries = s.msq.entries ∧ u.msq.scan = s.msq.scan ∧
         u = { t with msq := u.msq })) ∧
  (∀ (id index : Byte) (rest : List Byte) (s : State), s.ready → s.calm →
     (rest.length < 2 ∨ 17 < rest.length → exec (.settingPut id index rest) s = .next (s.answer 0x21 ⟨.badLength, []⟩)) ∧
     (2 ≤ rest.length → rest.length ≤ 17 →
       (id ≠ 28 → (Cell.ofBytes id index = none ∨ rest.length ≠ 2) →
         exec (.settingPut id index rest) s = .next (s.answer 0x21 ⟨.badField, []⟩)) ∧
       (id = 28 → (index ≠ 0 ∨ rest.length ≠ (rest.headD 0).toNat + 1) →
         exec (.settingPut id index rest) s = .next (s.answer 0x21 ⟨.badField, []⟩)) ∧
       (id = 28 → index = 0 → rest.length = (rest.headD 0).toNat + 1 →
         (s.svl.store ≠ .idle → exec (.settingPut id index rest) s = .next (s.answer 0x21 ⟨.busy, []⟩)) ∧
         (s.svl.store = .idle → (∃ b ∈ rest.drop 1, 16 ≤ b.toNat) →
           exec (.settingPut id index rest) s = .next (s.answer 0x21 ⟨.badField, []⟩)))))

/-- The settings page (R193). The page of every valid settings reads back as those settings, so no bit of its layout
is dropped, and its 283 bytes end in a check code of 13 bits that matches. The code corrects any one flipped bit of a
page, check code included, and finds any two. -/
def Obligations.SettingsPageReadsBack : Prop :=
  (∀ x : Settings, x.valid → pageDecode (pageEncode x) = some x ∧ (pageEncode x).length = 281) ∧
  (∀ data : List Byte, data.length = 281 →
    (pageSeal data).length = 283 ∧ (pageSeal data).take 281 = data ∧ ((pageSeal data).getD 281 0).toNat < 32 ∧
    pageVerdict (pageSeal data) = .clean) ∧
  (∀ page : List Byte, page.length = 283 → pageVerdict page = .clean →
    (∀ k, k < 2264 → pageVerdict (flipBit k page) = .oneFlip ∧ pageCorrect (flipBit k page) = page) ∧
    (∀ j k, j < k → k < 2264 → pageVerdict (flipBit j (flipBit k page)) = .lost))

/-! ## Resets -/

/-- A reset of any kind (R32, R65, R85, R99, R119, R121, R137, R155, R158, R159, R185, R189): every block at its reset
state, the settings from the page or their defaults, the plant record as its check code leaves it, and every event
flag clear but those that the loads and the start-up scan latch. A reset during a store leaves the page with a check
code that does not match (R184); the model's choice is that its contents are a free value with two bits of the code
flipped (log 40), that the pins keep the levels that stand (log 16), and that a rise of the core supply leaves the
reset pin as it stands (log 35). The end of the start-up work (R32, R35, R190): RESTARTED is latched, service begins
and the round timer is started; a second such event changes nothing. -/
def Obligations.ResetGivesTheStatedState : Prop :=
  (∀ s : State, ∃ t : State, exec .powerOnReset s = .next t ∧
     t.fcl = Fcl.reset ∧ t.fsu = Fsu.reset t.svl.settings.pickupMode ∧ t.bgv = Bgv.reset ∧ t.rsv = Rsv.reset ∧
     t.sld = Sld.reset ∧ t.msq = Msq.reset ∧ t.wgc = Wgc.reset t.plantRecord.cause.isSome ∧
     (∀ i : StationNo, t.station i = { Station.rest with
       state := if t.plantRecord.lockouts[i] = true then .lockedOut else .idle
       rawStart := (s.station i).rawStart
       rawStop := (s.station i).rawStop
       startFilter := if (s.station i).rawStart = true then some (t.svl.settings.inputFilter * 8000) else none
       stopFilter := if (s.station i).rawStop = true then some (t.svl.settings.inputFilter * 8000) else none }) ∧
     t.svl = { rx := .hunting, buffer := [], bytesDue := none, gap := none, serving := false, reply := none,
               restartCalled := false, startedUp := false, settings := t.svl.settings, defaulted := t.svl.defaulted,
               unstored := false, store := .idle, flags := t.svl.flags, windowSet := 0 } ∧
     t.held = s.held ∧
     (let found := pageVerdict s.nva.page
      let page := if found = .oneFlip then pageCorrect s.nva.page else s.nva.page
      (∀ x, pageDecode (page.take 281) = some x → s.svl.store = .idle → found ≠ .lost →
        t.svl.settings = x ∧ t.svl.defaulted = false ∧ t.nva.page = page ∧
        (found = .oneFlip → t.flag .recordCorrected = true)) ∧
      (s.svl.store ≠ .idle ∨ found = .lost ∨ pageDecode (page.take 281) = none →
        t.svl.settings = Settings.defaults ∧ t.svl.defaulted = true) ∧
      (s.svl.store = .idle → t.free = s.free ∧
        (found = .lost ∨ pageDecode (page.take 281) = none → t.nva.page = s.nva.page)) ∧
      (s.svl.store ≠ .idle → t.free = s.free + 1 ∧ t.nva.page = pageCut (Config.cutPage s.free).toList ∧
        pageVerdict t.nva.page = .lost) ∧
      (s.allRead → s.nva.plantRecord.verdict = .clean → (s.svl.store ≠ .idle ∨ found ≠ .oneFlip) →
        t.flag .recordCorrected = false)) ∧
     (s.allRead → s.nva.plantRecord.verdict ≠ .lost → t.flag .recordSuspect = false) ∧
     t.flag .settingsDefaulted = t.svl.defaulted ∧
     (∀ f : Flag, f ≠ .settingsDefaulted → f ≠ .recordCorrected → f ≠ .recordSuspect → t.flag f = false) ∧
     (s.nva.plantRecord.verdict ≠ .lost → t.nva.plantRecord = ⟨s.plantRecord, .clean⟩) ∧
     (s.nva.plantRecord.verdict = .oneFlip → t.flag .recordCorrected = true) ∧
     (s.nva.plantRecord.verdict = .lost → t.flag .recordSuspect = true ∧
       t.nva.plantRecord = ⟨{ cause := some .recordLost, lockouts := #v[true, true, true] }, .clean⟩)) ∧
  (∀ s : State, s.held = false →
     (s.svl.startedUp = false → exec .startUpComplete s = .next { s with
       svl := { s.svl with startedUp := true, flags := s.svl.flags ||| 1#21 }
       fcl := { s.fcl with roundTimer := some (s.svl.settings.roundPeriod * 8000) } }) ∧
     (s.svl.startedUp = true → exec .startUpComplete s = .next s))

/-- What a reset does to the records (R10, R30, R31), where every section reads without an error: LIVE and RESTORING
records become SHED with cause PLANT, or QUOTA_OUT; RETIRING ones become VACANT; the staged sets are applied; the
working fields are absent or 0 but for the cool-off of a TRIPPED record; all else is kept. -/
def Obligations.ResetRewritesTheRecords : Prop :=
  ∀ s : State, s.allRead → ∃ t : State, exec .powerOnReset s = .next t ∧
    (∀ n : RecNo,
      let x := s.terms n
      let y := { x with
        stagedClass := none
        stagedRank := none
        cls := if x.state = .suspect then x.cls else x.stagedClass.orElse fun _ => x.cls
        rank := if x.state = .suspect then x.rank else x.stagedRank.getD x.rank }
      (match x.state with
        | .live | .restoring =>
          if s.quotaSpent n = true then t.terms n = { y with state := .quotaOut } ∧ t.account n = s.account n
          else t.terms n = { y with state := .shed } ∧ t.account n = { s.account n with cause := some .plant }
        | .retiring => t.nva.slots[n] = Slot.vacant
        | _ => t.terms n = y ∧ t.account n = s.account n) ∧
      t.work n = { Working.zero with cooloff := if x.state = .tripped then t.svl.settings.tripCooloff else 0 }) ∧
    (∀ o : OutletId,
      (s.nva.map[o.index].verdict ≠ .lost → t.boundTo o = match s.boundTo o with
        | some n => if s.recState n = .retiring then none else some n
        | none => none) ∧
      (s.nva.map[o.index].verdict = .lost → t.nva.map[o.index] = s.nva.map[o.index]))

/-! ## Allotment requests (chapter 1) -/

/-- The number check that every request on a record makes first (R6): a number outside 1..64 is BAD_FIELD, and a
VACANT slot NO_RECORD; nothing else happens. ALLOT_LOOKUP (R17, R28, R29): the record's image, its 40 bytes as 11.4
lays them out. Read with a flipped bit the record is corrected and counted; read uncorrectable, with the map naming
its outlet, it becomes SUSPECT with its outlet ordered open and its reservation released. A record that leaves SHED
so, by the state its lost section reads as, calls for an evaluation: the model's choice (log 11). -/
def Obligations.RecordsAreNumberedAndRead : Prop :=
  (∀ (b : Byte) (s : State) (p : Instr × Byte),
     p ∈ [(Instr.allotActivate b, 0x12#8), (.allotSuspend b, 0x13#8), (.allotRetire b, 0x14#8), (.allotLookup b, 0x15#8),
       (.tripClear b, 0x18#8), (.allotAmend b 1 7 0 0 0 0 0 0, 0x11#8)] → s.ready → s.calm →
     (b.toNat = 0 ∨ 64 < b.toNat → exec p.1 s = .next (s.answer p.2 ⟨.badField, []⟩)) ∧
     (∀ n : RecNo, b.toNat = n.val + 1 → s.reads n → s.recState n = .vacant →
       exec p.1 s = .next (s.answer p.2 ⟨.noRecord, []⟩))) ∧
  (∀ (b : Byte) (n : RecNo) (s : State), s.ready → s.calm → b.toNat = n.val + 1 → s.recState n ≠ .vacant →
     (∀ o, s.mapReads o) →
     (s.recordImage n).length = 40 ∧ holdsFields (s.recordImage n) (s.recordFields n) ∧
     (s.reads n → exec (.allotLookup b) s = .next (s.answer 0x15 ⟨.done, s.recordImage n⟩)) ∧
     (¬ s.reads n → s.nva.slots[n].terms.verdict ≠ .lost → s.nva.slots[n].account.verdict ≠ .lost →
       ∃ t : State, exec (.allotLookup b) s = .next (t.answer 0x15 ⟨.done, t.recordImage n⟩) ∧
         t = { s with
           nva := { s.nva with slots := s.nva.slots.set n ⟨⟨s.terms n, .clean⟩,
             ⟨{ s.account n with corrected := min 255 ((s.account n).corrected + 1) }, .clean⟩⟩ }
           svl := { s.svl with flags := s.svl.flags ||| 0x4000#21 } }) ∧
     (∀ o, s.mapOutlet n = some o →
       (s.nva.slots[n].terms.verdict = .lost ∨ s.nva.slots[n].account.verdict = .lost) →
       ∃ mid : State, exec (.allotLookup b) s = .next (mid.answer 0x15 ⟨.done, mid.recordImage n⟩).settle ∧
         mid.terms n = { s.terms n with
           state := .suspect
           outlet := some o
           stagedClass := none
           stagedRank := none } ∧
         (s.nva.slots[n].account.verdict = .lost → mid.account n = Account.zero) ∧
         mid.reads n ∧ mid.flag .recordSuspect = true ∧ mid.holds (.allotment n) = false ∧
         mid.rsv.due = (s.holds (.allotment n) || s.recState n == .shed) ∧
         (∀ p : OutletId, mid.outlet p = if p = o then { s.outlet p with closed := false, essential := false }
           else s.outlet p) ∧
         (∀ k : RecNo, k ≠ n → s.recordKept mid k)))

/-- ALLOT_CREATE (R7): its refusals in their order, and the record it makes in the lowest-numbered VACANT slot. -/
def Obligations.AllotCreateMakesARecord : Prop :=
  ∀ (holder : Half) (node outlet cls rank : Byte) (cap quota : Half) (s : State), s.ready → s.calm →
    (outletId node outlet = none ∨ AllotClass.ofCode cls = none ∨ 63 < rank.toNat ∨ cap.toNat < 50 ∨ 8000 < cap.toNat ∨
        cap.toNat % 10 ≠ 0 ∨ (quota ≠ 0 ∧ (quota.toNat < 100 ∨ 60000 < quota.toNat ∨ cls = 1)) →
      exec (.allotCreate holder node outlet cls rank cap quota) s = .next (s.answer 0x10 ⟨.badField, []⟩)) ∧
    (∀ o, outletId node outlet = some o → ∀ k, AllotClass.ofCode cls = some k → rank.toNat ≤ 63 → 50 ≤ cap.toNat →
      cap.toNat ≤ 8000 → cap.toNat % 10 = 0 → (quota = 0 ∨ (100 ≤ quota.toNat ∧ quota.toNat ≤ 60000 ∧ cls ≠ 1)) →
      s.allRead → s.mapReads o →
      ((∀ n, s.recState n ≠ .vacant) →
        exec (.allotCreate holder node outlet cls rank cap quota) s = .next (s.answer 0x10 ⟨.noSlot, []⟩)) ∧
      (∀ n : RecNo, s.recState n = .vacant → (∀ m, m < n → s.recState m ≠ .vacant) →
        (s.boundTo o ≠ none →
          exec (.allotCreate holder node outlet cls rank cap quota) s = .next (s.answer 0x10 ⟨.outletTaken, []⟩)) ∧
        (s.boundTo o = none →
          exec (.allotCreate holder node outlet cls rank cap quota) s = .next
            (({ s with
              nva := { s.nva with
                slots := s.nva.slots.set n
                  ⟨⟨{ state := .dormant, holder := holder, outlet := some o, cls := some k, rank := rank.toNat,
                      cap := cap.toNat, quota := if quota = 0 then none else some quota.toNat, stagedClass := none,
                      stagedRank := none }, .clean⟩, ⟨Account.zero, .clean⟩⟩
                map := s.nva.map.set o.index ⟨some n, .clean⟩ }
              atb := s.atb.set n Working.zero } : State).answer 0x10 ⟨.done, [BitVec.ofNat 8 (n.val + 1)]⟩))))

/-- The checks of ALLOT_AMEND in their order (R8, R11, R12, R192; log 18 and log 19). An accepted ALLOT_AMEND (R5, R9,
R10, R11, R12): holder, cap and quota take effect at once, class and rank are staged, the quota law is applied; a
DORMANT record moves with its binding; a SUSPECT record is rewritten whole and becomes DORMANT. `m` is the request's
fields by their presence bits (11.2). Other records keep everything. -/
def Obligations.AllotAmendIsCheckedAndTakesEffect : Prop :=
  (∀ (number presence : Byte) (holder cap quota : Half) (cls rank node outlet : Byte) (n : RecNo) (s : State),
     s.ready → s.calm → number.toNat = n.val + 1 → s.reads n → s.recState n ≠ .vacant → (∀ o, s.mapReads o) →
     (amendCodesOk presence cls = false →
       exec (.allotAmend number presence holder cap quota cls rank node outlet) s =
         .next (s.answer 0x11 ⟨.badField, []⟩)) ∧
     (amendCodesOk presence cls = true → ∀ st : Status,
       (let bit := presence.getLsbD
        let moves : Bool := bit 6 && outletId node outlet != s.outletOf n
        let taken : Bool := match outletId node outlet with
          | some o => s.boundTo o != none && s.boundTo o != some n
          | none => false
        let newQuota := if bit 3 = true then none else if bit 2 = true then some quota.toNat else (s.terms n).quota
        let newClass := if bit 4 = true then AllotClass.ofCode cls else (s.terms n).stagedClass
        if s.recState n = .retiring then st = .wrongState
        else if (bit 1 = true ∧ capOk cap.toNat = false) ∨ (bit 2 = true ∧ quotaOk quota.toNat = false) ∨
          (bit 5 = true ∧ 63 < rank.toNat) ∨ (bit 6 = true ∧ outletId node outlet = none) then st = .badField
        else if s.recState n = .suspect ∧
          ¬(bit 0 = true ∧ bit 1 = true ∧ (bit 2 = true ∨ bit 3 = true) ∧ bit 4 = true ∧ bit 5 = true ∧ bit 6 = true)
          then st = .wrongState
        else if moves = true ∧ s.recState n ≠ .dormant ∧ s.recState n ≠ .suspect then st = .wrongState
        else if moves = true ∧ taken = true then st = .outletTaken
        else if newQuota.isSome = true ∧ (newClass = some .essential ∨
          (s.recState n ≠ .suspect ∧ (s.terms n).cls = some .essential)) then st = .badField
        else st = .done) →
       st ≠ .done →
       exec (.allotAmend number presence holder cap quota cls rank node outlet) s = .next (s.answer 0x11 ⟨st, []⟩))) ∧
  (∀ (number presence : Byte) (holder cap quota : Half) (cls rank node outlet : Byte) (n : RecNo) (s : State),
     s.ready → s.calm → number.toNat = n.val + 1 → s.reads n → s.recState n ≠ .vacant → (∀ o, s.mapReads o) →
     amendCodesOk presence cls = true →
     let m := amendment presence holder cap quota cls rank node outlet
     m.check (m.inRange && amendOutletOk presence node outlet) (s.moveTaken m (s.outletOf n) n) (s.terms n)
       (s.outletOf n) = none →
     ∃ mid : State, exec (.allotAmend number presence holder cap quota cls rank node outlet) s =
         .next (mid.answer 0x11 ⟨.done, []⟩).settle ∧
       mid.account n = s.account n ∧
       (∀ k : RecNo, k ≠ n → mid.nva.slots[k] = s.nva.slots[k] ∧ mid.work k = s.work k) ∧
       mid = { s with nva := { s.nva with slots := mid.nva.slots, map := mid.nva.map }, atb := mid.atb, fcl := mid.fcl,
                      rsv := mid.rsv, sld := mid.sld } ∧
       (s.recState n ≠ .suspect →
         let spent : Bool := match m.quota.getD (s.terms n).quota with
           | some q => decide (q ≤ (s.account n).today)
           | none => false
         let state := match s.recState n with
           | .live | .restoring | .shed => if spent = true then .quotaOut else s.recState n
           | .quotaOut => if spent = true then .quotaOut else .shed
           | other => other
         let moved := m.move (s.outletOf n)
         mid.terms n = { s.terms n with
           state := state
           outlet := moved.orElse fun _ => (s.terms n).outlet
           holder := m.holder.getD (s.terms n).holder
           cap := m.cap.getD (s.terms n).cap
           quota := m.quota.getD (s.terms n).quota
           stagedClass := m.cls.orElse fun _ => (s.terms n).stagedClass
           stagedRank := m.rank.orElse fun _ => (s.terms n).stagedRank } ∧
         (∀ o : OutletId, mid.outlet o =
           if state ≠ s.recState n ∧ (s.terms n).outlet = some o then
             { s.outlet o with closed := false, essential := false }
           else s.outlet o) ∧
         (s.recState n = .quotaOut → state = .shed → (mid.work n).holdoff = 0)) ∧
       (s.recState n = .suspect →
         mid.terms n = { state := .dormant, holder := holder, outlet := outletId node outlet,
                         cls := AllotClass.ofCode cls, rank := rank.toNat, cap := cap.toNat,
                         quota := if presence.getLsbD 3 = true then none else some quota.toNat, stagedClass := none,
                         stagedRank := none } ∧ mid.fcl = s.fcl) ∧
       (m.move (s.outletOf n) = none → mid.nva.map = s.nva.map ∧
         (mid.recState n = s.recState n → mid.work n = s.work n)) ∧
       (∀ o, m.move (s.outletOf n) = some o →
         (∀ p : OutletId, mid.boundTo p = if p = o then some n else if s.boundTo p = some n then none else s.boundTo p) ∧
         mid.work n = { s.work n with baseline := none, reading := none, fresh := false, openRun := 0, closedRun := 0 }))

/-- ALLOT_ACTIVATE of a DORMANT record and TRIP_CLEAR of a TRIPPED one (R5, R13, R20): SHED with hold-off 0, or
QUOTA_OUT where the tally has reached the quota, with its shed cause kept; in every other state WRONG_STATE. -/
def Obligations.ActivateAndTripClearShedTheRecord : Prop :=
  ∀ (b : Byte) (n : RecNo) (s : State), s.ready → s.calm → b.toNat = n.val + 1 → s.reads n → s.recState n ≠ .vacant →
    (s.recState n ≠ .dormant → exec (.allotActivate b) s = .next (s.answer 0x12 ⟨.wrongState, []⟩)) ∧
    (s.recState n ≠ .tripped → exec (.tripClear b) s = .next (s.answer 0x18 ⟨.wrongState, []⟩)) ∧
    (∀ p : Instr × Byte × RecState, p ∈ [(.allotActivate b, 0x12#8, .dormant), (.tripClear b, 0x18#8, .tripped)] →
      s.recState n = p.2.2 →
      ∃ mid : State, exec p.1 s = .next (mid.answer p.2.1 ⟨.done, []⟩).settle ∧
        mid.terms n = { s.terms n with state := if s.quotaSpent n = true then .quotaOut else .shed } ∧
        mid.account n = { s.account n with
          cause := if s.recState n = .dormant ∧ s.quotaSpent n = false then none else (s.account n).cause } ∧
        (s.quotaSpent n = false → (mid.work n).holdoff = 0 ∧ mid.rsv.due = true) ∧
        (s.recState n = .tripped → (mid.work n).cooloff = 0) ∧ (mid.work n).preShed = (s.work n).preShed ∧
        (∀ k : RecNo, k ≠ n → s.recordKept mid k) ∧
        (∀ o : OutletId, mid.outlet o = if (s.terms n).outlet = some o then
          { s.outlet o with closed := false, essential := false } else s.outlet o) ∧
        mid = { s with nva := { s.nva with slots := mid.nva.slots }, atb := mid.atb,
                       fcl := { s.fcl with outlets := mid.fcl.outlets }, rsv := { s.rsv with due := mid.rsv.due } })

/-- ALLOT_SUSPEND (R14) and ALLOT_RETIRE (R15): the states they take, what the record becomes, the outlet ordered
open, the binding and the reservation removed; other records keep everything. -/
def Obligations.SuspendAndRetireTakeTheRecordOut : Prop :=
  ∀ (b : Byte) (n : RecNo) (s : State), s.ready → s.calm → b.toNat = n.val + 1 → s.reads n → s.recState n ≠ .vacant →
    (s.recState n = .dormant ∨ s.recState n = .retiring ∨ s.recState n = .suspect →
      exec (.allotSuspend b) s = .next (s.answer 0x13 ⟨.wrongState, []⟩)) ∧
    (s.recState n = .retiring → exec (.allotRetire b) s = .next (s.answer 0x14 ⟨.done, []⟩)) ∧
    (s.recState n ≠ .dormant → s.recState n ≠ .retiring → s.recState n ≠ .suspect →
      ∃ mid : State, exec (.allotSuspend b) s = .next (mid.answer 0x13 ⟨.done, []⟩).settle ∧
        mid.terms n = { s.terms n with state := .dormant } ∧
        mid.account n = { s.account n with cause := some .suspended } ∧
        mid.work n = { s.work n with
          preShed := none
          cooloff := 0
          cooloffFrac := 0
          holdoff := 0
          holdoffFrac := 0
          liveTimer := 0
          liveFrac := 0
          overRun := 0
          openRun := 0 } ∧
        (s.recState n = .restoring → mid.holds (.allotment n) = false ∧ ∀ e ∈ mid.sld.watch, e.record ≠ n) ∧
        (∀ k : RecNo, k ≠ n → s.recordKept mid k) ∧
        (∀ o : OutletId, mid.outlet o = if (s.terms n).outlet = some o then
          { s.outlet o with closed := false, essential := false } else s.outlet o) ∧
        mid = { s with nva := { s.nva with slots := mid.nva.slots }, atb := mid.atb, rsv := mid.rsv, sld := mid.sld,
                       fcl := { s.fcl with outlets := mid.fcl.outlets } }) ∧
    (s.recState n ≠ .retiring → (s.recState n = .suspect → ∀ o, s.mapReads o) →
      ∃ mid : State, exec (.allotRetire b) s = .next (mid.answer 0x14 ⟨.done, []⟩).settle ∧
        (let waits : Bool := s.supplied n && (s.nodeStateOf n == some .present || s.nodeStateOf n == some .joining)
         (waits = true → mid.terms n = { s.terms n with state := .retiring } ∧ mid.account n = s.account n ∧
           mid.nva.map = s.nva.map) ∧
         (waits = false → mid.nva.slots[n] = Slot.vacant ∧ mid.work n = Working.zero ∧
           ∀ o : OutletId, s.nva.map[o.index].verdict ≠ .lost →
             mid.boundTo o = if s.boundTo o = some n then none else s.boundTo o)) ∧
        (s.recState n = .restoring → mid.holds (.allotment n) = false) ∧
        (∀ k : RecNo, k ≠ n → s.recordKept mid k) ∧
        (∀ o : OutletId, mid.outlet o = if s.outletOf n = some o then
          { s.outlet o with closed := false, essential := false } else s.outlet o) ∧
        mid = { s with nva := { s.nva with slots := mid.nva.slots, map := mid.nva.map }, atb := mid.atb, rsv := mid.rsv,
                       sld := mid.sld, fcl := { s.fcl with outlets := mid.fcl.outlets } })

/-- DAY_TURN (R21): every record's tally and recent sheds become 0 and every QUOTA_OUT record SHED with hold-off 0. -/
def Obligations.DayTurnClearsTheTallies : Prop :=
  ∀ s : State, s.ready → s.calm → s.allRead →
    ∃ mid : State, exec .dayTurn s = .next (mid.answer 0x19 ⟨.done, []⟩).settle ∧
      (∀ n : RecNo, if s.recState n = .vacant then s.recordKept mid n
        else
          mid.account n = { s.account n with today := 0, recent := 0 } ∧
          (s.recState n = .quotaOut → mid.terms n = { s.terms n with state := .shed } ∧ (mid.work n).holdoff = 0) ∧
          (s.recState n ≠ .quotaOut → mid.terms n = s.terms n ∧ mid.work n = s.work n)) ∧
      (∀ o : OutletId, mid.outlet o =
        if ∃ n : RecNo, s.recState n = .quotaOut ∧ (s.terms n).outlet = some o then
          { s.outlet o with closed := false, essential := false }
        else s.outlet o) ∧
      mid = { s with nva := { s.nva with slots := mid.nva.slots }, atb := mid.atb,
                     fcl := { s.fcl with outlets := mid.fcl.outlets }, rsv := { s.rsv with due := mid.rsv.due } }

/-- ALLOT_FIND and ALLOT_LIST (R18, R19), where every section reads without an error: the numbers found, in order, at
most eight, and whether there are more; the arguments out of range refused. A search by outlet that meets a flipped
map entry corrects it, and one that meets a lost entry rebuilds it from the records that hold the outlet (R28, R29).
The model's choice: of several such records the lowest (log 10), and where there is none the unbound outlet is ordered
open (log 41). -/
def Obligations.FindAndListAnswerTheNumbers : Prop :=
  (∀ (key : Byte) (tag : Half) (start node outlet st : Byte) (s : State), s.ready → s.calm → s.allRead →
     (∀ o, s.mapReads o) →
     let reply (found : List RecNo) : List Byte :=
       [BitVec.ofNat 8 (min 8 found.length)] ++ (found.take 8).map (fun n => BitVec.ofNat 8 (n.val + 1)) ++
         [if 8 < found.length then 1 else 0]
     let inRange : Bool := decide (1 ≤ start.toNat) && decide (start.toNat ≤ 64)
     (key = 1 → inRange = true → exec (.allotFind key tag start node outlet) s = .next (s.answer 0x16 ⟨.done, reply
       ((List.finRange 64).filter fun n => decide (start.toNat ≤ n.val + 1) && s.recState n != .vacant &&
         s.recState n != .suspect && (s.terms n).holder == tag)⟩)) ∧
     (∀ o, outletId node outlet = some o → key = 2 →
       exec (.allotFind key tag start node outlet) s = .next (s.answer 0x16 ⟨.done, reply (s.boundTo o).toList⟩)) ∧
     ((key = 1 ∧ inRange = false) ∨ (key = 2 ∧ outletId node outlet = none) ∨ (key ≠ 1 ∧ key ≠ 2) →
       exec (.allotFind key tag start node outlet) s = .next (s.answer 0x16 ⟨.badField, []⟩)) ∧
     (∀ r : RecState, BitVec.ofNat 8 r.code = st → inRange = true →
       exec (.allotList st start) s = .next (s.answer 0x17 ⟨.done, reply
         ((List.finRange 64).filter fun n => decide (start.toNat ≤ n.val + 1) && s.recState n == r)⟩)) ∧
     (8 < st.toNat ∨ inRange = false → exec (.allotList st start) s = .next (s.answer 0x17 ⟨.badField, []⟩))) ∧
  (∀ (tag : Half) (start node outlet : Byte) (o : OutletId) (s : State), s.ready → s.calm →
     outletId node outlet = some o →
     let reply (found : Option RecNo) : List Byte := match found with
       | some n => [1, BitVec.ofNat 8 (n.val + 1), 0]
       | none => [0, 0]
     let read (found : Option RecNo) : State := { s with
       nva := { s.nva with map := s.nva.map.set o.index ⟨found, .clean⟩ }
       svl := { s.svl with flags := s.svl.flags ||| 0x4000#21 } }
     let holds (n : RecNo) : Bool := s.nva.slots[n].terms.verdict != .lost && s.recState n != .vacant &&
       (s.terms n).outlet == some o
     (s.nva.map[o.index].verdict = .oneFlip → exec (.allotFind 2 tag start node outlet) s =
       .next ((read (s.boundTo o)).answer 0x16 ⟨.done, reply (s.boundTo o)⟩)) ∧
     (s.nva.map[o.index].verdict = .lost →
       (∀ n : RecNo, holds n = true → (∀ m : RecNo, m < n → holds m = false) →
         exec (.allotFind 2 tag start node outlet) s = .next ((read (some n)).answer 0x16 ⟨.done, reply (some n)⟩)) ∧
       ((∀ n : RecNo, holds n = false) → exec (.allotFind 2 tag start node outlet) s =
         .next (((read none).modOutlet o fun x => { x with closed := false, essential := false }).answer 0x16
           ⟨.done, reply none⟩))))

/-! ## The requests that read -/

/-- PLANT_GET, SAW_GET, GOVERNOR_GET, RESERVE_GET, NODE_GET and READINGS_GET (R48, R84, R98, R139, R157, R177) answer
their images, every byte as 11.7 lays it out, and change nothing but NODE_GET's three counts; the codes are those of
11.3. The activity code while CALIBRATING is a free value (log 17): it is one of the two codes the attempt can have.
The model's choices: the head's bytes without a claim (log 21), slot 4's channel while it converts (log 38), and the
low 16 bits of a rack differential or net head beyond 2 bytes (log 42). -/
def Obligations.GetRequestsAnswerTheirImages : Prop :=
  (∀ (s : State) (b : Byte), s.ready → s.calm → s.allRead → (∀ o, s.mapReads o) →
     exec .plantGet s = .next (s.answer 0x33 ⟨.done, s.plantImage⟩) ∧ s.plantImage.length = 64 ∧ holdsFields s.plantImage s.plantFields ∧
     exec .sawGet s = .next (s.answer 0x41 ⟨.done, (List.finRange 3).flatMap s.stationImage⟩) ∧
     (∀ i, (s.stationImage i).length = 18 ∧ holdsFields (s.stationImage i) (s.stationFields i)) ∧
     exec .governorGet s = .next (s.answer 0x70 ⟨.done, s.governorImage⟩) ∧ s.governorImage.length = 25 ∧ holdsFields s.governorImage s.governorFields ∧
     exec .reserveGet s = .next (s.answer 0x80 ⟨.done, s.reserveImage⟩) ∧ s.reserveImage.length = 48 ∧ holdsFields s.reserveImage s.reserveFields ∧
     (∀ a : NodeNo, b.toNat = a.val + 1 → exec (.nodeGet b) s =
       .next (({ s with fcl := { s.fcl with
         nodes := s.fcl.nodes.set a { s.node a with valid := 0, discarded := 0, failsafe := 0 } } } : State).answer 0x50
           ⟨.done, s.nodeImage a⟩) ∧ (s.nodeImage a).length = 14 ∧ holdsFields (s.nodeImage a) (s.nodeFields a)) ∧
     (b.toNat = 0 ∨ 16 < b.toNat → exec (.nodeGet b) s = .next (s.answer 0x50 ⟨.badField, []⟩)) ∧
     (s.msq.state ≠ .calibrating →
       exec .readingsGet s = .next (s.answer 0x60 ⟨.done, s.readingsImage (match s.msq.conv with
         | .converting src _ => src.code
         | _ => 0)⟩)) ∧
     (s.msq.state = .calibrating → ∃ k : Nat, (k = 0 ∨ k = 6) ∧
       exec .readingsGet s =
         .next (({ s with free := s.free + 1 } : State).answer 0x60 ⟨.done, s.readingsImage k⟩)) ∧
     (∀ k, (s.readingsImage k).length = 152 ∧ holdsFields (s.readingsImage k) (s.readingsFields k))) ∧
  ([Status.done, .busy, .badKind, .badLength, .badField, .noRecord, .noSlot, .outletTaken, .wrongState,
     .tooEarly].map Status.code = List.range 10 ∧
   [RecState.vacant, .dormant, .shed, .restoring, .live, .tripped, .quotaOut, .retiring, .suspect].map RecState.code =
     List.range 9 ∧
   [AllotClass.essential, .publicLoad, .domestic, .deferrable].map AllotClass.code = [1, 2, 3, 4] ∧
   [ShedCause.ladder, .collapse, .waterShort, .plant, .unexpectedOpen, .restoreFail, .suspended].map ShedCause.code =
     [1, 2, 3, 4, 5, 6, 7] ∧
   [NodeState.absent, .joining, .present, .silent].map NodeState.code = List.range 4 ∧
   [PlantState.standstill, .runUp, .onLine, .waterShort, .runDown, .tripped].map PlantState.code = List.range 6 ∧
   [TripCause.overspeed, .reverse, .bearingHot, .gateFault, .runupFail, .freqLost, .recordLost].map TripCause.code =
     [1, 2, 3, 4, 5, 6, 7] ∧
   [GovState.inactive, .active, .holding].map GovState.code = List.range 3 ∧
   [Health.untested, .healthy, .faulted].map Health.code = List.range 3 ∧
   [SawState.idle, .waiting, .engaging, .running, .windingDown, .lockedOut].map SawState.code = List.range 6 ∧
   [SawOutcome.none, .refusedPlant, .refusedStop, .waitExpired, .abortStop, .abortDip, .abortVoltage, .abortTimeout,
     .abortPlant, .abortCollapse, .abortWaterShort, .jammed].map SawOutcome.code = List.range 12 ∧
   [Lamp.off, .doubleBlink, .slowBlink, .fastBlink, .steady, .tripleBlink].map Lamp.code = List.range 6 ∧
   [MsqState.calibrating, .running, .failed].map MsqState.code = List.range 3 ∧
   [ReadingState.absent, .fresh, .stale].map ReadingState.code = List.range 3 ∧
   [Source.none, .routine, .slot1, .slot2, .slot3, .slot4, .calibration].map Source.code = List.range 7 ∧
   [MoveState.idle, .stepping, .checking, .faulted].map MoveState.code = List.range 4 ∧
   [GateDirection.none, .open, .close].map GateDirection.code = List.range 3 ∧
   [Direction.none, .forward, .reverse].map Direction.code = List.range 3 ∧
   [Wait.none, .pausedFrequency, .pausedBand, .pausedEngaging, .pausedStep, .shortOfReserve, .tableFull,
     .allowanceUsed].map Wait.code = List.range 8 ∧
   (∀ n : RecNo, (Holder.allotment n).kindCode = 1 ∧ (Holder.allotment n).number = n.val + 1) ∧
   (∀ i : StationNo, (Holder.station i).kindCode = 2 ∧ (Holder.station i).number = i.val + 1) ∧
   [Flag.restarted, .trip, .runDown, .waterShort, .residualShort, .rackAlarm, .levelLost, .bankFault, .pickupFault,
     .beltSlip, .sawLocked, .nodeJoined, .nodeSilent, .nodeDisobeys, .recordCorrected, .recordSuspect, .window,
     .batteryLow, .dieHot, .calFault, .settingsDefaulted].map Flag.bit = List.range 21)

/-! ## The plant (chapter 9) -/

/-- PLANT_START (R160, R161, R173): its conditions, and RUN-UP with its timer and target; with a bearing alarm raised
the plant trips at once with BEARING_HOT. -/
def Obligations.PlantStartEntersRunUp : Prop :=
  ∀ s : State, s.ready → s.calm →
    let allowed : Bool := s.plant == .standstill && (match s.freshValue 0 with
        | some v => decide ((s.svl.settings.startLevel : Int) ≤ v)
        | none => false) && !s.svl.defaulted && s.msq.state == .running && s.plantRecord.cause.isNone
    (allowed = false → exec .plantStart s = .next (s.answer 0x30 ⟨.wrongState, []⟩)) ∧
    (allowed = true → ∃ mid : State, exec .plantStart s = .next (mid.answer 0x30 ⟨.done, []⟩).settle ∧
      ((s.reading 10).alarm = false → (s.reading 11).alarm = false →
        mid.plant = .runUp ∧ mid.wgc.emergency = false ∧
        mid.wgc.runup = some (s.svl.settings.runupTime * 8000000) ∧ mid.wgc.sync = none ∧
        mid.wgc.gateTarget = min s.svl.settings.runupGate s.svl.settings.gateCeiling ∧
        (s.wgc.gateTarget ≠ min s.svl.settings.runupGate s.svl.settings.gateCeiling →
          mid.wgc.timeout = some 160000000) ∧
        (∀ o, mid.outlet o = { s.outlet o with closed := false, essential := false }) ∧
        mid = { s with fcl := { s.fcl with outlets := mid.fcl.outlets },
                       fsu := { s.fsu with slip := none, slipSpent := false }, rsv := { s.rsv with due := true },
                       sld := { s.sld with step := none, collapse1 := none, collapse1Spent := false, collapse2 := none,
                                           collapse2Spent := false },
                       msq := mid.msq, wgc := mid.wgc }) ∧
      ((s.reading 10).alarm = true ∨ (s.reading 11).alarm = true →
        mid.plant = .tripped ∧ mid.plantRecord = { s.plantRecord with cause := some .bearingHot } ∧
        mid.flag .trip = true ∧ mid.wgc.emergency = true ∧ mid.wgc.gateTarget = 0 ∧ s.poweredDown mid))

/-- PLANT_STOP and the level-lost timer (R164, R165): from RUN-UP, ON-LINE and WATER-SHORT the plant enters RUN-DOWN
with the target at 0, its timers stopped, RUN_DOWN latched and the loads powered down; in RUN-DOWN a PLANT_STOP is
DONE, and in STANDSTILL and TRIPPED it is WRONG_STATE. That no other flag is latched, WATER_SHORT too at the exit from
WATER-SHORT, is the model's choice (log 43). -/
def Obligations.RunDownCausesRunThePlantDown : Prop :=
  ∀ s : State, s.calm →
    (s.ready → (s.plant = .standstill ∨ s.plant = .tripped →
        exec .plantStop s = .next (s.answer 0x31 ⟨.wrongState, []⟩)) ∧
      (s.plant = .runDown → exec .plantStop s = .next (s.answer 0x31 ⟨.done, []⟩))) ∧
    (s.held = false → s.wgc.levelLost.isSome = true →
      (s.plant = .standstill ∨ s.plant = .runDown ∨ s.plant = .tripped →
        exec .levelLostTimerExpiry s = .next { s with
          wgc := { s.wgc with levelLost := none }
          svl := { s.svl with flags := s.svl.flags ||| 0x40#21 } })) ∧
    (s.held = false → s.plant = .runUp ∨ s.plant = .onLine ∨ s.plant = .waterShort →
      ∀ lost : Bool, (lost = true → s.wgc.levelLost.isSome = true) → (lost = false → s.ready) →
      ∃ mid : State,
        (if lost = true then exec .levelLostTimerExpiry s = .next mid.settle
         else exec .plantStop s = .next (mid.answer 0x31 ⟨.done, []⟩).settle) ∧
        s.poweredDown mid ∧ mid.wgc.gateTarget = 0 ∧
        (s.wgc.gateTarget ≠ 0 → mid.wgc.timeout = some 160000000) ∧
        mid.wgc = { s.wgc with
          plant := .runDown
          sync := none
          runup := none
          short := none
          recovery := none
          level := none
          evalPending := false
          wasteHeld := false
          levelLost := if lost = true then none else s.wgc.levelLost
          gateTarget := mid.wgc.gateTarget
          move := mid.wgc.move
          direction := mid.wgc.direction
          timeout := mid.wgc.timeout
          pulse := mid.wgc.pulse } ∧
        mid = { s with nva := { s.nva with slots := mid.nva.slots }, atb := mid.atb,
                       fcl := { s.fcl with outlets := mid.fcl.outlets },
                       fsu := { s.fsu with slip := none, slipSpent := false }, rsv := mid.rsv,
                       sld := { s.sld with step := none, collapse1 := none, collapse1Spent := false, collapse2 := none,
                                           collapse2Spent := false, watch := mid.sld.watch },
                       spu := mid.spu, msq := mid.msq, wgc := mid.wgc,
                       svl := { s.svl with flags := s.svl.flags ||| (if lost = true then 0x44#21 else 0x4#21) } })

/-- The five timers that trip the plant (R70, R161, R167, R168, R175): in a running plant the cause is stored, TRIPPED
entered with emergency-close, the target 0, TRIP latched and the loads powered down. TRIPPED keeps its first cause.
The model's choices: that no other flag is latched, WATER_SHORT too at the exit from WATER-SHORT (log 43), and what an
expiry does in a plant state that no run gives its timer (log 33). -/
def Obligations.TripTimersTripThePlant : Prop :=
  ∀ (s : State) (p : Instr × TripCause × Timer), s.held = false → s.calm →
    p ∈ [(Instr.runupTimerExpiry, TripCause.runupFail, s.wgc.runup),
      (.frequencyOverspeedExpiry, .overspeed, s.wgc.freqOver), (.shaftOverspeedExpiry, .overspeed, s.wgc.shaftOver),
      (.gateTimeoutExpiry, .gateFault, s.wgc.timeout), (.holdTimerExpiry, .freqLost, s.bgv.hold)] →
    p.2.2.isSome = true →
    ∃ mid : State, exec p.1 s = .next mid.settle ∧
      (s.plant = .runUp ∨ s.plant = .onLine ∨ s.plant = .waterShort ∨ (s.plant = .runDown ∧ p.1 ≠ .holdTimerExpiry) →
        mid.plant = .tripped ∧ mid.nva.plantRecord = ⟨{ s.plantRecord with cause := some p.2.1 }, .clean⟩ ∧
        mid.wgc.emergency = true ∧ mid.wgc.gateTarget = 0 ∧
        mid.wgc.sync = none ∧ mid.wgc.runup = none ∧ mid.wgc.short = none ∧ mid.wgc.recovery = none ∧
        mid.wgc.level = none ∧ mid.wgc.freqOver = none ∧ mid.wgc.shaftOver = none ∧
        mid.wgc.evalPending = false ∧ mid.wgc.levelLost = s.wgc.levelLost ∧ s.poweredDown mid ∧
        (p.1 = .holdTimerExpiry → mid.bgv = { s.bgv with hold := some 8000000 }) ∧
        (p.1 ≠ .holdTimerExpiry → mid.bgv = s.bgv) ∧
        mid.svl = { s.svl with flags := s.svl.flags ||| 0x2#21 } ∧ mid.fcl.nodes = s.fcl.nodes ∧
        mid.nva.map = s.nva.map ∧ mid.nva.page = s.nva.page) ∧
      (s.plant = .tripped → mid.plant = .tripped ∧ mid.nva = s.nva ∧ mid.atb = s.atb ∧ mid.fcl = s.fcl ∧
        mid.spu = s.spu ∧ mid.svl = s.svl ∧ mid.wgc.gateTarget = s.wgc.gateTarget ∧
        (p.1 = .gateTimeoutExpiry → mid.wgc.timeout = some 160000000 ∧ mid.wgc.move ≠ .faulted)) ∧
      (s.plant = .standstill → mid.nva = s.nva ∧ mid.plant = .standstill ∧
        (p.1 = .gateTimeoutExpiry → mid.wgc.move = .faulted ∧ mid.wgc.timeout = none ∧ mid.wgc.pulse = none)) ∧
      (p.1 = .holdTimerExpiry → s.bgv.state = .holding → s.plant = .tripped ∨ s.plant = .runDown →
        mid.bgv = { Bgv.reset with health := s.bgv.health })

/-- PLANT_CLEAR (R169): its conditions, and STANDSTILL with the cause erased; no load and no station changes. -/
def Obligations.PlantClearReturnsToStandstill : Prop :=
  ∀ s : State, s.ready → s.calm →
    let rest : Bool := if s.fsu.pickupFault = false then decide (s.fsu.shaftSpeed < 50) else s.bgv.state == .inactive
    let gone : Bool := match s.plantRecord.cause with
      | some .overspeed => !s.fsu.freqValid || decide (s.fsu.freq ≤ 57500)
      | some .reverse => s.fsu.direction != .reverse
      | some .bearingHot => !(s.reading 10).alarm && !(s.reading 11).alarm
      | some .gateFault => s.wgc.move == .idle
      | _ => true
    (s.plant ≠ .tripped ∨ rest = false ∨ gone = false →
      exec .plantClear s = .next (s.answer 0x32 ⟨.wrongState, []⟩)) ∧
    (s.plant = .tripped → rest = true → gone = true →
      ∃ mid : State, exec .plantClear s = .next (mid.answer 0x32 ⟨.done, []⟩).settle ∧
        mid.plant = .standstill ∧ mid.wgc.emergency = false ∧ mid.wgc.freqOver = none ∧ mid.wgc.shaftOver = none ∧
        mid.wgc.gateTarget = s.wgc.gateTarget ∧ (s.wgc.move ≠ .faulted → mid.wgc.move = s.wgc.move) ∧
        (s.wgc.move = .faulted → mid.wgc.move ≠ .faulted ∧ mid.wgc.timeout = some 160000000) ∧
        mid = { s with nva := { s.nva with plantRecord := ⟨{ s.plantRecord with cause := none }, .clean⟩ },
                       fsu := { s.fsu with slip := none, slipSpent := false },
                       bgv := if s.bgv.state = .inactive then s.bgv else { Bgv.reset with health := s.bgv.health },
                       rsv := { s.rsv with due := true },
                       sld := { s.sld with step := none, collapse1 := none, collapse1Spent := false, collapse2 := none,
                                           collapse2Spent := false },
                       msq := mid.msq, wgc := mid.wgc })

/-- The synchronising, recovery and short timers (R102, R115, R132, R161 to R163, R170): RUN-UP to ON-LINE with the
level timer started; WATER-SHORT to ON-LINE; and ON-LINE to WATER-SHORT, which sheds every DEFERRABLE record and
aborts the ENGAGING station. -/
def Obligations.SupplyTimersChangeThePlantState : Prop :=
  ∀ s : State, s.held = false →
    let short : Bool := (s.wgc.gateTarget == s.svl.settings.gateCeiling || (match s.freshValue 0 with
        | some v => decide (v < s.svl.settings.targetLevel)
        | none => false)) && decide (s.bgv.reserve < s.svl.settings.shortMargin)
    (s.plant = .runUp → s.wgc.sync.isSome = true → s.wgc.short = none →
      ∃ mid : State, exec .synchronisingTimerExpiry s = .next mid.settle ∧
        mid.wgc = { s.wgc with
          plant := .onLine
          sync := none
          runup := none
          level := some (s.svl.settings.levelInterval * 8000000)
          waste := true
          short := if short = true then some 240000000 else none } ∧
        mid = { s with fsu := mid.fsu, sld := mid.sld, rsv := { s.rsv with due := true }, wgc := mid.wgc } ∧
        mid.fsu = { s.fsu with slip := mid.fsu.slip, slipSpent := mid.fsu.slipSpent } ∧
        mid.sld.watch = s.sld.watch ∧ mid.sld.pause = s.sld.pause) ∧
    (s.plant = .waterShort → s.wgc.recovery.isSome = true → s.wgc.short = none →
      ∃ mid : State, exec .recoveryTimerExpiry s = .next mid.settle ∧
        mid.wgc = { s.wgc with
          plant := .onLine
          recovery := none
          short := if short = true then some 240000000 else none } ∧
        mid = { s with fsu := mid.fsu, sld := mid.sld, rsv := { s.rsv with due := true }, wgc := mid.wgc,
                       svl := { s.svl with flags := s.svl.flags ||| 0x8#21 } } ∧
        mid.fsu = { s.fsu with slip := mid.fsu.slip, slipSpent := mid.fsu.slipSpent } ∧
        mid.sld.watch = s.sld.watch ∧ mid.sld.pause = s.sld.pause) ∧
    (s.plant = .onLine → s.wgc.short.isSome = true →
      ∃ mid : State, exec .shortTimerExpiry s = .next mid.settle ∧
        mid.wgc = { s.wgc with
          plant := .waterShort
          short := none } ∧
        (∀ n : RecNo, if s.supplied n = true ∧ (s.terms n).cls = some .deferrable
          then s.recordShed .plain .waterShort mid n else s.recordKept mid n) ∧
        (∀ i : StationNo, mid.station i =
          if (s.station i).state = .engaging then (s.station i).aborted .abortWaterShort else s.station i) ∧
        mid = { s with nva := { s.nva with slots := mid.nva.slots }, atb := mid.atb,
                       fcl := { s.fcl with outlets := mid.fcl.outlets },
                       fsu := { s.fsu with slip := none, slipSpent := false },
                       rsv := mid.rsv, sld := mid.sld, spu := mid.spu, wgc := mid.wgc,
                       svl := { s.svl with flags := s.svl.flags ||| 0x8#21 } })

/-- The level timer and the step pulse (R170, R174), whole. A completion of channel 0: the level-lost timer stops, the
stop level and the net head run the plant down (R164, R172), a level above the deadband ends WATER-SHORT (R163), a
pending level evaluation is made (R171) and the short test follows (R162). Channel 1 carries the rack check and
channel 2 the head check (R172), channel 3 the gate move (R174) and the rest test (R166). The slot 3 source is channel
4 alone (R150). The model's choices: an evaluation that takes no case clears the residual mark (log 36); the direction
is kept in CHECKING, IDLE and FAULTED and the held waste mark is cleared with the evaluation (log 26); the order of
the actions at a completion of channel 0 (log 12). The clause of the short test supposes what SupplyLawIsKept states,
that the short timer runs in ON-LINE alone. -/
def Obligations.GateFollowsTheReadings : Prop :=
  (∀ s : State, s.held = false →
     (s.wgc.level.isSome = true → exec .levelTimerExpiry s = .next { s with wgc := { s.wgc with
       level := some (s.svl.settings.levelInterval * 8000000)
       evalPending := true
       wasteHeld := s.wgc.waste
       waste := true } }) ∧
     (s.wgc.pulse.isSome = true → exec .gateStepPulse s = .next { s with wgc := { s.wgc with
       pulses := s.wgc.pulses + 1
       pulse := some (if s.wgc.emergency = true then 8000 else 16000) } })) ∧
  (∀ (s : State) (raw : BitVec 12) (src : Source) (c : ChannelNo), s.held = false →
     s.msq.conv = .converting src c → (src = .slot3 → c = 4) →
     let x := s.svl.settings
     let v := s.scaled c raw.toNat
     let canStop : Bool := s.plant == .runUp || s.plant == .onLine || s.plant == .waterShort
     ∃ mid : State, exec (.conversionComplete raw) s = .next mid.settle ∧
       (let stopped : Prop := mid.plant = .runDown ∧ mid.flag .runDown = true ∧ mid.wgc.gateTarget = 0 ∧
          mid.wgc.level = none ∧ mid.wgc.short = none ∧ mid.wgc.recovery = none ∧ mid.wgc.evalPending = false ∧
          s.poweredDown mid
        (c = 0 →
          let head : Option Int := (s.freshValue 2).map fun tail => v - tail
          let stop : Bool := canStop && (decide (v < x.stopLevel) || (head.map fun h => decide (h < (x.headMin : Int))).getD false)
          let recovered : Bool := s.plant == .waterShort && decide ((x.targetLevel : Int) + x.deadband ≤ v)
          mid.wgc.levelLost = none ∧ mid.wgc.netHead = head.orElse (fun _ => s.wgc.netHead) ∧
          (stop = true → stopped) ∧
          (stop = false → recovered = true →
            mid.plant = .onLine ∧ mid.flag .waterShort = true ∧ mid.wgc.recovery = none) ∧
          (stop = false → recovered = false → mid.plant = s.plant) ∧
          (stop = false → mid.plantRecord = s.plantRecord ∧
            (∀ o, mid.outlet o = s.outlet o) ∧ (∀ n, s.recordKept mid n) ∧ mid.spu = s.spu) ∧
          (stop = false → s.wgc.evalPending = false → mid.wgc.gateTarget = s.wgc.gateTarget ∧
            mid.wgc.residual = s.wgc.residual ∧ mid.wgc.move = s.wgc.move) ∧
          (stop = false → s.wgc.evalPending = true →
            let residual : Bool := match s.freshValue 12 with
              | some r => decide (r < x.residualLevel)
              | none => false
            let step : Int :=
              if residual = true then -(x.gateStep : Int)
              else if (x.targetLevel : Int) + x.deadband < v then x.gateStep
              else if v < (x.targetLevel : Int) - x.deadband then -(x.gateStep : Int)
              else if s.wgc.wasteHeld = true ∧ v < x.targetLevel then -(x.gateStep : Int)
              else 0
            (mid.wgc.gateTarget : Int) = max (x.gateFloor : Int) (min ((s.wgc.gateTarget : Int) + step) x.gateCeiling) ∧
            (mid.wgc.gateTarget ≠ s.wgc.gateTarget → mid.wgc.timeout = some 160000000) ∧
            mid.wgc.evalPending = false ∧ mid.wgc.wasteHeld = false ∧ mid.wgc.residual = residual ∧
            (residual = true → s.wgc.residual = false → mid.flag .residualShort = true)) ∧
          (mid.plant = .onLine → (s.plant = .onLine ∨ s.wgc.short = none) → mid.wgc.short =
            if (mid.wgc.gateTarget = x.gateCeiling ∨ v < x.targetLevel) ∧ s.bgv.reserve < x.shortMargin
            then some (s.wgc.short.getD 240000000) else none)) ∧
        (c = 1 → match s.freshValue 0 with
          | none => mid.wgc = s.wgc
          | some level =>
            let d : Int := level - v
            mid.wgc.rackDiff = some d ∧ mid.wgc.rackAlarm = decide ((x.rackAlarm : Int) ≤ d) ∧
            mid.flag .rackAlarm = (s.flag .rackAlarm || (decide ((x.rackAlarm : Int) ≤ d) && !s.wgc.rackAlarm)) ∧
            ((x.rackTrip : Int) ≤ d → canStop = true → stopped) ∧
            (d < x.rackTrip ∨ canStop = false → mid.wgc = { s.wgc with
              rackDiff := mid.wgc.rackDiff
              rackAlarm := mid.wgc.rackAlarm })) ∧
        (c = 2 → match s.freshValue 0 with
          | none => mid.wgc = s.wgc
          | some level =>
            mid.wgc.netHead = some (level - v) ∧
            (level - v < x.headMin → canStop = true → stopped) ∧
            ((x.headMin : Int) ≤ level - v ∨ canStop = false →
              mid.wgc = { s.wgc with netHead := mid.wgc.netHead })) ∧
        (c = 3 →
          let near : Bool := decide ((v - (s.wgc.gateTarget : Int)).natAbs ≤ 5)
          let toward : GateDirection := if v < s.wgc.gateTarget then .open else .close
          let rest : Bool := if s.fsu.pickupFault = false then decide (s.fsu.shaftSpeed < 50) else s.bgv.state == .inactive
          mid.wgc.gateTarget = s.wgc.gateTarget ∧
          mid.plant = (if s.plant = .runDown ∧ rest = true ∧ v ≤ 5 then .standstill else s.plant) ∧
          (s.wgc.move = .stepping → near = true →
            mid.wgc.move = .checking ∧ mid.wgc.pulse = none ∧ mid.wgc.timeout = s.wgc.timeout) ∧
          ((s.wgc.move = .stepping ∨ (s.wgc.move = .checking ∧ src = .slot2)) → near = false →
            mid.wgc.move = .stepping ∧ mid.wgc.direction = toward ∧ mid.wgc.pulse.isSome = true ∧
            mid.wgc.timeout = s.wgc.timeout) ∧
          (s.wgc.move = .checking → src = .slot2 → near = true → mid.wgc.move = .idle ∧ mid.wgc.timeout = none) ∧
          ((s.wgc.move = .checking ∧ src ≠ .slot2) ∨ s.wgc.move = .idle ∨ s.wgc.move = .faulted →
            mid.wgc.move = s.wgc.move ∧ mid.wgc.direction = s.wgc.direction ∧ mid.wgc.pulse = s.wgc.pulse))))

/-! ## The saw stations (chapter 7) -/

/-- A pin of a station (R121, R123, R124): the filter timer runs while the raw level differs; at its expiry the
filtered level follows, a press is a START and an opening a STOP, taken as the station's state says. -/
def Obligations.StationInputsAreFilteredAndTaken : Prop :=
  ∀ (s : State) (i : StationNo) (a : Bool), s.held = false → s.calm →
    let x := s.station i
    let filter := s.svl.settings.inputFilter * 8000
    exec (.inputLevelChange i .start a) s = .next (s.modStation i fun x => { x with
      rawStart := a
      startFilter := if a = x.startPressed then none else some (x.startFilter.getD filter) }) ∧
    exec (.inputLevelChange i .stop a) s = .next (s.modStation i fun x => { x with
      rawStop := a
      stopFilter := if a = x.stopOpen then none else some (x.stopFilter.getD filter) }) ∧
    (x.startFilter.isSome = true →
      let y := { x with
        startFilter := none
        startPressed := x.rawStart }
      ((x.rawStart = false ∨ x.startPressed = true ∨ x.state ≠ .idle) →
        exec (.inputFilterExpiry i .start) s = .next (s.modStation i fun _ => y)) ∧
      (x.rawStart = true → x.startPressed = false → x.state = .idle →
        (x.stopOpen = true → exec (.inputFilterExpiry i .start) s = .next (s.modStation i fun _ =>
          { y with
            outcome := .refusedStop
            refusal := some 40000000 })) ∧
        (x.stopOpen = false → s.plant ≠ .onLine → exec (.inputFilterExpiry i .start) s = .next (s.modStation i fun _ =>
          { y with
            outcome := .refusedPlant
            refusal := some 40000000 })) ∧
        (x.stopOpen = false → s.plant = .onLine → exec (.inputFilterExpiry i .start) s =
          .next (s.modStation i fun _ =>
            { y with
              state := .waiting
              refusal := none
              wait := some (s.svl.settings.sawWait * 8000000) }).promptEvaluation.settle))) ∧
    (x.stopFilter.isSome = true →
      let y := { x with
        stopFilter := none
        stopOpen := x.rawStop }
      ((x.rawStop = false ∨ x.stopOpen = true ∨ x.state = .idle ∨ x.state = .windingDown ∨ x.state = .lockedOut) →
        exec (.inputFilterExpiry i .stop) s = .next (s.modStation i fun _ => y)) ∧
      (x.rawStop = true → x.stopOpen = false →
        (x.state = .waiting → exec (.inputFilterExpiry i .stop) s =
          .next (s.modStation i fun _ =>
            { y with
              state := .idle
              refusal := none
              wait := none }).promptEvaluation.settle) ∧
        (x.state = .engaging → exec (.inputFilterExpiry i .stop) s =
          .next ((s.modStation i fun _ => y.aborted .abortStop).dropReservation (.station i)).settle) ∧
        (x.state = .running →
          exec (.inputFilterExpiry i .stop) s = .next (s.modStation i fun _ => y.wound))))

/-- The timers of a station and SAW_CLEAR (R125, R129, R131, R134, R136 to R138). -/
def Obligations.StationTimersAndSawClear : Prop :=
  ∀ (s : State) (i : StationNo), s.held = false → s.calm →
    let x := s.station i
    (x.state = .waiting → x.wait.isSome = true → exec (.waitTimerExpiry i) s =
      .next (s.modStation i fun _ =>
        { x with
          state := .idle
          wait := none
          outcome := .waitExpired
          refusal := some 40000000 }).promptEvaluation.settle) ∧
    (x.state = .engaging → x.engage.isSome = true → exec (.engageTimerExpiry i) s =
      .next ((s.modStation i fun _ => x.aborted .abortTimeout).dropReservation (.station i)).settle) ∧
    (x.state = .engaging → x.dip.isSome = true → exec (.dipTimerExpiry i) s =
      .next ((s.modStation i fun _ => x.aborted .abortDip).dropReservation (.station i)).settle) ∧
    (x.state = .running → x.jam.isSome = true → exec (.jamTimerExpiry i) s =
      .next (let t := s.modStation i fun _ =>
          { x with
            state := .lockedOut
            refusal := none
            jam := none
            outcome := .jammed }
        { t with
          nva := { t.nva with
            plantRecord := ⟨{ s.plantRecord with lockouts := s.plantRecord.lockouts.set i true }, .clean⟩ }
          svl := { t.svl with flags := t.svl.flags ||| 0x400#21 } })) ∧
    (exec (.refusalShowExpiry i) s = .next (s.modStation i fun _ => { x with refusal := none })) ∧
    (s.ready → ∀ b : Byte,
      (b.toNat = 0 ∨ 3 < b.toNat → exec (.sawClear b) s = .next (s.answer 0x40 ⟨.badField, []⟩)) ∧
      (b.toNat = i.val + 1 → x.state ≠ .lockedOut →
        exec (.sawClear b) s = .next (s.answer 0x40 ⟨.wrongState, []⟩)) ∧
      (b.toNat = i.val + 1 → x.state = .lockedOut → exec (.sawClear b) s =
        .next (State.answer 0x40 ⟨.done, []⟩
          (let t := s.modStation i fun _ =>
            { x with
              state := .idle
              refusal := none }
           { t with nva := { t.nva with
              plantRecord := ⟨{ s.plantRecord with lockouts := s.plantRecord.lockouts.set i false }, .clean⟩ } })))) ∧
    (∀ r : Holder, (s.dropReservation r).rsv.table = s.rsv.table.filter (fun e => e.holder ≠ r) ∧
      s.dropReservation r = { s with rsv := (s.dropReservation r).rsv } ∧
      (s.holds r = true → (s.dropReservation r).rsv.due = true))

/-! ## The sequencer (chapter 8) -/

/-- The completion of a conversion and of a successful calibration (R142, R143): raw is scaled by the OFFSET and GAIN
in force, the entry takes raw, value and source and is FRESH for three scan intervals; every other entry is as it was;
and raw is kept beside the value. -/
def Obligations.CompletionScalesTheRawValue : Prop :=
  (∀ (s : State) (raw : BitVec 12) (src : Source) (c : ChannelNo), s.held = false →
    (s.msq.conv = .converting src c ∨
      (s.msq.state = .calibrating ∧ s.msq.conv = .free ∧ src = .calibration ∧ c = 14 ∧ 1900 ≤ raw.toNat ∧
        raw.toNat ≤ 2200)) →
    ∃ mid : State,
      (if s.msq.conv = .free then exec (.calibrationComplete raw) s else exec (.conversionComplete raw) s) =
        .next mid.settle ∧
      (let product : Int := ((raw.toNat : Int) - s.svl.settings.offset[c]) * s.svl.settings.gain[c]
       let quotient : Int := if 0 ≤ product then product / 1024 else -(-product / 1024)
       let v : Int := max (-32767) (min quotient 32767)
       (mid.reading c).raw = some raw.toNat ∧ (mid.reading c).value = some v ∧ (mid.reading c).state = .fresh ∧
       (mid.reading c).timer = some (3 * (s.svl.settings.scanInterval * 8000)) ∧ (mid.reading c).source = src) ∧
      (∀ k : ChannelNo, k ≠ c → mid.reading k = s.reading k)) ∧
  (∀ c : ChannelNo, Settings.defaults.offset[c] = 0 ∧ Settings.defaults.gain[c] = 1024 ∧
    (Cell.offset c).range = (0, 4095) ∧ (Cell.gain c).range = (0, 65535)) ∧
  (∀ raw : BitVec 12, scale 0 1024 raw.toNat = raw.toNat) ∧ (∀ offset raw : Nat, scale offset 0 raw = 0)

/-- The window watch at a completion (R152, R153, R168): the runs and the alarm; an alarm raised latches WINDOW with
the channel, BATTERY_LOW or DIE_HOT, or trips a running plant with BEARING_HOT. -/
def Obligations.WindowWatchRaisesAndClearsTheAlarm : Prop :=
  ∀ (s : State) (raw : BitVec 12) (src : Source) (c : ChannelNo), s.held = false →
    s.msq.conv = .converting src c →
    ∃ mid : State, exec (.conversionComplete raw) s = .next mid.settle ∧
      (let v := s.scaled c raw.toNat
       let count := s.svl.settings.count[c]
       let x := s.reading c
       (v < s.svl.settings.low[c] ∨ s.svl.settings.high[c] < v →
         (mid.reading c).outside = min count (x.outside + 1) ∧ (mid.reading c).inside = 0 ∧
         ((mid.reading c).alarm = true ↔ x.alarm = true ∨ count ≤ x.outside + 1)) ∧
       (s.svl.settings.low[c] ≤ v → v ≤ s.svl.settings.high[c] →
         (mid.reading c).inside = min count (x.inside + 1) ∧ (mid.reading c).outside = 0 ∧
         ((mid.reading c).alarm = true ↔ x.alarm = true ∧ x.inside + 1 < count)) ∧
       ((mid.reading c).alarm = true → x.alarm = false →
         mid.flag .window = true ∧ mid.svl.windowSet.getLsbD c.val = true ∧
         (c = 13 → mid.flag .batteryLow = true) ∧ (c = 15 → mid.flag .dieHot = true) ∧
         (c = 10 ∨ c = 11 → s.running = true → mid.plant = .tripped ∧ mid.flag .trip = true ∧
           mid.plantRecord.cause = some .bearingHot ∧ s.poweredDown mid)))

/-- A slot 1 result leaves the set and is judged (R80, R81, R149): a stage that is on is HEALTHY at half its current
or more, else FAULTED with Imax lowered, the integrator clamped and BANK_FAULT latched; a stage that is off, or
FAULTED already, is not judged. STAGE_RETEST (R82): a FAULTED stage becomes UNTESTED; any other is WRONG_STATE, and no
stage BAD_FIELD. A slot 3 result (R128, R131): an ENGAGING station with its check pending is passed at 80 % of
VOLT_NOMINAL or more and aborted below; no other station is touched. -/
def Obligations.SlotResultsAreJudged : Prop :=
  (∀ (s : State) (raw : BitVec 12) (g : Stage), s.held = false → s.msq.conv = .converting .slot1 g.channel →
     ∃ mid : State, exec (.conversionComplete raw) s = .next mid.settle ∧
       mid.msq.slot1 = s.msq.slot1.put false g ∧
       (let v := s.scaled g.channel raw.toNat
        let judged : Bool := s.bgv.on g && s.bgv.health.get g != .faulted
        let passed : Bool := decide ((s.stageAmps g : Int) ≤ 2 * v)
        (judged = false → mid.bgv = s.bgv) ∧
        (judged = true → passed = true → mid.bgv = { s.bgv with health := s.bgv.health.put .healthy g }) ∧
        (judged = true → passed = false → mid.flag .bankFault = true ∧
          mid.bgv = { s.bgv with
            health := s.bgv.health.put .faulted g
            integ := min s.bgv.integ (s.bgv.health.put .faulted g).integLimit })) ∧
       mid.nva = s.nva ∧ mid.atb = s.atb ∧ mid.fcl = s.fcl ∧ mid.spu = s.spu ∧ mid.wgc = s.wgc) ∧
  (∀ (s : State) (b : Byte) (g : Stage), s.ready → s.calm →
     (b.toNat = 0 ∨ 5 < b.toNat → exec (.stageRetest b) s = .next (s.answer 0x71 ⟨.badField, []⟩)) ∧
     (b.toNat = g.channel.val - 4 → s.bgv.health.get g ≠ .faulted →
       exec (.stageRetest b) s = .next (s.answer 0x71 ⟨.wrongState, []⟩)) ∧
     (b.toNat = g.channel.val - 4 → s.bgv.health.get g = .faulted → exec (.stageRetest b) s =
       .next (({ s with bgv := { s.bgv with health := s.bgv.health.put .untested g } } : State).answer 0x71 ⟨.done, []⟩))) ∧
  (∀ (s : State) (raw : BitVec 12), s.held = false → s.msq.conv = .converting .slot3 4 →
     ∃ mid : State, exec (.conversionComplete raw) s = .next mid.settle ∧
       (∀ i : StationNo, mid.station i =
         if (s.station i).state = .engaging ∧ (s.station i).voltPending = true then
           (if 8 * (s.svl.settings.voltNominal : Int) ≤ 10 * s.scaled 4 raw.toNat then
             { s.station i with voltPending := false }
           else (s.station i).aborted .abortVoltage)
         else s.station i) ∧
       mid.nva = s.nva ∧ mid.atb = s.atb ∧ mid.fcl = s.fcl ∧ mid.bgv = s.bgv ∧ mid.wgc = s.wgc)

/-- SAMPLE_NOW, the scan timer and the freshness timers (R144, R145, R147, R148, R151, R165). The calibration (R141,
R154): a result in 1,900..2,200 makes the converter RUNNING with the scan timer started; outside it the first attempt
latches CAL_FAULT and a second follows, whose failure leaves the converter FAILED. -/
def Obligations.SamplesScansAndCalibration : Prop :=
  (∀ (s : State) (b : Byte) (c : ChannelNo), s.held = false → s.calm →
     let idle : Bool := s.msq.slot1.lowest.isNone && !s.msq.slot2 && !s.msq.slot3
     (s.ready →
       (15 < b.toNat → exec (.sampleNow b) s = .next (s.answer 0x61 ⟨.badField, []⟩)) ∧
       (b.toNat = c.val →
         (s.msq.state = .calibrating → exec (.sampleNow b) s = .next (s.answer 0x61 ⟨.busy, []⟩)) ∧
         (s.msq.state = .failed → exec (.sampleNow b) s = .next (s.answer 0x61 ⟨.wrongState, []⟩)) ∧
         (s.msq.state = .running → s.msq.slot4.isSome = true ∨ s.msq.convertingFor .slot4 = true →
           exec (.sampleNow b) s = .next (s.answer 0x61 ⟨.busy, []⟩)) ∧
         (s.msq.state = .running → s.msq.slot4 = none → s.msq.conv = .free ∨ s.msq.convertingFor .routine = true →
           idle = true → exec (.sampleNow b) s =
             .next (({ s with msq := { s.msq with conv := .converting .slot4 c } } : State).answer 0x61 ⟨.done, []⟩)) ∧
         (s.msq.state = .running → s.msq.slot4 = none → s.msq.convertingFor .slot4 = false →
           s.msq.conv ≠ .free → s.msq.convertingFor .routine = false → exec (.sampleNow b) s =
             .next (({ s with msq := { s.msq with slot4 := some c } } : State).answer 0x61 ⟨.done, []⟩)))) ∧
     (s.msq.scan.isSome = true →
       let n := s.svl.settings.routine.length
       let run := if s.svl.settings.runLength = 0 then n else min s.svl.settings.runLength n
       (0 < s.msq.runCount → exec .scanTimerExpiry s =
         .next { s with msq := { s.msq with scan := some (s.svl.settings.scanInterval * 8000) } }) ∧
       (s.msq.runCount = 0 → s.msq.conv ≠ .free → exec .scanTimerExpiry s = .next { s with msq := { s.msq with
         scan := some (s.svl.settings.scanInterval * 8000)
         runCount := run } }) ∧
       (s.msq.runCount = 0 → s.msq.conv = .free → s.msq.state = .running → idle = true → s.msq.slot4 = none → 0 < run →
         exec .scanTimerExpiry s = .next { s with msq := { s.msq with
           scan := some (s.svl.settings.scanInterval * 8000)
           runCount := run
           conv := .converting .routine (s.svl.settings.routine.getD (s.msq.pointer - 1) 0) } })) ∧
     ((s.reading c).timer.isSome = true →
       let t := s.modReading c fun x => { x with
         state := .stale
         timer := none }
       (c ≠ 0 → exec (.freshnessTimerExpiry c) s = .next t) ∧
       (c = 0 → exec (.freshnessTimerExpiry c) s = .next { t with wgc := { s.wgc with
         levelLost := some 480000000
         short := if s.plant = .onLine then
             (if s.wgc.gateTarget = s.svl.settings.gateCeiling ∧ s.bgv.reserve < s.svl.settings.shortMargin then
               some (s.wgc.short.getD 240000000) else none)
           else s.wgc.short } }))) ∧
  (∀ (s : State) (raw : BitVec 12), s.held = false → s.calm → s.msq.state = .calibrating → s.msq.conv = .free →
     (1900 ≤ raw.toNat ∧ raw.toNat ≤ 2200 → ∃ mid : State, exec (.calibrationComplete raw) s = .next mid.settle ∧
       mid.msq.state = .running ∧ mid.msq.scan = some (s.svl.settings.scanInterval * 8000) ∧
       mid = { s with msq := mid.msq, svl := { s.svl with flags := mid.svl.flags, windowSet := mid.svl.windowSet } }) ∧
     (raw.toNat < 1900 ∨ 2200 < raw.toNat →
       exec (.calibrationComplete raw) s = .next { s with
         msq := if s.msq.secondAttempt = true then { s.msq with state := .failed }
           else { s.msq with secondAttempt := true }
         svl := { s.svl with flags := s.svl.flags ||| 0x80000#21 } }))

/-! ## Frequency and speed (chapter 3) -/

/-- The frequency of a period (R55): 8,000,000,000 / P rounded to nearest with halves up; both ends of the valid range
and the range between; a period event publishes it, and nothing but a period event and a reset changes it. -/
def Obligations.FrequencyIsTheRoundedQuotient : Prop :=
  (∀ p : Nat, (2 * (8000000000 % p) < p → frequencyOf p = 8000000000 / p) ∧
    (p ≤ 2 * (8000000000 % p) → frequencyOf p = 8000000000 / p + 1)) ∧
  frequencyOf 114286 = 70000 ∧ frequencyOf 266667 = 30000 ∧
  (∀ p : Nat, 114286 ≤ p → p ≤ 266667 → 30000 ≤ frequencyOf p ∧ frequencyOf p ≤ 70000) ∧
  (∀ (s : State) (count r : BitVec 32), s.held = false →
    (s.fsu.lastCrossing = none ∨ ∃ l, s.fsu.lastCrossing = some l ∧ 96000 ≤ (count - l).toNat) →
    s.fsu.reference = some r → 114286 ≤ (count - r).toNat → (count - r).toNat ≤ 266667 →
    ∃ t, exec (.crossingEdge count) s = .next t ∧ t.fsu.freq = frequencyOf (count - r).toNat ∧ t.fsu.freqValid = true) ∧
  (∀ (s t : State) (count : BitVec 32), exec (.crossingEdge count) s = .next t →
    (∀ r, s.fsu.reference = some r → (count - r).toNat < 114286 ∨ 266667 < (count - r).toNat) →
    t.fsu.freq = s.fsu.freq) ∧
  (∀ (s t : State) (c : Instr), exec c s = .next t → (∀ n, c ≠ .crossingEdge n) → c ≠ .powerOnReset → c ≠ .pinReset →
    s.svl.restartCalled = false → t.fsu.freq = s.fsu.freq)

/-- A rising edge on the crossing input (R51, R52, R54, R56, R69, R77): the filter; the reference; a period too short,
in range, or too long; the switching instant. `a` is the state at the edge, its time passed (log 3, log 4). The gap
timer (R53, R54, R69, R110): one rejection, the reference absent, the timer restarted; the third of a run makes the
frequency invalid, and then an ACTIVE governor holds for a second and in ON-LINE the ladder sheds at once, with every
RESTORING record cancelled, the ENGAGING station aborted with ABORT_COLLAPSE and the RUNNING ones wound down (R104,
R110, R131), as at the third rejection of a crossing; the watch timers that need a valid frequency stop (R63, R107,
R111, R129, R161, R167), and the rest test is made where the governor's state changed (R166). -/
def Obligations.CrossingsAndGapsAreJudged : Prop :=
  (∀ (s : State) (count : BitVec 32), s.held = false → s.calm →
     let a := s.advance (count - s.fsu.captureCount).toNat
     let ignored : Bool := match s.fsu.lastCrossing with
       | some l => decide ((count - l).toNat < 96000)
       | none => false
     (ignored = true → exec (.crossingEdge count) s = .next a) ∧
     (ignored = false → ∃ mid : State, exec (.crossingEdge count) s = .next mid.settle ∧
       mid.fsu.lastCrossing = some count ∧ mid.fsu.gap = some 320000 ∧ mid.fsu.captureCount = count ∧
       (s.plant ≠ .runDown → mid.bgv.switched = if s.bgv.state = .inactive then s.bgv.switched else s.bgv.target) ∧
       (s.fsu.reference = none → mid.fsu = { a.fsu with
           lastCrossing := some count
           gap := some 320000
           reference := some count } ∧ mid.nva = s.nva ∧ mid.fcl = a.fcl ∧ mid.spu = a.spu ∧ mid.wgc = a.wgc) ∧
       (∀ r, s.fsu.reference = some r →
         let p := (count - r).toNat
         mid.fsu.reference = (if p < 114286 then none else some count) ∧
         ((p < 114286 ∨ 266667 < p) →
           let lost : Bool := decide (2 ≤ s.fsu.rejections) && s.fsu.freqValid
           mid.fsu.freq = s.fsu.freq ∧ mid.fsu.rejections = min 3 (s.fsu.rejections + 1) ∧
           mid.fsu.freqValid = (if 2 ≤ s.fsu.rejections then false else s.fsu.freqValid) ∧
           (lost = false → mid.nva = s.nva ∧ mid.fcl = a.fcl ∧ mid.spu = a.spu ∧ mid.wgc = a.wgc ∧
             mid.bgv = { a.bgv with switched := mid.bgv.switched }) ∧
           (lost = true → s.bgv.state = .active → s.plant ≠ .runDown →
             mid.bgv.state = .holding ∧ mid.bgv.hold = some 8000000) ∧
           (lost = true → s.plant = .onLine →
             (s.allRead → ∀ n : RecNo,
               if s.recordOnLadder n = true then a.recordShed .plain .collapse mid n
               else if s.recState n = .restoring then a.recordShed .cancel .restoreFail mid n
               else a.recordKept mid n) ∧
             (∀ i : StationNo, mid.station i =
               if (s.station i).state = .engaging then (a.station i).aborted .abortCollapse
               else if (s.station i).state = .running then (a.station i).wound
               else a.station i) ∧
             (∀ i : StationNo, (s.station i).state = .engaging → mid.holds (.station i) = false))) ∧
         (114286 ≤ p → p ≤ 266667 → mid.fsu.freq = frequencyOf p ∧ mid.fsu.freqValid = true ∧ mid.fsu.rejections = 0 ∧
           mid.nva = s.nva ∧ mid.fcl = a.fcl)))) ∧
  (∀ s : State, s.held = false → s.calm → s.fsu.gap.isSome = true →
     let lost : Bool := decide (2 ≤ s.fsu.rejections) && s.fsu.freqValid
     (lost = false → exec .gapTimerExpiry s = .next { s with fsu := { s.fsu with
       gap := some 320000
       reference := none
       rejections := min 3 (s.fsu.rejections + 1) } }) ∧
     (lost = true → ∃ mid : State, exec .gapTimerExpiry s = .next mid.settle ∧
       mid.fsu = { s.fsu with
         gap := some 320000
         reference := none
         rejections := 3
         freqValid := false
         slip := none
         slipSpent := false } ∧
       (s.plant ≠ .runDown → mid.bgv = if s.bgv.state = .active then
         { s.bgv with
           state := .holding
           hold := some 8000000 }
         else s.bgv) ∧
       (s.plant = .onLine → s.allRead → ∀ n : RecNo,
         if s.recordOnLadder n = true then s.recordShed .plain .collapse mid n
         else if s.recState n = .restoring then s.recordShed .cancel .restoreFail mid n
         else s.recordKept mid n) ∧
       (s.plant ≠ .onLine → mid.nva = s.nva ∧ mid.atb = s.atb ∧ mid.fcl = s.fcl) ∧
       (let rest : Bool := s.plant == .runDown && s.bgv.state == .active && !s.fsu.pickupFault &&
          decide (s.fsu.shaftSpeed < 50) && (match s.freshValue 3 with | some v => decide (v ≤ 5) | none => false)
        mid.sld = { s.sld with
          step := none
          collapse1 := none
          collapse1Spent := false
          collapse2 := none
          collapse2Spent := false
          watch := mid.sld.watch } ∧
        (∀ i : StationNo, mid.station i =
          let x := s.station i
          if s.plant = .onLine then
            (if x.state = .engaging then x.aborted .abortCollapse else if x.state = .running then x.wound else x)
          else if x.state = .engaging then { x with dip := none }
          else x) ∧
        (s.plant = .onLine → ∀ i : StationNo, (s.station i).state = .engaging → mid.holds (.station i) = false) ∧
        (rest = false → mid.wgc = { s.wgc with
          sync := if s.plant = .runUp then none else s.wgc.sync
          freqOver := if s.running = true then none else s.wgc.freqOver }) ∧
        (rest = true → mid.plant = .standstill ∧ mid.bgv = { Bgv.reset with health := s.bgv.health }))))

/-- The shaft pickup, the index and the arbor pulses (R57, R60 to R62): the counts of the window and of the
revolution; a lost index; good and bad revolutions, three of which in a run clear or raise the pickup fault. -/
def Obligations.PulsesAndIndexAreCounted : Prop :=
  ∀ (s : State) (trackB : Bool) (i : StationNo), s.held = false → s.calm →
    let back : Bool := s.svl.settings.pickupMode == .quadrature && trackB
    let r : Int := if back = true then s.fsu.revolution - 1 else s.fsu.revolution + 1
    let counted := { s.fsu with
      forward := if back = true then s.fsu.forward else min 65535 (s.fsu.forward + 1)
      reverse := if back = true then min 65535 (s.fsu.reverse + 1) else s.fsu.reverse
      revolution := r }
    let judging : Bool := s.fsu.freqValid || decide (100 ≤ s.fsu.shaftSpeed)
    let bad (t : State) : Prop :=
      t.fsu.badRun = min 3 (s.fsu.badRun + 1) ∧ t.fsu.goodRun = 0 ∧
      t.fsu.pickupFault = (s.fsu.pickupFault || decide (2 ≤ s.fsu.badRun)) ∧
      (s.fsu.pickupFault = false → 2 ≤ s.fsu.badRun → t.flag .pickupFault = true)
    let good (t : State) : Prop :=
      t.fsu.goodRun = min 3 (s.fsu.goodRun + 1) ∧ t.fsu.badRun = 0 ∧
      t.fsu.pickupFault = (s.fsu.pickupFault && decide (s.fsu.goodRun < 2)) ∧ t.svl = s.svl
    (r.natAbs < 2 * s.svl.settings.shaftTeeth + 2 → exec (.shaftPulse trackB) s = .next { s with fsu := counted }) ∧
    (2 * s.svl.settings.shaftTeeth + 2 ≤ r.natAbs →
      (judging = false → exec (.shaftPulse trackB) s = .next { s with fsu := { counted with revolution := 0 } }) ∧
      (judging = true → ∃ mid : State, exec (.shaftPulse trackB) s = .next mid.settle ∧
        mid.fsu.forward = counted.forward ∧ mid.fsu.reverse = counted.reverse ∧ mid.fsu.revolution = 0 ∧ bad mid ∧
        mid.nva = s.nva ∧ mid.atb = s.atb ∧ mid.fcl = s.fcl ∧ mid.msq = s.msq)) ∧
    (s.fsu.armed = false ∨ judging = false → exec .indexEdge s = .next { s with fsu := { s.fsu with
      revolution := 0
      armed := true } }) ∧
    (s.fsu.armed = true → judging = true → ∃ mid : State, exec .indexEdge s = .next mid.settle ∧
      mid.fsu.revolution = 0 ∧ mid.fsu.armed = true ∧
      (if ((s.fsu.revolution.natAbs : Int) - s.svl.settings.shaftTeeth).natAbs ≤ 1 then good mid else bad mid) ∧
      mid.nva = s.nva ∧ mid.atb = s.atb ∧ mid.fcl = s.fcl ∧ mid.msq = s.msq) ∧
    exec (.arborPulse i) s = .next { s with fsu := { s.fsu with
      arborCount := s.fsu.arborCount.set i (min 65535 (s.fsu.arborCount[i] + 1)) } }

/-- The end of a speed window and the slip timer (R58, R59, R62, R63, R130, R134, R135, R166, R167): the published
speeds and direction, the counts at 0, what each station does, the trip of a shaft that turns backward, the slip check
and the shaft overspeed test, which start or stop their timers, and the rest test. -/
def Obligations.SpeedWindowPublishesTheSpeeds : Prop :=
  ∀ s : State, s.held = false → s.calm →
    (s.fsu.slip.isSome = true → exec .slipTimerExpiry s = .next { s with
      fsu := { s.fsu with
        slip := none
        slipSpent := true }
      svl := { s.svl with flags := s.svl.flags ||| 0x200#21 } }) ∧
    (s.fsu.window.isSome = true → ∃ mid : State, exec .speedWindowEnd s = .next mid.settle ∧
      (let quadrature : Bool := s.svl.settings.pickupMode == .quadrature
       let net : Nat := if quadrature = true then ((s.fsu.forward : Int) - s.fsu.reverse).natAbs else s.fsu.forward
       let speed : Nat := min 2000 (net * 1000 / s.svl.settings.shaftNominal)
       let arbor (i : StationNo) : Nat := min 2000 (s.fsu.arborCount[i] * 1000 / s.svl.settings.arborNominal[i])
       let direction : Direction := if quadrature = false then .none
         else if s.fsu.reverse < s.fsu.forward then .forward
         else if s.fsu.forward < s.fsu.reverse then .reverse
         else s.fsu.direction
       let backward : Bool := quadrature && !s.fsu.pickupFault && direction == .reverse && decide (20 < speed)
       mid.fsu = { s.fsu with
         window := some 800000
         shaftSpeed := speed
         direction := direction
         arborSpeed := Vector.ofFn arbor
         forward := 0
         reverse := 0
         arborCount := #v[0, 0, 0]
         slip := mid.fsu.slip
         slipSpent := mid.fsu.slipSpent } ∧
       (backward = true → s.running = true → mid.plant = .tripped ∧ mid.plantRecord.cause = some .reverse ∧
         mid.flag .trip = true ∧ mid.wgc.gateTarget = 0) ∧
       (backward = true → s.running = true → mid.fsu.slip = none ∧ mid.fsu.slipSpent = false) ∧
       (backward = false →
         let slips : Bool := s.plant == .onLine && s.fsu.freqValid && !s.fsu.pickupFault &&
           decide (50 < (((s.fsu.freq * 1000 / s.svl.settings.fset : Nat) : Int) - speed).natAbs)
         let rest : Bool := s.plant == .runDown &&
           (if s.fsu.pickupFault = false then decide (speed < 50) else s.bgv.state == .inactive) &&
           (match s.freshValue 3 with | some v => decide (v ≤ 5) | none => false)
         mid.fsu.slip = (if slips = true then (if s.fsu.slipSpent = true then s.fsu.slip
           else some (s.fsu.slip.getD 16000000)) else none) ∧
         mid.fsu.slipSpent = (slips && s.fsu.slipSpent) ∧
         (rest = false → mid.bgv = s.bgv ∧ mid.sld = s.sld ∧ mid.wgc = { s.wgc with
           shaftOver := if s.running = false then s.wgc.shaftOver
             else if s.fsu.pickupFault = false ∧ 1300 < speed then some (s.wgc.shaftOver.getD 1600000)
             else none }) ∧
         (rest = true → mid.plant = .standstill ∧ mid.wgc.gateTarget = s.wgc.gateTarget ∧ mid.wgc.freqOver = none ∧
           mid.wgc.shaftOver = none ∧
           mid.bgv = if s.bgv.state = .inactive then s.bgv else { Bgv.reset with health := s.bgv.health })) ∧
       (backward = false → mid.nva = s.nva ∧ mid.atb = s.atb ∧ mid.fcl = s.fcl ∧ mid.svl = s.svl ∧
         (∀ i : StationNo, mid.station i =
           let x := s.station i
           match x.state with
           | .engaging => if 900 ≤ arbor i then
               { x with
                 state := .running
                 refusal := none
                 engage := none
                 dip := none
                 jam := none
                 voltPending := false }
             else x
           | .running => { x with jam := if arbor i < 600 then some (x.jam.getD 4000000) else none }
           | .windingDown => if arbor i < 100 then
               { x with
                 state := .idle
                 refusal := none }
             else x
           | _ => x) ∧
         (∀ i : StationNo, (s.station i).state = .engaging → 900 ≤ arbor i → mid.holds (.station i) = false))))

/-! ## The governor (chapter 4) -/

/-- A period event at the governor (R68, R72 to R76): error, integrator, proportional sum, demand, the largest coarse
level the fit banks reach, trim, effective demand and reserve, on the frequency just published; INACTIVE in STANDSTILL
it does nothing. The tests on the event and its governor update start or stop the watch timers: the step (R107), the
collapse levels (R110, R111), the dip (R129), in step (R161), short and recovery (R162, R163), overspeed (R167), the
slip check where the validity changed (R63), the waste mark (R170), and the rest test where the governor's state
changed (R166). `a` is the state at the edge, its time passed (log 3). -/
def Obligations.GovernorComputesOnThePeriod : Prop :=
  ∀ (s : State) (count r : BitVec 32), s.held = false → s.calm →
    (s.fsu.lastCrossing = none ∨ ∃ l, s.fsu.lastCrossing = some l ∧ 96000 ≤ (count - l).toNat) →
    s.fsu.reference = some r → 114286 ≤ (count - r).toNat → (count - r).toNat ≤ 266667 →
    let x := s.svl.settings
    let f := frequencyOf (count - r).toNat
    let a := s.advance (count - s.fsu.captureCount).toNat
    let rest : Bool := s.plant == .runDown && s.bgv.state != .active && !s.fsu.pickupFault &&
      decide (s.fsu.shaftSpeed < 50) && (match s.freshValue 3 with | some v => decide (v ≤ 5) | none => false)
    ∃ mid : State, exec (.crossingEdge count) s = .next mid.settle ∧
      (s.plant = .standstill → s.bgv.state = .inactive → s.bgv.hold = none → mid.bgv = s.bgv) ∧
      (rest = true → mid.plant = .standstill ∧ mid.bgv = { Bgv.reset with health := s.bgv.health }) ∧
      (s.plant ≠ .standstill → rest = false →
        let h := s.bgv.health
        let fit (g : Stage) : Bool := h.get g != .faulted
        let weights : Nat := (if fit .a = true then 8 else 0) + (if fit .b = true then 4 else 0) +
          (if fit .c = true then 2 else 0) + (if fit .d = true then 1 else 0)
        let limit : Int := (256 * weights + (if fit .trim = true then 255 else 0)) * 256 + 255
        let e : Int := max (-2000) (min 2000 ((f : Int) - x.fset))
        let i : Int := max 0 (min limit (s.bgv.integ + x.ki * e))
        let sum : Int := max 0 (min limit (i + x.kp * e))
        let b := mid.bgv
        b.state = .active ∧ b.hold = none ∧ b.health = h ∧ b.err = e ∧ (b.integ : Int) = i ∧
        (b.demand : Int) = sum / 256 ∧ b.coarse = b.target.level ∧ b.coarse ≤ b.demand / 256 ∧
        (∀ g : Stage, b.target.has g = true → fit g = true) ∧
        (∀ y : Banks, (∀ g : Stage, y.has g = true → fit g = true) → y.level ≤ b.demand / 256 → y.level ≤ b.coarse) ∧
        b.trim = (if fit .trim = true then min (b.demand - 256 * b.coarse) 255 else 0) ∧
        b.effective = 256 * b.coarse + b.trim ∧ b.reserve = b.effective * x.ballastFull / 4096) ∧
      (rest = false →
        let supplying : Bool := s.plant == .onLine || s.plant == .waterShort
        let watch (holds : Bool) (length : Nat) (t : Timer) : Timer := if holds = true then some (t.getD length) else none
        let once (holds spent : Bool) (length : Nat) (t : Timer) : Timer :=
          if holds = true then (if spent = true then t else some (t.getD length)) else none
        let first : Bool := supplying && decide (f < 46000)
        let second : Bool := supplying && decide (f < 45000)
        let sags : Bool := supplying && decide (f + x.shedOffset < x.fset) && mid.bgv.demand == 0
        let short : Bool := (s.wgc.gateTarget == x.gateCeiling || (match s.freshValue 0 with
            | some v => decide (v < x.targetLevel)
            | none => false)) && decide (mid.bgv.reserve < x.shortMargin)
        let slips : Bool := s.plant == .onLine && !s.fsu.pickupFault &&
          decide (50 < (((f * 1000 / x.fset : Nat) : Int) - s.fsu.shaftSpeed).natAbs)
        mid.sld = { a.sld with
          step := if s.plant = .standstill ∧ s.fsu.freqValid = true then a.sld.step
            else watch sags (max (x.shedDelay * 800000) (a.sld.pause.getD 0)) a.sld.step
          collapse1 := once first s.sld.collapse1Spent 4000000 a.sld.collapse1
          collapse1Spent := first && s.sld.collapse1Spent
          collapse2 := once second s.sld.collapse2Spent 8000000 a.sld.collapse2
          collapse2Spent := second && s.sld.collapse2Spent } ∧
        (∀ i : StationNo, mid.station i = { a.station i with
          dip := if (s.station i).state = .engaging then watch (decide (f < x.engageDip)) 8000000 (a.station i).dip
            else (a.station i).dip }) ∧
        mid.fsu.slip = (if s.fsu.freqValid = true then a.fsu.slip else once slips s.fsu.slipSpent 16000000 a.fsu.slip) ∧
        mid.fsu.slipSpent = (if s.fsu.freqValid = true then s.fsu.slipSpent else slips && s.fsu.slipSpent) ∧
        mid.wgc = { a.wgc with
          sync := if s.plant = .runUp then watch (decide (((f : Int) - x.fset).natAbs ≤ 500)) 80000000 a.wgc.sync
            else a.wgc.sync
          freqOver := if s.running = true then watch (decide (57500 < f)) 16000000 a.wgc.freqOver else a.wgc.freqOver
          short := if s.plant = .onLine then watch short 240000000 a.wgc.short else a.wgc.short
          recovery := if s.plant = .waterShort then
              watch (decide (2 * x.shortMargin ≤ mid.bgv.reserve)) 480000000 a.wgc.recovery
            else a.wgc.recovery
          waste := s.wgc.waste && (s.plant == .standstill || decide (x.wasteLevel ≤ mid.bgv.demand)) })

/-! ## The ladder and the record timers (chapters 6 and 1) -/

/-- The hold-off a shed sets (R102, R103): HOLDOFF x 2^(n - 1) s and twice that for a cancellation, each limited to
160 s, n the recent sheds after the shed's own increase; the table of the default; the value in force at the shed,
which a later change of HOLDOFF leaves as it is. -/
def Obligations.HoldoffGrowsWithRecentSheds : Prop :=
  (∀ (s : State) (k : ShedKind) (cause : ShedCause) (n : RecNo), s.quotaSpent n = false →
    let after := k.recent (s.account n).recent
    ((s.shed k cause n).account n).recent = after ∧
    (k ≠ .zero → after = min 4 ((s.account n).recent + 1)) ∧
    (k = .plain → ((s.shed k cause n).work n).holdoff = min 160 (s.svl.settings.holdoff * 2 ^ (after - 1))) ∧
    (k = .cancel → ((s.shed k cause n).work n).holdoff = min 160 (2 * (s.svl.settings.holdoff * 2 ^ (after - 1)))) ∧
    (k = .zero → ((s.shed k cause n).work n).holdoff = 0 ∧ after = (s.account n).recent)) ∧
  (List.range 4).map (fun m => ShedKind.holdoff .plain 10 (m + 1)) = [10, 20, 40, 80] ∧
  (List.range 4).map (fun m => ShedKind.holdoff .cancel 10 (m + 1)) = [20, 40, 80, 160] ∧
  (List.range 4).map (fun m => ShedKind.holdoff .plain 60 (m + 1)) = [60, 120, 160, 160] ∧
  Cell.holdoff.range = (2, 60) ∧ Settings.defaults.holdoff = 10 ∧
  (∀ (s t : State) (hi lo : Byte), s.calm → exec (.settingPut 16 0 [hi, lo]) s = .next t → t.atb = s.atb)

/-- The step timer and the step pause (R101, R107 to R109), where every section reads without an error: the least
important RESTORING record is cancelled; with none, the least important entry of the ladder is shed; the pause and the
timer run for STEP_INTERVAL. The pause's end is an evaluation event. -/
def Obligations.StepShedsTheLeastImportant : Prop :=
  ∀ s : State, s.held = false → s.allRead →
    (s.sld.step.isSome = true → ∃ mid : State, exec .stepTimerExpiry s = .next mid.settle ∧
      mid.sld.pause = some (s.svl.settings.stepInterval * 8000000) ∧
      mid.sld.step = some (s.svl.settings.stepInterval * 8000000) ∧
      (∀ n : RecNo, s.recState n = .restoring →
        (∀ k : RecNo, s.recState k = .restoring → k ≠ n → Key.before (s.key (.allotment k)) (s.key (.allotment n)) = true) →
        s.recordShed .cancel .restoreFail mid n ∧ (∀ k : RecNo, k ≠ n → s.recordKept mid k) ∧ mid.spu = s.spu) ∧
      ((∀ n : RecNo, s.recState n ≠ .restoring) →
        (∀ h : Holder, h ∈ s.ladder → (∀ g ∈ s.ladder, g ≠ h → Key.before (s.key g) (s.key h) = true) →
          match h with
          | .allotment n => s.recordShed .plain .ladder mid n ∧ (∀ k : RecNo, k ≠ n → s.recordKept mid k) ∧ mid.spu = s.spu
          | .station i => mid.station i = (s.station i).wound ∧ (∀ j : StationNo, j ≠ i → mid.station j = s.station j) ∧
            mid.nva = s.nva ∧ mid.atb = s.atb) ∧
        (s.ladder = [] → mid.nva = s.nva ∧ mid.atb = s.atb ∧ mid.spu = s.spu)) ∧
      mid = { s with nva := mid.nva, atb := mid.atb, fcl := { s.fcl with outlets := mid.fcl.outlets }, rsv := mid.rsv,
                     sld := mid.sld, spu := mid.spu }) ∧
    (s.sld.pause.isSome = true → exec .stepPauseExpiry s =
      .next ({ s with sld := { s.sld with pause := none }, rsv := { s.rsv with due := true } } : State).settle)

/-- The collapse timers (R104, R110, R111, R131), where every section reads without an error: the first level sheds
the ladder, cancels the restorations and aborts the engagement; the second level sheds the ESSENTIAL records too, with
hold-off 0. Each timer is spent. -/
def Obligations.CollapseShedsTheLoads : Prop :=
  ∀ (s : State) (second : Bool), s.held = false → s.allRead →
    (if second = true then s.sld.collapse2 else s.sld.collapse1).isSome = true →
    ∃ mid : State,
      exec (if second = true then .secondCollapseTimerExpiry else .firstCollapseTimerExpiry) s = .next mid.settle ∧
      (∀ n : RecNo,
        if s.recordOnLadder n = true then s.recordShed .plain .collapse mid n
        else if s.recState n = .restoring then s.recordShed .cancel .restoreFail mid n
        else if second = true ∧ s.recState n = .live then s.recordShed .zero .collapse mid n
        else s.recordKept mid n) ∧
      (∀ i : StationNo, mid.station i =
        if (s.station i).state = .engaging then (s.station i).aborted .abortCollapse
        else if (s.station i).state = .running then (s.station i).wound
        else s.station i) ∧
      mid.sld = { s.sld with
        watch := mid.sld.watch
        collapse1 := if second = true then s.sld.collapse1 else none
        collapse1Spent := if second = true then s.sld.collapse1Spent else true
        collapse2 := if second = true then none else s.sld.collapse2
        collapse2Spent := if second = true then true else s.sld.collapse2Spent } ∧
      mid = { s with nva := { s.nva with slots := mid.nva.slots }, atb := mid.atb,
                     fcl := { s.fcl with outlets := mid.fcl.outlets }, rsv := mid.rsv, sld := mid.sld, spu := mid.spu }

/-- The whole-second timers of a record (R4, R105, R106): a hold-off ends with an evaluation, a live timer full clears
the recent sheds, a cool-off ends with no change of state. -/
def Obligations.RecordTimersEnd : Prop :=
  ∀ (s : State) (n : RecNo), s.held = false →
    (s.recState n = .shed → (s.work n).holdoff ≠ 0 → exec (.holdoffExpiry n) s =
      .next ({ s with
        atb := s.atb.set n { s.work n with
          holdoff := 0
          holdoffFrac := 0 }
        rsv := { s.rsv with due := true } } : State).settle) ∧
    (s.recState n = .live → (s.work n).liveTimer < 300 → exec (.liveTimerFull n) s = .next { s with
      atb := s.atb.set n { s.work n with
        liveTimer := 300
        liveFrac := 0 }
      nva := { s.nva with slots := s.nva.slots.set n { s.nva.slots[n] with
        account := ⟨{ s.account n with recent := 0 }, .clean⟩ } } }) ∧
    (s.recState n = .live → 300 ≤ (s.work n).liveTimer → exec (.liveTimerFull n) s = .next s) ∧
    (s.recState n = .tripped → exec (.cooloffExpiry n) s = .next { s with
      atb := s.atb.set n { s.work n with
        cooloff := 0
        cooloffFrac := 0 } })

/-! ## The Feeder Chain (chapter 2) -/

/-- A round's frames (R34 to R38, 11.5): the start of a round, the turnaround of 40 us, the frame as the table stands,
the window of 2.0 ms, the reception of at most 1.2 ms, and the next slot after a slot with no reply or a reply cut
short. An expiry of the round timer during a round, which R38 rules out, restarts the timer alone: the model's choice
(log 22). -/
def Obligations.RoundSendsItsFrames : Prop :=
  ∀ (s : State) (a b : NodeNo) (rest : List NodeNo) (call : Bool) (left : Nat) (f : List Byte), s.held = false → s.calm →
    let turn (a : NodeNo) (call : Bool) : LinePhase := .turnaround a call 320
    (s.fcl.roundTimer.isSome = true →
      (s.fcl.phase ≠ .idle → exec .roundTimerExpiry s = .next { s with fcl := { s.fcl with
        roundTimer := some (s.svl.settings.roundPeriod * 8000) } }) ∧
      (s.fcl.phase = .idle →
        let polled := (List.finRange 16).filter fun k => s.fcl.nodes[k].state != .absent
        (polled = b :: rest → exec .roundTimerExpiry s = .next { s with fcl := { s.fcl with
          nodes := s.fcl.nodes.map fun x => { x with replied := false }
          roundTimer := some (s.svl.settings.roundPeriod * 8000)
          pollList := b :: rest
          toPoll := rest
          callDone := false
          phase := turn b false } }) ∧
        (polled = [] → exec .roundTimerExpiry s = .next { s with fcl := { s.fcl with
          nodes := s.fcl.nodes.map fun x => { x with replied := false }
          roundTimer := some (s.svl.settings.roundPeriod * 8000)
          pollList := []
          toPoll := []
          callDone := true
          callPointer := s.fcl.callPointer + 1
          phase := turn s.fcl.callPointer true } }))) ∧
    (s.fcl.phase = .turnaround a call left → 
      let body := [0xD5#8, if call = true then 2 else 1, BitVec.ofNat 8 (a.val + 1)] ++
        if call = true then [] else ([0, 1, 2, 3] : List OutletNo).map fun k =>
          BitVec.ofNat 8 ((s.outlet ⟨a, k⟩).closed.toNat + 2 * (s.outlet ⟨a, k⟩).essential.toNat +
            4 * (s.outlet ⟨a, k⟩).answered.toNat)
      exec .lineTurnaroundEnd s = .next { s with fcl := { s.fcl with
        phase := .sending a call (body ++ crcBytes body) } }) ∧
    (s.fcl.phase = .sending a call f → exec .frameSent s =
      .next { s with fcl := { s.fcl with phase := .window a call 16000 } }) ∧
    (s.fcl.phase = .window a call left → exec .replyBegins s =
      .next { s with fcl := { s.fcl with phase := .receiving a call 9600 } }) ∧
    (s.fcl.phase = .window a call left → s.fcl.toPoll = b :: rest → exec .replyWindowExpiry s =
      .next { s with fcl := { s.fcl with
        toPoll := rest
        phase := turn b false } }) ∧
    (s.fcl.phase = .window a call left → s.fcl.toPoll = [] → s.fcl.callDone = false →
      s.fcl.nodes[s.fcl.callPointer].state = .absent → exec .replyWindowExpiry s =
      .next { s with fcl := { s.fcl with
        callDone := true
        callPointer := s.fcl.callPointer + 1
        phase := turn s.fcl.callPointer true } }) ∧
    (∀ chars : List LineChar, s.fcl.phase = .receiving a call left → s.fcl.toPoll = b :: rest →
      replyValid a chars = false →
      let t := { s with fcl := { s.fcl with
        nodes := s.fcl.nodes.set a { s.node a with discarded := min 255 ((s.node a).discarded + 1) }
        toPoll := rest
        phase := turn b false } }
      exec (.replyReceived chars) s = .next t ∧ exec .receptionTimeout s = .next t)

/-- A valid reply (R39 to R41): what makes it valid, and the node's counts and state; its reports are taken, the
evaluations they call for follow (R92), and the round goes on. That the evaluations are taken before the next frame is
the model's choice (log 11). -/
def Obligations.ValidReplyIsTaken : Prop :=
  (∀ (a : NodeNo) (l : List Byte), replyValid a (l.map fun b => ⟨b, true⟩) = true ↔
    l.length = 26 ∧ l.getD 0 0 = 0xD5#8 ∧ l.getD 1 0 = 3#8 ∧ l.getD 2 0 = BitVec.ofNat 8 (a.val + 1) ∧
      l.drop 24 = crcBytes (l.take 24)) ∧
  (∀ (a : NodeNo) (chars : List LineChar), (∃ x ∈ chars, x.stopOk = false) → replyValid a chars = false) ∧
  (∀ (s : State) (a : NodeNo) (call : Bool) (left : Nat) (chars : List LineChar), s.held = false →
    s.fcl.phase = .receiving a call left → replyValid a chars = true →
    let l := chars.map LineChar.byte
    let restart := (l.getD 3 0).getLsbD 0
    let before := (s.node a).state
    let state : NodeState := if call = true ∧ before = .absent then .joining
      else if call = false ∧ (before = .joining ∨ before = .silent) then .present
      else before
    let report (k : OutletNo) : Report :=
      { closed := (l.getD (4 + 5 * k.val) 0).getLsbD 0
        reset := (l.getD (4 + 5 * k.val) 0).getLsbD 1
        power := (l.getD (5 + 5 * k.val) 0).toNat * 256 + (l.getD (6 + 5 * k.val) 0).toNat
        energy := (l.getD (7 + 5 * k.val) 0).toNat * 256 + (l.getD (8 + 5 * k.val) 0).toNat }
    ∃ heard : State,
      exec (.replyReceived chars) s = .next ([0, 1, 2, 3].foldl (fun (t : State) (k : OutletNo) =>
        t.takeReport restart ⟨a, k⟩ (report k)) heard).settle.nextFrame.settle ∧
      heard.node a = { s.node a with
        state := state
        valid := min 65535 ((s.node a).valid + 1)
        replied := true
        missed := 0
        failsafe := if (l.getD 3 0).getLsbD 1 = true then min 255 ((s.node a).failsafe + 1)
          else (s.node a).failsafe } ∧
      (∀ k : NodeNo, k ≠ a → heard.node k = s.node k) ∧
      (∀ o : OutletId, heard.outlet o = if restart = true ∧ o.node = a then { s.outlet o with answered := false }
        else s.outlet o) ∧
      (before = .joining → call = false → heard.flag .nodeJoined = true) ∧
      (state = .present → before ≠ .present → heard.rsv.due = true) ∧
      heard = { s with fcl := { s.fcl with nodes := heard.fcl.nodes, outlets := heard.fcl.outlets },
                       rsv := { s.rsv with due := heard.rsv.due }, svl := { s.svl with flags := heard.svl.flags } })

/-- One outlet report at its record (R22 to R26, R113), its record and binding reading without an error and no reset
handshake to make: the energy and the reading, the trip over the cap, the node restart, the open and the closed
watches, the retirement that ends, and the restoration that is confirmed. The reset handshake of an outlet (R5, R27,
R40): a flag not answered is answered, and a TRIPPED record whose cool-off has ended becomes SHED, or QUOTA_OUT; a
flag taken back clears the mark. -/
def Obligations.OutletReportIsTaken : Prop :=
  (∀ (s : State) (restart : Bool) (o : OutletId) (r : Report) (n : RecNo), s.mapReads o → s.boundTo o = some n →
     s.reads n → s.recState n ≠ .vacant → s.quotaLaw → r.reset = (s.outlet o).answered →
     (s.terms n).outlet = some o → s.recState n ≠ .suspect → r.energy < 65536 →
     let t := s.takeReport restart o r
     let before := s.recState n
     let d : Nat := match (s.work n).baseline with
       | none => 0
       | some b => if restart = true ∨ 1000 < (r.energy + 65536 - b) % 65536 then 0 else (r.energy + 65536 - b) % 65536
     let spent : Bool := match (s.terms n).quota with
       | some q => decide (q ≤ min 65535 ((s.account n).today + d))
       | none => false
     let overCap : Bool := decide ((s.terms n).cap < min 16000 r.power)
     let disobeys : Bool := r.closed && !(s.outlet o).closed
     (∀ k : RecNo, k ≠ n → s.recordKept t k) ∧ (∀ p : OutletId, p ≠ o → t.outlet p = s.outlet p) ∧
     (¬(before = .retiring ∧ r.closed = false) → s.nva.map = t.nva.map ∧
       (t.account n).today = (if d = 0 then (s.account n).today else min 65535 ((s.account n).today + d)) ∧
       (t.work n).baseline = some r.energy ∧ (t.work n).reading = some (min 16000 r.power) ∧ (t.work n).fresh = true ∧
       ((t.account n).wh + 1000 * (t.account n).kwh) % 1000000000 =
         ((s.account n).wh + d + 1000 * (s.account n).kwh) % 1000000000) ∧
     ((before = .live ∨ before = .restoring ∨ before = .shed) → spent = true → t.recState n = .quotaOut ∧
       (t.outlet o).closed = false) ∧
     (before = .live → spent = false → restart = true → t.recState n = .shed ∧ (t.work n).holdoff = 0 ∧
       (t.account n).cause = some .unexpectedOpen ∧ (t.account n).recent = (s.account n).recent ∧
       (t.outlet o).closed = false) ∧
     (before = .live → spent = false → restart = false → overCap = true →
       (s.svl.settings.tripCount ≤ (s.work n).overRun + 1 → t.recState n = .tripped ∧
         (t.work n).cooloff = s.svl.settings.tripCooloff ∧ (t.work n).preShed = none ∧ (t.outlet o).closed = false)) ∧
     (before = .live → spent = false → restart = false →
       (overCap = false ∨ (s.work n).overRun + 1 < s.svl.settings.tripCount) →
       (s.outlet o).closed = true → r.closed = false → 1 ≤ (s.work n).openRun →
       t.recState n = .shed ∧ (t.account n).cause = some .unexpectedOpen ∧
       (t.work n).preShed = (if (s.work n).fresh = true then (s.work n).reading else none) ∧
       (t.work n).holdoff = min 160 (s.svl.settings.holdoff * 2 ^ (min 4 ((s.account n).recent + 1) - 1))) ∧
     (before = .live → spent = false → restart = false →
       (overCap = false ∨ (s.work n).overRun + 1 < s.svl.settings.tripCount) → (s.outlet o).closed = true →
       (r.closed = true ∨ (s.work n).openRun = 0) →
       t.recState n = .live ∧ (t.work n).overRun = (if overCap = true then (s.work n).overRun + 1 else 0) ∧
       (t.work n).openRun = (if r.closed = true then 0 else 1) ∧ t.outlet o = s.outlet o) ∧
     (before ≠ .live → disobeys = true → (s.work n).closedRun = 2 → t.flag .nodeDisobeys = true) ∧
     (before = .retiring → r.closed = false → t.nva.slots[n] = Slot.vacant ∧ t.boundTo o = none) ∧
     (before = .restoring → spent = false → r.closed = true → t.recState n = .live ∧ (t.work n).liveTimer = 0 ∧
       (t.work n).overRun = 0 ∧ (t.work n).openRun = 0 ∧ t.holds (.allotment n) = false ∧
       ∀ e ∈ t.sld.watch, e.record ≠ n) ∧
     (before = .restoring → spent = false → r.closed = false → t.recState n = .restoring)) ∧
  (∀ (s : State) (o : OutletId) (bound : Option RecNo) (flag : Bool),
     (flag = (s.outlet o).answered → s.answerReset o bound flag = s) ∧
     (flag = false → (s.outlet o).answered = true →
       s.answerReset o bound flag = s.modOutlet o fun x => { x with answered := false }) ∧
     (flag = true → (s.outlet o).answered = false →
       ((s.answerReset o bound flag).outlet o).answered = true ∧
       (bound = none → s.answerReset o bound flag = s.modOutlet o fun x => { x with answered := true }) ∧
       (∀ n, bound = some n → (s.recState n ≠ .tripped ∨ (s.work n).cooloff ≠ 0) →
         s.answerReset o bound flag = s.modOutlet o fun x => { x with answered := true }) ∧
       (∀ n, bound = some n → s.recState n = .tripped → (s.work n).cooloff = 0 →
         (s.answerReset o bound flag).terms n = { s.terms n with
           state := if s.quotaSpent n = true then .quotaOut else .shed } ∧
         (s.quotaSpent n = false → ((s.answerReset o bound flag).work n).holdoff = 0))))

/-- The round end (R10, R16, R41 to R43, R92, R96, R114, R116), where every section reads without an error: the nodes
that did not reply, with the RETIRING records of one that enters SILENT, the fresh flags, the staged sets with the
essential mark that an applied class sets or clears on the outlet of a LIVE or RESTORING record and the sheds of R116
in WATER-SHORT, the restorations not confirmed in three rounds, and the allowance. No order changes but by a shed.
Were two such records to name one outlet, which R2 rules out, the later in number order would set its mark. -/
def Obligations.RoundEndDoesItsFiveParts : Prop :=
  ∀ (s : State) (a : NodeNo) (call : Bool) (left : Nat), s.held = false → s.allRead → (∀ o, s.mapReads o) →
    s.fcl.phase = .window a call left → s.fcl.toPoll = [] → s.fcl.callDone = true → s.fcl.pollList.Nodup →
    s.reserveLaw →
    ∃ mid : State, exec .replyWindowExpiry s = .next mid.settle ∧
      mid.fcl.phase = .idle ∧ mid.rsv.allowanceUsed = false ∧ mid.rsv.due = true ∧
      (∀ k : NodeNo, mid.node k =
        let x := s.node k
        if k ∉ s.fcl.pollList ∨ x.replied = true then x
        else match x.state with
          | .joining => { x with
              state := .absent
              missed := 0 }
          | .present => { x with
              missed := min 3 (x.missed + 1)
              state := if 2 ≤ x.missed then .silent else .present }
          | _ => x) ∧
      ((∃ k ∈ s.fcl.pollList, (s.node k).replied = false ∧ (s.node k).state = .present ∧ 2 ≤ (s.node k).missed) →
        mid.flag .nodeSilent = true) ∧
      (∀ n : RecNo, s.recState n ≠ .vacant → s.recState n ≠ .retiring →
        (s.recState n ≠ .suspect → (mid.terms n).cls = ((s.terms n).stagedClass.orElse fun _ => (s.terms n).cls) ∧
          (mid.terms n).rank = (s.terms n).stagedRank.getD (s.terms n).rank) ∧
        (mid.terms n).stagedClass = none ∧ (mid.terms n).stagedRank = none ∧
        (let sheds : Bool := s.plant == .waterShort && s.supplied n && (s.terms n).stagedClass == some .deferrable &&
           (s.terms n).cls != some .deferrable
         (sheds = true →
           mid.recState n = (if s.quotaSpent n = true then .quotaOut else .shed) ∧ mid.holds (.allotment n) = false ∧
           (∀ o, (s.terms n).outlet = some o →
             mid.outlet o = { s.outlet o with closed := false, essential := false }) ∧
           (s.quotaSpent n = true → mid.account n = s.account n) ∧
           (s.quotaSpent n = false →
             mid.account n = { s.account n with
               cause := some .waterShort
               recent := min 4 ((s.account n).recent + 1) } ∧
             (mid.work n).holdoff =
               ShedKind.holdoff .plain s.svl.settings.holdoff (min 4 ((s.account n).recent + 1)))) ∧
         (sheds = false →
          (s.recState n ≠ .restoring → mid.recState n = s.recState n ∧ mid.account n = s.account n) ∧
          (∀ e ∈ s.sld.watch, e.record = n → s.recState n = .restoring →
            (e.rounds < 2 → mid.recState n = .restoring ∧ ⟨n, e.rounds + 1⟩ ∈ mid.sld.watch) ∧
            (2 ≤ e.rounds → s.quotaSpent n = false → mid.recState n = .shed ∧
              (mid.account n).cause = some .restoreFail ∧ mid.holds (.allotment n) = false ∧
              (mid.work n).holdoff =
                ShedKind.holdoff .cancel s.svl.settings.holdoff (min 4 ((s.account n).recent + 1))))))) ∧
      ((∀ (n : RecNo) (o : OutletId), (s.terms n).outlet = some o → s.supplied n = true → mid.supplied n = false →
         mid.outlet o = { s.outlet o with closed := false, essential := false }) ∧
       (∀ (n : RecNo) (o : OutletId) (c : AllotClass), (s.terms n).outlet = some o → s.supplied n = true →
         (s.terms n).stagedClass = some c →
         (∀ m : RecNo, (s.terms m).outlet = some o → s.supplied m = true → mid.supplied m = true) →
         (∀ m : RecNo, n < m → (s.terms m).outlet = some o → s.supplied m = true → (s.terms m).stagedClass = none) →
         mid.outlet o = { s.outlet o with essential := decide (c = .essential) }) ∧
       (∀ o : OutletId, (∀ m : RecNo, (s.terms m).outlet = some o → s.supplied m = true →
           (s.terms m).stagedClass = none ∧ mid.supplied m = true) →
         mid.outlet o = s.outlet o)) ∧
      (∀ (o : OutletId) (n : RecNo), s.boundTo o = some n → s.recState n = .retiring → o.node ∈ s.fcl.pollList →
        (s.node o.node).replied = false → (s.node o.node).state = .present → 2 ≤ (s.node o.node).missed →
        mid.nva.slots[n] = Slot.vacant ∧ mid.boundTo o = none) ∧
      (∀ (o : OutletId) (n : RecNo), s.boundTo o = some n → (s.node o.node).replied = false →
        (mid.work n).fresh = false)

/-! ## The Reserve Unit (chapter 5) -/

/-- The importance key (R91): class, then rank and number or station number; it orders every two holders of a list, so
the claim list has one head whenever it is not empty, and the ladder is ordered by the same key. -/
def Obligations.ImportanceKeyOrdersClaims : Prop :=
  (∀ c d : AllotClass, c.order < d.order ↔ (c, d) ∈ [(AllotClass.essential, AllotClass.publicLoad),
    (.essential, .domestic), (.essential, .deferrable), (.publicLoad, .domestic), (.publicLoad, .deferrable),
    (.domestic, .deferrable)]) ∧
  (∀ (s : State) (n m : RecNo) (c d : AllotClass), (s.terms n).cls = some c → (s.terms m).cls = some d →
    (Key.before (s.key (.allotment n)) (s.key (.allotment m)) = true ↔
      c.order < d.order ∨ (c = d ∧ ((s.terms n).rank < (s.terms m).rank ∨
        ((s.terms n).rank = (s.terms m).rank ∧ n < m))))) ∧
  (∀ (s : State) (i j : StationNo), Key.before (s.key (.station i)) (s.key (.station j)) = true ↔ i < j) ∧
  (∀ (s : State) (n : RecNo) (c : AllotClass) (i : StationNo), (s.terms n).cls = some c →
    (Key.before (s.key (.allotment n)) (s.key (.station i)) = true ↔ c ≠ .deferrable) ∧
    (Key.before (s.key (.station i)) (s.key (.allotment n)) = true ↔ c = .deferrable)) ∧
  (∀ (s : State) (g h : Holder), (∀ n, g = .allotment n ∨ h = .allotment n → ∃ c, (s.terms n).cls = some c) → g ≠ h →
    (Key.before (s.key g) (s.key h) = true ↔ ¬ Key.before (s.key h) (s.key g) = true)) ∧
  (∀ s : State, s.claims ≠ [] → ∃ h, s.head = some h) ∧
  (∀ (s : State) (h : Holder), s.head = some h ↔
    h ∈ s.claims ∧ ∀ g ∈ s.claims, g ≠ h → Key.before (s.key h) (s.key g) = true) ∧
  (∀ (s : State) (h : Holder), s.leastImportant s.ladder = some h ↔
    h ∈ s.ladder ∧ ∀ g ∈ s.ladder, g ≠ h → Key.before (s.key g) (s.key h) = true)

/-- An evaluation (R89, R90, R92 to R95, R112, R127), where every section reads without an error: who claims, what the
head needs, when it is granted, and what a grant does at its owner. The evaluations an event calls for end, with none
left to take (R92; log 11), and touch no frequency, governor, plant or settings; with none due the state is as it was.
-/
def Obligations.EvaluationsGrantTheHeadAndEnd : Prop :=
  (∀ s : State, s.allRead →
     (∀ n : RecNo, Holder.allotment n ∈ s.claims ↔ s.recState n = .shed ∧ (s.work n).holdoff = 0 ∧
       (∃ o, (s.terms n).outlet = some o ∧ (s.node o.node).state = .present) ∧
       ∃ c, (s.terms n).cls = some c ∧
         (s.plant = .onLine ∨ (s.plant = .waterShort ∧ (c = .essential ∨ c = .publicLoad)))) ∧
     (∀ i : StationNo, Holder.station i ∈ s.claims ↔ (s.station i).state = .waiting ∧ s.plant = .onLine) ∧
     (s.head = none → s.evaluate = s) ∧
     (∀ h, s.head = some h →
       let base : Nat := match h with
         | .allotment n => max 100 ((s.work n).preShed.getD (s.terms n).cap)
         | .station i => s.svl.settings.sawDraw[i]
       let margin : Nat := match h with
         | .allotment _ => s.svl.settings.restoreMargin
         | .station _ => s.svl.settings.sawMargin
       let granted : Bool := s.fsu.freqValid &&
         decide (((s.fsu.freq : Int) - s.svl.settings.fset).natAbs ≤ s.svl.settings.restoreBand) &&
         !(s.rsv.table.any fun e => match e.holder with | .station _ => true | _ => false) && s.sld.pause.isNone &&
         decide (((base + margin : Nat) : Int) ≤ (s.bgv.reserve : Int) - ((s.rsv.table.map Reservation.amount).sum : Nat)) &&
         decide (s.rsv.table.length < 8) &&
         (match h with | .allotment _ => !s.rsv.allowanceUsed | .station _ => true)
       (granted = false → s.evaluate = s) ∧
       (granted = true →
         s.evaluate.rsv.table = s.rsv.table ++ [⟨h, base⟩] ∧
         s.evaluate.rsv.allowanceUsed = (match h with | .allotment _ => true | .station _ => s.rsv.allowanceUsed) ∧
         (∀ n, h = .allotment n →
           s.evaluate.terms n = { s.terms n with state := .restoring } ∧ s.evaluate.account n = s.account n ∧
           (s.evaluate.work n).preShed = (s.work n).preShed ∧ s.evaluate.sld.watch = s.sld.watch ++ [⟨n, 0⟩] ∧
           (∀ k : RecNo, k ≠ n → s.recordKept s.evaluate k) ∧
           (∀ o : OutletId, s.evaluate.outlet o = if (s.terms n).outlet = some o then
             { s.outlet o with
               closed := true
               essential := decide ((s.terms n).cls = some .essential) }
             else s.outlet o) ∧ s.evaluate.spu = s.spu) ∧
         (∀ i, h = .station i →
           (∀ j : StationNo, s.evaluate.station j = if j = i then { s.station i with
             state := .engaging
             refusal := none
             wait := none
             engage := some (s.svl.settings.engageTime * 8000000)
             dip := none
             jam := none
             voltPending := true } else s.station j) ∧
           s.evaluate.nva = s.nva ∧ s.evaluate.atb = s.atb ∧ s.evaluate.fcl = s.fcl ∧ s.evaluate.sld = s.sld)))) ∧
  (∀ s : State, s.settle.calm ∧ (s.calm → s.settle = s) ∧
     s.settle.fsu = s.fsu ∧ s.settle.bgv = s.bgv ∧ s.settle.wgc = s.wgc ∧ s.settle.held = s.held ∧
     s.settle.free = s.free ∧ s.settle.pending = s.pending ∧
     s.settle.svl = { s.svl with flags := s.settle.svl.flags } ∧
     s.settle.fcl = { s.fcl with outlets := s.settle.fcl.outlets } ∧
     s.settle.sld = { s.sld with watch := s.settle.sld.watch } ∧
     s.settle.msq.entries = s.msq.entries ∧ s.settle.nva.plantRecord = s.nva.plantRecord ∧
     s.settle.nva.page = s.nva.page ∧ (∀ i : StationNo, (s.station i).state ≠ .waiting → s.settle.station i = s.station i))

/-! ## Invariants -/

/-- Every step keeps what holds of the frequency, the speeds and the pickup (R52 to R62), and what holds of the
converter, its slots and the reading table (R141 to R154). -/
def Obligations.FrequencyAndConverterLawsAreKept : Prop :=
  (∀ s t : State, s.frequencyLaw → step s = .next t → t.frequencyLaw) ∧
  (∀ s t : State, s.converterLaw → step s = .next t → t.converterLaw)

/-- Every step keeps what holds of the governor (R67 to R76). -/
def Obligations.GovernorLawIsKept : Prop :=
  ∀ s t : State, s.governorLaw → step s = .next t → t.governorLaw

/-- Every step keeps what holds of the reservation table and the restoration watch (R86 to R96, R112, R126). -/
def Obligations.ReserveLawIsKept : Prop :=
  ∀ s t : State, s.supplyLaw → s.reserveLaw → step s = .next t → t.reserveLaw

/-- Every step keeps what makes the hamlet and the saws safe (R33, R115, R117, R118, R122, R158 to R168). -/
def Obligations.SupplyLawIsKept : Prop :=
  ∀ s t : State, s.reserveLaw → s.supplyLaw → step s = .next t → t.supplyLaw

/-- Every step keeps the quota law (R5). -/
def Obligations.QuotaLawIsKept : Prop :=
  ∀ s t : State, s.quotaLaw → step s = .next t → t.quotaLaw

/-- Every step keeps the settings in their ranges and the gate target at GATE_CEILING or below (R173, R183 to R185).
-/
def Obligations.SettingsLawIsKept : Prop :=
  ∀ s t : State, s.settingsLaw → step s = .next t → t.settingsLaw

/-- The state after the reset of a new installation has every law. -/
def Obligations.ResetStateHasTheLaws : Prop :=
  State.reset.frequencyLaw ∧ State.reset.governorLaw ∧ State.reset.reserveLaw ∧ State.reset.supplyLaw ∧
  State.reset.quotaLaw ∧ State.reset.settingsLaw ∧ State.reset.converterLaw
end

