-- ==== Sys2Proof/Laws/State.lean ====
section
/-! SUPPORT. One lemma for each field under each update of State, and for each accessor under each update that does not
touch its block; all true by rfl. The accessors under their own updates follow. -/

namespace Sys2Proof.Machine

variable (s : State)

/-! ## modNva -/

@[simp] theorem State.modNva_nva (f : Nva → Nva) : (s.modNva f).nva = f s.nva := rfl
@[simp] theorem State.modNva_atb (f : Nva → Nva) : (s.modNva f).atb = s.atb := rfl
@[simp] theorem State.modNva_fcl (f : Nva → Nva) : (s.modNva f).fcl = s.fcl := rfl
@[simp] theorem State.modNva_fsu (f : Nva → Nva) : (s.modNva f).fsu = s.fsu := rfl
@[simp] theorem State.modNva_bgv (f : Nva → Nva) : (s.modNva f).bgv = s.bgv := rfl
@[simp] theorem State.modNva_rsv (f : Nva → Nva) : (s.modNva f).rsv = s.rsv := rfl
@[simp] theorem State.modNva_sld (f : Nva → Nva) : (s.modNva f).sld = s.sld := rfl
@[simp] theorem State.modNva_spu (f : Nva → Nva) : (s.modNva f).spu = s.spu := rfl
@[simp] theorem State.modNva_msq (f : Nva → Nva) : (s.modNva f).msq = s.msq := rfl
@[simp] theorem State.modNva_wgc (f : Nva → Nva) : (s.modNva f).wgc = s.wgc := rfl
@[simp] theorem State.modNva_svl (f : Nva → Nva) : (s.modNva f).svl = s.svl := rfl
@[simp] theorem State.modNva_held (f : Nva → Nva) : (s.modNva f).held = s.held := rfl
@[simp] theorem State.modNva_free (f : Nva → Nva) : (s.modNva f).free = s.free := rfl
@[simp] theorem State.modNva_pending (f : Nva → Nva) : (s.modNva f).pending = s.pending := rfl

/-! ## modAtb -/

@[simp] theorem State.modAtb_nva (f : Vector Working 64 → Vector Working 64) : (s.modAtb f).nva = s.nva := rfl
@[simp] theorem State.modAtb_atb (f : Vector Working 64 → Vector Working 64) : (s.modAtb f).atb = f s.atb := rfl
@[simp] theorem State.modAtb_fcl (f : Vector Working 64 → Vector Working 64) : (s.modAtb f).fcl = s.fcl := rfl
@[simp] theorem State.modAtb_fsu (f : Vector Working 64 → Vector Working 64) : (s.modAtb f).fsu = s.fsu := rfl
@[simp] theorem State.modAtb_bgv (f : Vector Working 64 → Vector Working 64) : (s.modAtb f).bgv = s.bgv := rfl
@[simp] theorem State.modAtb_rsv (f : Vector Working 64 → Vector Working 64) : (s.modAtb f).rsv = s.rsv := rfl
@[simp] theorem State.modAtb_sld (f : Vector Working 64 → Vector Working 64) : (s.modAtb f).sld = s.sld := rfl
@[simp] theorem State.modAtb_spu (f : Vector Working 64 → Vector Working 64) : (s.modAtb f).spu = s.spu := rfl
@[simp] theorem State.modAtb_msq (f : Vector Working 64 → Vector Working 64) : (s.modAtb f).msq = s.msq := rfl
@[simp] theorem State.modAtb_wgc (f : Vector Working 64 → Vector Working 64) : (s.modAtb f).wgc = s.wgc := rfl
@[simp] theorem State.modAtb_svl (f : Vector Working 64 → Vector Working 64) : (s.modAtb f).svl = s.svl := rfl
@[simp] theorem State.modAtb_held (f : Vector Working 64 → Vector Working 64) : (s.modAtb f).held = s.held := rfl
@[simp] theorem State.modAtb_free (f : Vector Working 64 → Vector Working 64) : (s.modAtb f).free = s.free := rfl
@[simp] theorem State.modAtb_pending (f : Vector Working 64 → Vector Working 64) : (s.modAtb f).pending = s.pending := rfl

/-! ## modFcl -/

@[simp] theorem State.modFcl_nva (f : Fcl → Fcl) : (s.modFcl f).nva = s.nva := rfl
@[simp] theorem State.modFcl_atb (f : Fcl → Fcl) : (s.modFcl f).atb = s.atb := rfl
@[simp] theorem State.modFcl_fcl (f : Fcl → Fcl) : (s.modFcl f).fcl = f s.fcl := rfl
@[simp] theorem State.modFcl_fsu (f : Fcl → Fcl) : (s.modFcl f).fsu = s.fsu := rfl
@[simp] theorem State.modFcl_bgv (f : Fcl → Fcl) : (s.modFcl f).bgv = s.bgv := rfl
@[simp] theorem State.modFcl_rsv (f : Fcl → Fcl) : (s.modFcl f).rsv = s.rsv := rfl
@[simp] theorem State.modFcl_sld (f : Fcl → Fcl) : (s.modFcl f).sld = s.sld := rfl
@[simp] theorem State.modFcl_spu (f : Fcl → Fcl) : (s.modFcl f).spu = s.spu := rfl
@[simp] theorem State.modFcl_msq (f : Fcl → Fcl) : (s.modFcl f).msq = s.msq := rfl
@[simp] theorem State.modFcl_wgc (f : Fcl → Fcl) : (s.modFcl f).wgc = s.wgc := rfl
@[simp] theorem State.modFcl_svl (f : Fcl → Fcl) : (s.modFcl f).svl = s.svl := rfl
@[simp] theorem State.modFcl_held (f : Fcl → Fcl) : (s.modFcl f).held = s.held := rfl
@[simp] theorem State.modFcl_free (f : Fcl → Fcl) : (s.modFcl f).free = s.free := rfl
@[simp] theorem State.modFcl_pending (f : Fcl → Fcl) : (s.modFcl f).pending = s.pending := rfl

/-! ## modFsu -/

@[simp] theorem State.modFsu_nva (f : Fsu → Fsu) : (s.modFsu f).nva = s.nva := rfl
@[simp] theorem State.modFsu_atb (f : Fsu → Fsu) : (s.modFsu f).atb = s.atb := rfl
@[simp] theorem State.modFsu_fcl (f : Fsu → Fsu) : (s.modFsu f).fcl = s.fcl := rfl
@[simp] theorem State.modFsu_fsu (f : Fsu → Fsu) : (s.modFsu f).fsu = f s.fsu := rfl
@[simp] theorem State.modFsu_bgv (f : Fsu → Fsu) : (s.modFsu f).bgv = s.bgv := rfl
@[simp] theorem State.modFsu_rsv (f : Fsu → Fsu) : (s.modFsu f).rsv = s.rsv := rfl
@[simp] theorem State.modFsu_sld (f : Fsu → Fsu) : (s.modFsu f).sld = s.sld := rfl
@[simp] theorem State.modFsu_spu (f : Fsu → Fsu) : (s.modFsu f).spu = s.spu := rfl
@[simp] theorem State.modFsu_msq (f : Fsu → Fsu) : (s.modFsu f).msq = s.msq := rfl
@[simp] theorem State.modFsu_wgc (f : Fsu → Fsu) : (s.modFsu f).wgc = s.wgc := rfl
@[simp] theorem State.modFsu_svl (f : Fsu → Fsu) : (s.modFsu f).svl = s.svl := rfl
@[simp] theorem State.modFsu_held (f : Fsu → Fsu) : (s.modFsu f).held = s.held := rfl
@[simp] theorem State.modFsu_free (f : Fsu → Fsu) : (s.modFsu f).free = s.free := rfl
@[simp] theorem State.modFsu_pending (f : Fsu → Fsu) : (s.modFsu f).pending = s.pending := rfl

/-! ## modBgv -/

@[simp] theorem State.modBgv_nva (f : Bgv → Bgv) : (s.modBgv f).nva = s.nva := rfl
@[simp] theorem State.modBgv_atb (f : Bgv → Bgv) : (s.modBgv f).atb = s.atb := rfl
@[simp] theorem State.modBgv_fcl (f : Bgv → Bgv) : (s.modBgv f).fcl = s.fcl := rfl
@[simp] theorem State.modBgv_fsu (f : Bgv → Bgv) : (s.modBgv f).fsu = s.fsu := rfl
@[simp] theorem State.modBgv_bgv (f : Bgv → Bgv) : (s.modBgv f).bgv = f s.bgv := rfl
@[simp] theorem State.modBgv_rsv (f : Bgv → Bgv) : (s.modBgv f).rsv = s.rsv := rfl
@[simp] theorem State.modBgv_sld (f : Bgv → Bgv) : (s.modBgv f).sld = s.sld := rfl
@[simp] theorem State.modBgv_spu (f : Bgv → Bgv) : (s.modBgv f).spu = s.spu := rfl
@[simp] theorem State.modBgv_msq (f : Bgv → Bgv) : (s.modBgv f).msq = s.msq := rfl
@[simp] theorem State.modBgv_wgc (f : Bgv → Bgv) : (s.modBgv f).wgc = s.wgc := rfl
@[simp] theorem State.modBgv_svl (f : Bgv → Bgv) : (s.modBgv f).svl = s.svl := rfl
@[simp] theorem State.modBgv_held (f : Bgv → Bgv) : (s.modBgv f).held = s.held := rfl
@[simp] theorem State.modBgv_free (f : Bgv → Bgv) : (s.modBgv f).free = s.free := rfl
@[simp] theorem State.modBgv_pending (f : Bgv → Bgv) : (s.modBgv f).pending = s.pending := rfl

/-! ## modRsv -/

@[simp] theorem State.modRsv_nva (f : Rsv → Rsv) : (s.modRsv f).nva = s.nva := rfl
@[simp] theorem State.modRsv_atb (f : Rsv → Rsv) : (s.modRsv f).atb = s.atb := rfl
@[simp] theorem State.modRsv_fcl (f : Rsv → Rsv) : (s.modRsv f).fcl = s.fcl := rfl
@[simp] theorem State.modRsv_fsu (f : Rsv → Rsv) : (s.modRsv f).fsu = s.fsu := rfl
@[simp] theorem State.modRsv_bgv (f : Rsv → Rsv) : (s.modRsv f).bgv = s.bgv := rfl
@[simp] theorem State.modRsv_rsv (f : Rsv → Rsv) : (s.modRsv f).rsv = f s.rsv := rfl
@[simp] theorem State.modRsv_sld (f : Rsv → Rsv) : (s.modRsv f).sld = s.sld := rfl
@[simp] theorem State.modRsv_spu (f : Rsv → Rsv) : (s.modRsv f).spu = s.spu := rfl
@[simp] theorem State.modRsv_msq (f : Rsv → Rsv) : (s.modRsv f).msq = s.msq := rfl
@[simp] theorem State.modRsv_wgc (f : Rsv → Rsv) : (s.modRsv f).wgc = s.wgc := rfl
@[simp] theorem State.modRsv_svl (f : Rsv → Rsv) : (s.modRsv f).svl = s.svl := rfl
@[simp] theorem State.modRsv_held (f : Rsv → Rsv) : (s.modRsv f).held = s.held := rfl
@[simp] theorem State.modRsv_free (f : Rsv → Rsv) : (s.modRsv f).free = s.free := rfl
@[simp] theorem State.modRsv_pending (f : Rsv → Rsv) : (s.modRsv f).pending = s.pending := rfl

/-! ## modSld -/

@[simp] theorem State.modSld_nva (f : Sld → Sld) : (s.modSld f).nva = s.nva := rfl
@[simp] theorem State.modSld_atb (f : Sld → Sld) : (s.modSld f).atb = s.atb := rfl
@[simp] theorem State.modSld_fcl (f : Sld → Sld) : (s.modSld f).fcl = s.fcl := rfl
@[simp] theorem State.modSld_fsu (f : Sld → Sld) : (s.modSld f).fsu = s.fsu := rfl
@[simp] theorem State.modSld_bgv (f : Sld → Sld) : (s.modSld f).bgv = s.bgv := rfl
@[simp] theorem State.modSld_rsv (f : Sld → Sld) : (s.modSld f).rsv = s.rsv := rfl
@[simp] theorem State.modSld_sld (f : Sld → Sld) : (s.modSld f).sld = f s.sld := rfl
@[simp] theorem State.modSld_spu (f : Sld → Sld) : (s.modSld f).spu = s.spu := rfl
@[simp] theorem State.modSld_msq (f : Sld → Sld) : (s.modSld f).msq = s.msq := rfl
@[simp] theorem State.modSld_wgc (f : Sld → Sld) : (s.modSld f).wgc = s.wgc := rfl
@[simp] theorem State.modSld_svl (f : Sld → Sld) : (s.modSld f).svl = s.svl := rfl
@[simp] theorem State.modSld_held (f : Sld → Sld) : (s.modSld f).held = s.held := rfl
@[simp] theorem State.modSld_free (f : Sld → Sld) : (s.modSld f).free = s.free := rfl
@[simp] theorem State.modSld_pending (f : Sld → Sld) : (s.modSld f).pending = s.pending := rfl

/-! ## modSpu -/

@[simp] theorem State.modSpu_nva (f : Vector Station 3 → Vector Station 3) : (s.modSpu f).nva = s.nva := rfl
@[simp] theorem State.modSpu_atb (f : Vector Station 3 → Vector Station 3) : (s.modSpu f).atb = s.atb := rfl
@[simp] theorem State.modSpu_fcl (f : Vector Station 3 → Vector Station 3) : (s.modSpu f).fcl = s.fcl := rfl
@[simp] theorem State.modSpu_fsu (f : Vector Station 3 → Vector Station 3) : (s.modSpu f).fsu = s.fsu := rfl
@[simp] theorem State.modSpu_bgv (f : Vector Station 3 → Vector Station 3) : (s.modSpu f).bgv = s.bgv := rfl
@[simp] theorem State.modSpu_rsv (f : Vector Station 3 → Vector Station 3) : (s.modSpu f).rsv = s.rsv := rfl
@[simp] theorem State.modSpu_sld (f : Vector Station 3 → Vector Station 3) : (s.modSpu f).sld = s.sld := rfl
@[simp] theorem State.modSpu_spu (f : Vector Station 3 → Vector Station 3) : (s.modSpu f).spu = f s.spu := rfl
@[simp] theorem State.modSpu_msq (f : Vector Station 3 → Vector Station 3) : (s.modSpu f).msq = s.msq := rfl
@[simp] theorem State.modSpu_wgc (f : Vector Station 3 → Vector Station 3) : (s.modSpu f).wgc = s.wgc := rfl
@[simp] theorem State.modSpu_svl (f : Vector Station 3 → Vector Station 3) : (s.modSpu f).svl = s.svl := rfl
@[simp] theorem State.modSpu_held (f : Vector Station 3 → Vector Station 3) : (s.modSpu f).held = s.held := rfl
@[simp] theorem State.modSpu_free (f : Vector Station 3 → Vector Station 3) : (s.modSpu f).free = s.free := rfl
@[simp] theorem State.modSpu_pending (f : Vector Station 3 → Vector Station 3) : (s.modSpu f).pending = s.pending := rfl

/-! ## modMsq -/

@[simp] theorem State.modMsq_nva (f : Msq → Msq) : (s.modMsq f).nva = s.nva := rfl
@[simp] theorem State.modMsq_atb (f : Msq → Msq) : (s.modMsq f).atb = s.atb := rfl
@[simp] theorem State.modMsq_fcl (f : Msq → Msq) : (s.modMsq f).fcl = s.fcl := rfl
@[simp] theorem State.modMsq_fsu (f : Msq → Msq) : (s.modMsq f).fsu = s.fsu := rfl
@[simp] theorem State.modMsq_bgv (f : Msq → Msq) : (s.modMsq f).bgv = s.bgv := rfl
@[simp] theorem State.modMsq_rsv (f : Msq → Msq) : (s.modMsq f).rsv = s.rsv := rfl
@[simp] theorem State.modMsq_sld (f : Msq → Msq) : (s.modMsq f).sld = s.sld := rfl
@[simp] theorem State.modMsq_spu (f : Msq → Msq) : (s.modMsq f).spu = s.spu := rfl
@[simp] theorem State.modMsq_msq (f : Msq → Msq) : (s.modMsq f).msq = f s.msq := rfl
@[simp] theorem State.modMsq_wgc (f : Msq → Msq) : (s.modMsq f).wgc = s.wgc := rfl
@[simp] theorem State.modMsq_svl (f : Msq → Msq) : (s.modMsq f).svl = s.svl := rfl
@[simp] theorem State.modMsq_held (f : Msq → Msq) : (s.modMsq f).held = s.held := rfl
@[simp] theorem State.modMsq_free (f : Msq → Msq) : (s.modMsq f).free = s.free := rfl
@[simp] theorem State.modMsq_pending (f : Msq → Msq) : (s.modMsq f).pending = s.pending := rfl

/-! ## modWgc -/

@[simp] theorem State.modWgc_nva (f : Wgc → Wgc) : (s.modWgc f).nva = s.nva := rfl
@[simp] theorem State.modWgc_atb (f : Wgc → Wgc) : (s.modWgc f).atb = s.atb := rfl
@[simp] theorem State.modWgc_fcl (f : Wgc → Wgc) : (s.modWgc f).fcl = s.fcl := rfl
@[simp] theorem State.modWgc_fsu (f : Wgc → Wgc) : (s.modWgc f).fsu = s.fsu := rfl
@[simp] theorem State.modWgc_bgv (f : Wgc → Wgc) : (s.modWgc f).bgv = s.bgv := rfl
@[simp] theorem State.modWgc_rsv (f : Wgc → Wgc) : (s.modWgc f).rsv = s.rsv := rfl
@[simp] theorem State.modWgc_sld (f : Wgc → Wgc) : (s.modWgc f).sld = s.sld := rfl
@[simp] theorem State.modWgc_spu (f : Wgc → Wgc) : (s.modWgc f).spu = s.spu := rfl
@[simp] theorem State.modWgc_msq (f : Wgc → Wgc) : (s.modWgc f).msq = s.msq := rfl
@[simp] theorem State.modWgc_wgc (f : Wgc → Wgc) : (s.modWgc f).wgc = f s.wgc := rfl
@[simp] theorem State.modWgc_svl (f : Wgc → Wgc) : (s.modWgc f).svl = s.svl := rfl
@[simp] theorem State.modWgc_held (f : Wgc → Wgc) : (s.modWgc f).held = s.held := rfl
@[simp] theorem State.modWgc_free (f : Wgc → Wgc) : (s.modWgc f).free = s.free := rfl
@[simp] theorem State.modWgc_pending (f : Wgc → Wgc) : (s.modWgc f).pending = s.pending := rfl

/-! ## modSvl -/

@[simp] theorem State.modSvl_nva (f : Svl → Svl) : (s.modSvl f).nva = s.nva := rfl
@[simp] theorem State.modSvl_atb (f : Svl → Svl) : (s.modSvl f).atb = s.atb := rfl
@[simp] theorem State.modSvl_fcl (f : Svl → Svl) : (s.modSvl f).fcl = s.fcl := rfl
@[simp] theorem State.modSvl_fsu (f : Svl → Svl) : (s.modSvl f).fsu = s.fsu := rfl
@[simp] theorem State.modSvl_bgv (f : Svl → Svl) : (s.modSvl f).bgv = s.bgv := rfl
@[simp] theorem State.modSvl_rsv (f : Svl → Svl) : (s.modSvl f).rsv = s.rsv := rfl
@[simp] theorem State.modSvl_sld (f : Svl → Svl) : (s.modSvl f).sld = s.sld := rfl
@[simp] theorem State.modSvl_spu (f : Svl → Svl) : (s.modSvl f).spu = s.spu := rfl
@[simp] theorem State.modSvl_msq (f : Svl → Svl) : (s.modSvl f).msq = s.msq := rfl
@[simp] theorem State.modSvl_wgc (f : Svl → Svl) : (s.modSvl f).wgc = s.wgc := rfl
@[simp] theorem State.modSvl_svl (f : Svl → Svl) : (s.modSvl f).svl = f s.svl := rfl
@[simp] theorem State.modSvl_held (f : Svl → Svl) : (s.modSvl f).held = s.held := rfl
@[simp] theorem State.modSvl_free (f : Svl → Svl) : (s.modSvl f).free = s.free := rfl
@[simp] theorem State.modSvl_pending (f : Svl → Svl) : (s.modSvl f).pending = s.pending := rfl

/-! ## Accessors under updates of other blocks -/

@[simp] theorem State.modAtb_terms (f : Vector Working 64 → Vector Working 64) (n : RecNo) :
    (s.modAtb f).terms n = s.terms n := rfl
@[simp] theorem State.modFcl_terms (f : Fcl → Fcl) (n : RecNo) :
    (s.modFcl f).terms n = s.terms n := rfl
@[simp] theorem State.modFsu_terms (f : Fsu → Fsu) (n : RecNo) :
    (s.modFsu f).terms n = s.terms n := rfl
@[simp] theorem State.modBgv_terms (f : Bgv → Bgv) (n : RecNo) :
    (s.modBgv f).terms n = s.terms n := rfl
@[simp] theorem State.modRsv_terms (f : Rsv → Rsv) (n : RecNo) :
    (s.modRsv f).terms n = s.terms n := rfl
@[simp] theorem State.modSld_terms (f : Sld → Sld) (n : RecNo) :
    (s.modSld f).terms n = s.terms n := rfl
@[simp] theorem State.modSpu_terms (f : Vector Station 3 → Vector Station 3) (n : RecNo) :
    (s.modSpu f).terms n = s.terms n := rfl
@[simp] theorem State.modMsq_terms (f : Msq → Msq) (n : RecNo) :
    (s.modMsq f).terms n = s.terms n := rfl
@[simp] theorem State.modWgc_terms (f : Wgc → Wgc) (n : RecNo) :
    (s.modWgc f).terms n = s.terms n := rfl
@[simp] theorem State.modSvl_terms (f : Svl → Svl) (n : RecNo) :
    (s.modSvl f).terms n = s.terms n := rfl
@[simp] theorem State.modAtb_account (f : Vector Working 64 → Vector Working 64) (n : RecNo) :
    (s.modAtb f).account n = s.account n := rfl
@[simp] theorem State.modFcl_account (f : Fcl → Fcl) (n : RecNo) :
    (s.modFcl f).account n = s.account n := rfl
@[simp] theorem State.modFsu_account (f : Fsu → Fsu) (n : RecNo) :
    (s.modFsu f).account n = s.account n := rfl
@[simp] theorem State.modBgv_account (f : Bgv → Bgv) (n : RecNo) :
    (s.modBgv f).account n = s.account n := rfl
@[simp] theorem State.modRsv_account (f : Rsv → Rsv) (n : RecNo) :
    (s.modRsv f).account n = s.account n := rfl
@[simp] theorem State.modSld_account (f : Sld → Sld) (n : RecNo) :
    (s.modSld f).account n = s.account n := rfl
@[simp] theorem State.modSpu_account (f : Vector Station 3 → Vector Station 3) (n : RecNo) :
    (s.modSpu f).account n = s.account n := rfl
@[simp] theorem State.modMsq_account (f : Msq → Msq) (n : RecNo) :
    (s.modMsq f).account n = s.account n := rfl
@[simp] theorem State.modWgc_account (f : Wgc → Wgc) (n : RecNo) :
    (s.modWgc f).account n = s.account n := rfl
@[simp] theorem State.modSvl_account (f : Svl → Svl) (n : RecNo) :
    (s.modSvl f).account n = s.account n := rfl
@[simp] theorem State.modAtb_recState (f : Vector Working 64 → Vector Working 64) (n : RecNo) :
    (s.modAtb f).recState n = s.recState n := rfl
@[simp] theorem State.modFcl_recState (f : Fcl → Fcl) (n : RecNo) :
    (s.modFcl f).recState n = s.recState n := rfl
@[simp] theorem State.modFsu_recState (f : Fsu → Fsu) (n : RecNo) :
    (s.modFsu f).recState n = s.recState n := rfl
@[simp] theorem State.modBgv_recState (f : Bgv → Bgv) (n : RecNo) :
    (s.modBgv f).recState n = s.recState n := rfl
@[simp] theorem State.modRsv_recState (f : Rsv → Rsv) (n : RecNo) :
    (s.modRsv f).recState n = s.recState n := rfl
@[simp] theorem State.modSld_recState (f : Sld → Sld) (n : RecNo) :
    (s.modSld f).recState n = s.recState n := rfl
@[simp] theorem State.modSpu_recState (f : Vector Station 3 → Vector Station 3) (n : RecNo) :
    (s.modSpu f).recState n = s.recState n := rfl
@[simp] theorem State.modMsq_recState (f : Msq → Msq) (n : RecNo) :
    (s.modMsq f).recState n = s.recState n := rfl
@[simp] theorem State.modWgc_recState (f : Wgc → Wgc) (n : RecNo) :
    (s.modWgc f).recState n = s.recState n := rfl
@[simp] theorem State.modSvl_recState (f : Svl → Svl) (n : RecNo) :
    (s.modSvl f).recState n = s.recState n := rfl
@[simp] theorem State.modAtb_boundTo (f : Vector Working 64 → Vector Working 64) (o : OutletId) :
    (s.modAtb f).boundTo o = s.boundTo o := rfl
@[simp] theorem State.modFcl_boundTo (f : Fcl → Fcl) (o : OutletId) :
    (s.modFcl f).boundTo o = s.boundTo o := rfl
@[simp] theorem State.modFsu_boundTo (f : Fsu → Fsu) (o : OutletId) :
    (s.modFsu f).boundTo o = s.boundTo o := rfl
@[simp] theorem State.modBgv_boundTo (f : Bgv → Bgv) (o : OutletId) :
    (s.modBgv f).boundTo o = s.boundTo o := rfl
@[simp] theorem State.modRsv_boundTo (f : Rsv → Rsv) (o : OutletId) :
    (s.modRsv f).boundTo o = s.boundTo o := rfl
@[simp] theorem State.modSld_boundTo (f : Sld → Sld) (o : OutletId) :
    (s.modSld f).boundTo o = s.boundTo o := rfl
@[simp] theorem State.modSpu_boundTo (f : Vector Station 3 → Vector Station 3) (o : OutletId) :
    (s.modSpu f).boundTo o = s.boundTo o := rfl
@[simp] theorem State.modMsq_boundTo (f : Msq → Msq) (o : OutletId) :
    (s.modMsq f).boundTo o = s.boundTo o := rfl
@[simp] theorem State.modWgc_boundTo (f : Wgc → Wgc) (o : OutletId) :
    (s.modWgc f).boundTo o = s.boundTo o := rfl
@[simp] theorem State.modSvl_boundTo (f : Svl → Svl) (o : OutletId) :
    (s.modSvl f).boundTo o = s.boundTo o := rfl
@[simp] theorem State.modAtb_mapOutlet (f : Vector Working 64 → Vector Working 64) (n : RecNo) :
    (s.modAtb f).mapOutlet n = s.mapOutlet n := rfl
@[simp] theorem State.modFcl_mapOutlet (f : Fcl → Fcl) (n : RecNo) :
    (s.modFcl f).mapOutlet n = s.mapOutlet n := rfl
@[simp] theorem State.modFsu_mapOutlet (f : Fsu → Fsu) (n : RecNo) :
    (s.modFsu f).mapOutlet n = s.mapOutlet n := rfl
@[simp] theorem State.modBgv_mapOutlet (f : Bgv → Bgv) (n : RecNo) :
    (s.modBgv f).mapOutlet n = s.mapOutlet n := rfl
@[simp] theorem State.modRsv_mapOutlet (f : Rsv → Rsv) (n : RecNo) :
    (s.modRsv f).mapOutlet n = s.mapOutlet n := rfl
@[simp] theorem State.modSld_mapOutlet (f : Sld → Sld) (n : RecNo) :
    (s.modSld f).mapOutlet n = s.mapOutlet n := rfl
@[simp] theorem State.modSpu_mapOutlet (f : Vector Station 3 → Vector Station 3) (n : RecNo) :
    (s.modSpu f).mapOutlet n = s.mapOutlet n := rfl
@[simp] theorem State.modMsq_mapOutlet (f : Msq → Msq) (n : RecNo) :
    (s.modMsq f).mapOutlet n = s.mapOutlet n := rfl
@[simp] theorem State.modWgc_mapOutlet (f : Wgc → Wgc) (n : RecNo) :
    (s.modWgc f).mapOutlet n = s.mapOutlet n := rfl
@[simp] theorem State.modSvl_mapOutlet (f : Svl → Svl) (n : RecNo) :
    (s.modSvl f).mapOutlet n = s.mapOutlet n := rfl
@[simp] theorem State.modAtb_outletOf (f : Vector Working 64 → Vector Working 64) (n : RecNo) :
    (s.modAtb f).outletOf n = s.outletOf n := rfl
@[simp] theorem State.modFcl_outletOf (f : Fcl → Fcl) (n : RecNo) :
    (s.modFcl f).outletOf n = s.outletOf n := rfl
@[simp] theorem State.modFsu_outletOf (f : Fsu → Fsu) (n : RecNo) :
    (s.modFsu f).outletOf n = s.outletOf n := rfl
@[simp] theorem State.modBgv_outletOf (f : Bgv → Bgv) (n : RecNo) :
    (s.modBgv f).outletOf n = s.outletOf n := rfl
@[simp] theorem State.modRsv_outletOf (f : Rsv → Rsv) (n : RecNo) :
    (s.modRsv f).outletOf n = s.outletOf n := rfl
@[simp] theorem State.modSld_outletOf (f : Sld → Sld) (n : RecNo) :
    (s.modSld f).outletOf n = s.outletOf n := rfl
@[simp] theorem State.modSpu_outletOf (f : Vector Station 3 → Vector Station 3) (n : RecNo) :
    (s.modSpu f).outletOf n = s.outletOf n := rfl
@[simp] theorem State.modMsq_outletOf (f : Msq → Msq) (n : RecNo) :
    (s.modMsq f).outletOf n = s.outletOf n := rfl
@[simp] theorem State.modWgc_outletOf (f : Wgc → Wgc) (n : RecNo) :
    (s.modWgc f).outletOf n = s.outletOf n := rfl
@[simp] theorem State.modSvl_outletOf (f : Svl → Svl) (n : RecNo) :
    (s.modSvl f).outletOf n = s.outletOf n := rfl
@[simp] theorem State.modAtb_plantRecord (f : Vector Working 64 → Vector Working 64) :
    (s.modAtb f).plantRecord = s.plantRecord := rfl
@[simp] theorem State.modFcl_plantRecord (f : Fcl → Fcl) :
    (s.modFcl f).plantRecord = s.plantRecord := rfl
@[simp] theorem State.modFsu_plantRecord (f : Fsu → Fsu) :
    (s.modFsu f).plantRecord = s.plantRecord := rfl
@[simp] theorem State.modBgv_plantRecord (f : Bgv → Bgv) :
    (s.modBgv f).plantRecord = s.plantRecord := rfl
@[simp] theorem State.modRsv_plantRecord (f : Rsv → Rsv) :
    (s.modRsv f).plantRecord = s.plantRecord := rfl
@[simp] theorem State.modSld_plantRecord (f : Sld → Sld) :
    (s.modSld f).plantRecord = s.plantRecord := rfl
@[simp] theorem State.modSpu_plantRecord (f : Vector Station 3 → Vector Station 3) :
    (s.modSpu f).plantRecord = s.plantRecord := rfl
@[simp] theorem State.modMsq_plantRecord (f : Msq → Msq) :
    (s.modMsq f).plantRecord = s.plantRecord := rfl
@[simp] theorem State.modWgc_plantRecord (f : Wgc → Wgc) :
    (s.modWgc f).plantRecord = s.plantRecord := rfl
@[simp] theorem State.modSvl_plantRecord (f : Svl → Svl) :
    (s.modSvl f).plantRecord = s.plantRecord := rfl
@[simp] theorem State.modAtb_supplied (f : Vector Working 64 → Vector Working 64) (n : RecNo) :
    (s.modAtb f).supplied n = s.supplied n := rfl
@[simp] theorem State.modFcl_supplied (f : Fcl → Fcl) (n : RecNo) :
    (s.modFcl f).supplied n = s.supplied n := rfl
@[simp] theorem State.modFsu_supplied (f : Fsu → Fsu) (n : RecNo) :
    (s.modFsu f).supplied n = s.supplied n := rfl
@[simp] theorem State.modBgv_supplied (f : Bgv → Bgv) (n : RecNo) :
    (s.modBgv f).supplied n = s.supplied n := rfl
@[simp] theorem State.modRsv_supplied (f : Rsv → Rsv) (n : RecNo) :
    (s.modRsv f).supplied n = s.supplied n := rfl
@[simp] theorem State.modSld_supplied (f : Sld → Sld) (n : RecNo) :
    (s.modSld f).supplied n = s.supplied n := rfl
@[simp] theorem State.modSpu_supplied (f : Vector Station 3 → Vector Station 3) (n : RecNo) :
    (s.modSpu f).supplied n = s.supplied n := rfl
@[simp] theorem State.modMsq_supplied (f : Msq → Msq) (n : RecNo) :
    (s.modMsq f).supplied n = s.supplied n := rfl
@[simp] theorem State.modWgc_supplied (f : Wgc → Wgc) (n : RecNo) :
    (s.modWgc f).supplied n = s.supplied n := rfl
@[simp] theorem State.modSvl_supplied (f : Svl → Svl) (n : RecNo) :
    (s.modSvl f).supplied n = s.supplied n := rfl
@[simp] theorem State.modAtb_isRestoring (f : Vector Working 64 → Vector Working 64) (n : RecNo) :
    (s.modAtb f).isRestoring n = s.isRestoring n := rfl
@[simp] theorem State.modFcl_isRestoring (f : Fcl → Fcl) (n : RecNo) :
    (s.modFcl f).isRestoring n = s.isRestoring n := rfl
@[simp] theorem State.modFsu_isRestoring (f : Fsu → Fsu) (n : RecNo) :
    (s.modFsu f).isRestoring n = s.isRestoring n := rfl
@[simp] theorem State.modBgv_isRestoring (f : Bgv → Bgv) (n : RecNo) :
    (s.modBgv f).isRestoring n = s.isRestoring n := rfl
@[simp] theorem State.modRsv_isRestoring (f : Rsv → Rsv) (n : RecNo) :
    (s.modRsv f).isRestoring n = s.isRestoring n := rfl
@[simp] theorem State.modSld_isRestoring (f : Sld → Sld) (n : RecNo) :
    (s.modSld f).isRestoring n = s.isRestoring n := rfl
@[simp] theorem State.modSpu_isRestoring (f : Vector Station 3 → Vector Station 3) (n : RecNo) :
    (s.modSpu f).isRestoring n = s.isRestoring n := rfl
@[simp] theorem State.modMsq_isRestoring (f : Msq → Msq) (n : RecNo) :
    (s.modMsq f).isRestoring n = s.isRestoring n := rfl
@[simp] theorem State.modWgc_isRestoring (f : Wgc → Wgc) (n : RecNo) :
    (s.modWgc f).isRestoring n = s.isRestoring n := rfl
@[simp] theorem State.modSvl_isRestoring (f : Svl → Svl) (n : RecNo) :
    (s.modSvl f).isRestoring n = s.isRestoring n := rfl
@[simp] theorem State.modAtb_recordOnLadder (f : Vector Working 64 → Vector Working 64) (n : RecNo) :
    (s.modAtb f).recordOnLadder n = s.recordOnLadder n := rfl
@[simp] theorem State.modFcl_recordOnLadder (f : Fcl → Fcl) (n : RecNo) :
    (s.modFcl f).recordOnLadder n = s.recordOnLadder n := rfl
@[simp] theorem State.modFsu_recordOnLadder (f : Fsu → Fsu) (n : RecNo) :
    (s.modFsu f).recordOnLadder n = s.recordOnLadder n := rfl
@[simp] theorem State.modBgv_recordOnLadder (f : Bgv → Bgv) (n : RecNo) :
    (s.modBgv f).recordOnLadder n = s.recordOnLadder n := rfl
@[simp] theorem State.modRsv_recordOnLadder (f : Rsv → Rsv) (n : RecNo) :
    (s.modRsv f).recordOnLadder n = s.recordOnLadder n := rfl
@[simp] theorem State.modSld_recordOnLadder (f : Sld → Sld) (n : RecNo) :
    (s.modSld f).recordOnLadder n = s.recordOnLadder n := rfl
@[simp] theorem State.modSpu_recordOnLadder (f : Vector Station 3 → Vector Station 3) (n : RecNo) :
    (s.modSpu f).recordOnLadder n = s.recordOnLadder n := rfl
@[simp] theorem State.modMsq_recordOnLadder (f : Msq → Msq) (n : RecNo) :
    (s.modMsq f).recordOnLadder n = s.recordOnLadder n := rfl
@[simp] theorem State.modWgc_recordOnLadder (f : Wgc → Wgc) (n : RecNo) :
    (s.modWgc f).recordOnLadder n = s.recordOnLadder n := rfl
@[simp] theorem State.modSvl_recordOnLadder (f : Svl → Svl) (n : RecNo) :
    (s.modSvl f).recordOnLadder n = s.recordOnLadder n := rfl
@[simp] theorem State.modNva_work (f : Nva → Nva) (n : RecNo) :
    (s.modNva f).work n = s.work n := rfl
@[simp] theorem State.modFcl_work (f : Fcl → Fcl) (n : RecNo) :
    (s.modFcl f).work n = s.work n := rfl
@[simp] theorem State.modFsu_work (f : Fsu → Fsu) (n : RecNo) :
    (s.modFsu f).work n = s.work n := rfl
@[simp] theorem State.modBgv_work (f : Bgv → Bgv) (n : RecNo) :
    (s.modBgv f).work n = s.work n := rfl
@[simp] theorem State.modRsv_work (f : Rsv → Rsv) (n : RecNo) :
    (s.modRsv f).work n = s.work n := rfl
@[simp] theorem State.modSld_work (f : Sld → Sld) (n : RecNo) :
    (s.modSld f).work n = s.work n := rfl
@[simp] theorem State.modSpu_work (f : Vector Station 3 → Vector Station 3) (n : RecNo) :
    (s.modSpu f).work n = s.work n := rfl
@[simp] theorem State.modMsq_work (f : Msq → Msq) (n : RecNo) :
    (s.modMsq f).work n = s.work n := rfl
@[simp] theorem State.modWgc_work (f : Wgc → Wgc) (n : RecNo) :
    (s.modWgc f).work n = s.work n := rfl
@[simp] theorem State.modSvl_work (f : Svl → Svl) (n : RecNo) :
    (s.modSvl f).work n = s.work n := rfl
@[simp] theorem State.modNva_node (f : Nva → Nva) (a : NodeNo) :
    (s.modNva f).node a = s.node a := rfl
@[simp] theorem State.modAtb_node (f : Vector Working 64 → Vector Working 64) (a : NodeNo) :
    (s.modAtb f).node a = s.node a := rfl
@[simp] theorem State.modFsu_node (f : Fsu → Fsu) (a : NodeNo) :
    (s.modFsu f).node a = s.node a := rfl
@[simp] theorem State.modBgv_node (f : Bgv → Bgv) (a : NodeNo) :
    (s.modBgv f).node a = s.node a := rfl
@[simp] theorem State.modRsv_node (f : Rsv → Rsv) (a : NodeNo) :
    (s.modRsv f).node a = s.node a := rfl
@[simp] theorem State.modSld_node (f : Sld → Sld) (a : NodeNo) :
    (s.modSld f).node a = s.node a := rfl
@[simp] theorem State.modSpu_node (f : Vector Station 3 → Vector Station 3) (a : NodeNo) :
    (s.modSpu f).node a = s.node a := rfl
@[simp] theorem State.modMsq_node (f : Msq → Msq) (a : NodeNo) :
    (s.modMsq f).node a = s.node a := rfl
@[simp] theorem State.modWgc_node (f : Wgc → Wgc) (a : NodeNo) :
    (s.modWgc f).node a = s.node a := rfl
@[simp] theorem State.modSvl_node (f : Svl → Svl) (a : NodeNo) :
    (s.modSvl f).node a = s.node a := rfl
@[simp] theorem State.modNva_outlet (f : Nva → Nva) (o : OutletId) :
    (s.modNva f).outlet o = s.outlet o := rfl
@[simp] theorem State.modAtb_outlet (f : Vector Working 64 → Vector Working 64) (o : OutletId) :
    (s.modAtb f).outlet o = s.outlet o := rfl
@[simp] theorem State.modFsu_outlet (f : Fsu → Fsu) (o : OutletId) :
    (s.modFsu f).outlet o = s.outlet o := rfl
@[simp] theorem State.modBgv_outlet (f : Bgv → Bgv) (o : OutletId) :
    (s.modBgv f).outlet o = s.outlet o := rfl
@[simp] theorem State.modRsv_outlet (f : Rsv → Rsv) (o : OutletId) :
    (s.modRsv f).outlet o = s.outlet o := rfl
@[simp] theorem State.modSld_outlet (f : Sld → Sld) (o : OutletId) :
    (s.modSld f).outlet o = s.outlet o := rfl
@[simp] theorem State.modSpu_outlet (f : Vector Station 3 → Vector Station 3) (o : OutletId) :
    (s.modSpu f).outlet o = s.outlet o := rfl
@[simp] theorem State.modMsq_outlet (f : Msq → Msq) (o : OutletId) :
    (s.modMsq f).outlet o = s.outlet o := rfl
@[simp] theorem State.modWgc_outlet (f : Wgc → Wgc) (o : OutletId) :
    (s.modWgc f).outlet o = s.outlet o := rfl
@[simp] theorem State.modSvl_outlet (f : Svl → Svl) (o : OutletId) :
    (s.modSvl f).outlet o = s.outlet o := rfl
@[simp] theorem State.modNva_orderedClosed (f : Nva → Nva) (o : OutletId) :
    (s.modNva f).orderedClosed o = s.orderedClosed o := rfl
@[simp] theorem State.modAtb_orderedClosed (f : Vector Working 64 → Vector Working 64) (o : OutletId) :
    (s.modAtb f).orderedClosed o = s.orderedClosed o := rfl
@[simp] theorem State.modFsu_orderedClosed (f : Fsu → Fsu) (o : OutletId) :
    (s.modFsu f).orderedClosed o = s.orderedClosed o := rfl
@[simp] theorem State.modBgv_orderedClosed (f : Bgv → Bgv) (o : OutletId) :
    (s.modBgv f).orderedClosed o = s.orderedClosed o := rfl
@[simp] theorem State.modRsv_orderedClosed (f : Rsv → Rsv) (o : OutletId) :
    (s.modRsv f).orderedClosed o = s.orderedClosed o := rfl
@[simp] theorem State.modSld_orderedClosed (f : Sld → Sld) (o : OutletId) :
    (s.modSld f).orderedClosed o = s.orderedClosed o := rfl
@[simp] theorem State.modSpu_orderedClosed (f : Vector Station 3 → Vector Station 3) (o : OutletId) :
    (s.modSpu f).orderedClosed o = s.orderedClosed o := rfl
@[simp] theorem State.modMsq_orderedClosed (f : Msq → Msq) (o : OutletId) :
    (s.modMsq f).orderedClosed o = s.orderedClosed o := rfl
@[simp] theorem State.modWgc_orderedClosed (f : Wgc → Wgc) (o : OutletId) :
    (s.modWgc f).orderedClosed o = s.orderedClosed o := rfl
@[simp] theorem State.modSvl_orderedClosed (f : Svl → Svl) (o : OutletId) :
    (s.modSvl f).orderedClosed o = s.orderedClosed o := rfl
@[simp] theorem State.modNva_shaftValid (f : Nva → Nva) :
    (s.modNva f).shaftValid = s.shaftValid := rfl
@[simp] theorem State.modAtb_shaftValid (f : Vector Working 64 → Vector Working 64) :
    (s.modAtb f).shaftValid = s.shaftValid := rfl
@[simp] theorem State.modFcl_shaftValid (f : Fcl → Fcl) :
    (s.modFcl f).shaftValid = s.shaftValid := rfl
@[simp] theorem State.modBgv_shaftValid (f : Bgv → Bgv) :
    (s.modBgv f).shaftValid = s.shaftValid := rfl
@[simp] theorem State.modRsv_shaftValid (f : Rsv → Rsv) :
    (s.modRsv f).shaftValid = s.shaftValid := rfl
@[simp] theorem State.modSld_shaftValid (f : Sld → Sld) :
    (s.modSld f).shaftValid = s.shaftValid := rfl
@[simp] theorem State.modSpu_shaftValid (f : Vector Station 3 → Vector Station 3) :
    (s.modSpu f).shaftValid = s.shaftValid := rfl
@[simp] theorem State.modMsq_shaftValid (f : Msq → Msq) :
    (s.modMsq f).shaftValid = s.shaftValid := rfl
@[simp] theorem State.modWgc_shaftValid (f : Wgc → Wgc) :
    (s.modWgc f).shaftValid = s.shaftValid := rfl
@[simp] theorem State.modSvl_shaftValid (f : Svl → Svl) :
    (s.modSvl f).shaftValid = s.shaftValid := rfl
@[simp] theorem State.modNva_reserved (f : Nva → Nva) :
    (s.modNva f).reserved = s.reserved := rfl
@[simp] theorem State.modAtb_reserved (f : Vector Working 64 → Vector Working 64) :
    (s.modAtb f).reserved = s.reserved := rfl
@[simp] theorem State.modFcl_reserved (f : Fcl → Fcl) :
    (s.modFcl f).reserved = s.reserved := rfl
@[simp] theorem State.modFsu_reserved (f : Fsu → Fsu) :
    (s.modFsu f).reserved = s.reserved := rfl
@[simp] theorem State.modBgv_reserved (f : Bgv → Bgv) :
    (s.modBgv f).reserved = s.reserved := rfl
@[simp] theorem State.modSld_reserved (f : Sld → Sld) :
    (s.modSld f).reserved = s.reserved := rfl
@[simp] theorem State.modSpu_reserved (f : Vector Station 3 → Vector Station 3) :
    (s.modSpu f).reserved = s.reserved := rfl
@[simp] theorem State.modMsq_reserved (f : Msq → Msq) :
    (s.modMsq f).reserved = s.reserved := rfl
@[simp] theorem State.modWgc_reserved (f : Wgc → Wgc) :
    (s.modWgc f).reserved = s.reserved := rfl
@[simp] theorem State.modSvl_reserved (f : Svl → Svl) :
    (s.modSvl f).reserved = s.reserved := rfl
@[simp] theorem State.modNva_station (f : Nva → Nva) (i : StationNo) :
    (s.modNva f).station i = s.station i := rfl
@[simp] theorem State.modAtb_station (f : Vector Working 64 → Vector Working 64) (i : StationNo) :
    (s.modAtb f).station i = s.station i := rfl
@[simp] theorem State.modFcl_station (f : Fcl → Fcl) (i : StationNo) :
    (s.modFcl f).station i = s.station i := rfl
@[simp] theorem State.modFsu_station (f : Fsu → Fsu) (i : StationNo) :
    (s.modFsu f).station i = s.station i := rfl
@[simp] theorem State.modBgv_station (f : Bgv → Bgv) (i : StationNo) :
    (s.modBgv f).station i = s.station i := rfl
@[simp] theorem State.modRsv_station (f : Rsv → Rsv) (i : StationNo) :
    (s.modRsv f).station i = s.station i := rfl
@[simp] theorem State.modSld_station (f : Sld → Sld) (i : StationNo) :
    (s.modSld f).station i = s.station i := rfl
@[simp] theorem State.modMsq_station (f : Msq → Msq) (i : StationNo) :
    (s.modMsq f).station i = s.station i := rfl
@[simp] theorem State.modWgc_station (f : Wgc → Wgc) (i : StationNo) :
    (s.modWgc f).station i = s.station i := rfl
@[simp] theorem State.modSvl_station (f : Svl → Svl) (i : StationNo) :
    (s.modSvl f).station i = s.station i := rfl
@[simp] theorem State.modNva_reading (f : Nva → Nva) (c : ChannelNo) :
    (s.modNva f).reading c = s.reading c := rfl
@[simp] theorem State.modAtb_reading (f : Vector Working 64 → Vector Working 64) (c : ChannelNo) :
    (s.modAtb f).reading c = s.reading c := rfl
@[simp] theorem State.modFcl_reading (f : Fcl → Fcl) (c : ChannelNo) :
    (s.modFcl f).reading c = s.reading c := rfl
@[simp] theorem State.modFsu_reading (f : Fsu → Fsu) (c : ChannelNo) :
    (s.modFsu f).reading c = s.reading c := rfl
@[simp] theorem State.modBgv_reading (f : Bgv → Bgv) (c : ChannelNo) :
    (s.modBgv f).reading c = s.reading c := rfl
@[simp] theorem State.modRsv_reading (f : Rsv → Rsv) (c : ChannelNo) :
    (s.modRsv f).reading c = s.reading c := rfl
@[simp] theorem State.modSld_reading (f : Sld → Sld) (c : ChannelNo) :
    (s.modSld f).reading c = s.reading c := rfl
@[simp] theorem State.modSpu_reading (f : Vector Station 3 → Vector Station 3) (c : ChannelNo) :
    (s.modSpu f).reading c = s.reading c := rfl
@[simp] theorem State.modWgc_reading (f : Wgc → Wgc) (c : ChannelNo) :
    (s.modWgc f).reading c = s.reading c := rfl
@[simp] theorem State.modSvl_reading (f : Svl → Svl) (c : ChannelNo) :
    (s.modSvl f).reading c = s.reading c := rfl
@[simp] theorem State.modNva_freshValue (f : Nva → Nva) (c : ChannelNo) :
    (s.modNva f).freshValue c = s.freshValue c := rfl
@[simp] theorem State.modAtb_freshValue (f : Vector Working 64 → Vector Working 64) (c : ChannelNo) :
    (s.modAtb f).freshValue c = s.freshValue c := rfl
@[simp] theorem State.modFcl_freshValue (f : Fcl → Fcl) (c : ChannelNo) :
    (s.modFcl f).freshValue c = s.freshValue c := rfl
@[simp] theorem State.modFsu_freshValue (f : Fsu → Fsu) (c : ChannelNo) :
    (s.modFsu f).freshValue c = s.freshValue c := rfl
@[simp] theorem State.modBgv_freshValue (f : Bgv → Bgv) (c : ChannelNo) :
    (s.modBgv f).freshValue c = s.freshValue c := rfl
@[simp] theorem State.modRsv_freshValue (f : Rsv → Rsv) (c : ChannelNo) :
    (s.modRsv f).freshValue c = s.freshValue c := rfl
@[simp] theorem State.modSld_freshValue (f : Sld → Sld) (c : ChannelNo) :
    (s.modSld f).freshValue c = s.freshValue c := rfl
@[simp] theorem State.modSpu_freshValue (f : Vector Station 3 → Vector Station 3) (c : ChannelNo) :
    (s.modSpu f).freshValue c = s.freshValue c := rfl
@[simp] theorem State.modWgc_freshValue (f : Wgc → Wgc) (c : ChannelNo) :
    (s.modWgc f).freshValue c = s.freshValue c := rfl
@[simp] theorem State.modSvl_freshValue (f : Svl → Svl) (c : ChannelNo) :
    (s.modSvl f).freshValue c = s.freshValue c := rfl
@[simp] theorem State.modNva_bearingAlarm (f : Nva → Nva) :
    (s.modNva f).bearingAlarm = s.bearingAlarm := rfl
@[simp] theorem State.modAtb_bearingAlarm (f : Vector Working 64 → Vector Working 64) :
    (s.modAtb f).bearingAlarm = s.bearingAlarm := rfl
@[simp] theorem State.modFcl_bearingAlarm (f : Fcl → Fcl) :
    (s.modFcl f).bearingAlarm = s.bearingAlarm := rfl
@[simp] theorem State.modFsu_bearingAlarm (f : Fsu → Fsu) :
    (s.modFsu f).bearingAlarm = s.bearingAlarm := rfl
@[simp] theorem State.modBgv_bearingAlarm (f : Bgv → Bgv) :
    (s.modBgv f).bearingAlarm = s.bearingAlarm := rfl
@[simp] theorem State.modRsv_bearingAlarm (f : Rsv → Rsv) :
    (s.modRsv f).bearingAlarm = s.bearingAlarm := rfl
@[simp] theorem State.modSld_bearingAlarm (f : Sld → Sld) :
    (s.modSld f).bearingAlarm = s.bearingAlarm := rfl
@[simp] theorem State.modSpu_bearingAlarm (f : Vector Station 3 → Vector Station 3) :
    (s.modSpu f).bearingAlarm = s.bearingAlarm := rfl
@[simp] theorem State.modWgc_bearingAlarm (f : Wgc → Wgc) :
    (s.modWgc f).bearingAlarm = s.bearingAlarm := rfl
@[simp] theorem State.modSvl_bearingAlarm (f : Svl → Svl) :
    (s.modSvl f).bearingAlarm = s.bearingAlarm := rfl
@[simp] theorem State.modNva_plant (f : Nva → Nva) :
    (s.modNva f).plant = s.plant := rfl
@[simp] theorem State.modAtb_plant (f : Vector Working 64 → Vector Working 64) :
    (s.modAtb f).plant = s.plant := rfl
@[simp] theorem State.modFcl_plant (f : Fcl → Fcl) :
    (s.modFcl f).plant = s.plant := rfl
@[simp] theorem State.modFsu_plant (f : Fsu → Fsu) :
    (s.modFsu f).plant = s.plant := rfl
@[simp] theorem State.modBgv_plant (f : Bgv → Bgv) :
    (s.modBgv f).plant = s.plant := rfl
@[simp] theorem State.modRsv_plant (f : Rsv → Rsv) :
    (s.modRsv f).plant = s.plant := rfl
@[simp] theorem State.modSld_plant (f : Sld → Sld) :
    (s.modSld f).plant = s.plant := rfl
@[simp] theorem State.modSpu_plant (f : Vector Station 3 → Vector Station 3) :
    (s.modSpu f).plant = s.plant := rfl
@[simp] theorem State.modMsq_plant (f : Msq → Msq) :
    (s.modMsq f).plant = s.plant := rfl
@[simp] theorem State.modSvl_plant (f : Svl → Svl) :
    (s.modSvl f).plant = s.plant := rfl
@[simp] theorem State.modNva_supplying (f : Nva → Nva) :
    (s.modNva f).supplying = s.supplying := rfl
@[simp] theorem State.modAtb_supplying (f : Vector Working 64 → Vector Working 64) :
    (s.modAtb f).supplying = s.supplying := rfl
@[simp] theorem State.modFcl_supplying (f : Fcl → Fcl) :
    (s.modFcl f).supplying = s.supplying := rfl
@[simp] theorem State.modFsu_supplying (f : Fsu → Fsu) :
    (s.modFsu f).supplying = s.supplying := rfl
@[simp] theorem State.modBgv_supplying (f : Bgv → Bgv) :
    (s.modBgv f).supplying = s.supplying := rfl
@[simp] theorem State.modRsv_supplying (f : Rsv → Rsv) :
    (s.modRsv f).supplying = s.supplying := rfl
@[simp] theorem State.modSld_supplying (f : Sld → Sld) :
    (s.modSld f).supplying = s.supplying := rfl
@[simp] theorem State.modSpu_supplying (f : Vector Station 3 → Vector Station 3) :
    (s.modSpu f).supplying = s.supplying := rfl
@[simp] theorem State.modMsq_supplying (f : Msq → Msq) :
    (s.modMsq f).supplying = s.supplying := rfl
@[simp] theorem State.modSvl_supplying (f : Svl → Svl) :
    (s.modSvl f).supplying = s.supplying := rfl
@[simp] theorem State.modNva_running (f : Nva → Nva) :
    (s.modNva f).running = s.running := rfl
@[simp] theorem State.modAtb_running (f : Vector Working 64 → Vector Working 64) :
    (s.modAtb f).running = s.running := rfl
@[simp] theorem State.modFcl_running (f : Fcl → Fcl) :
    (s.modFcl f).running = s.running := rfl
@[simp] theorem State.modFsu_running (f : Fsu → Fsu) :
    (s.modFsu f).running = s.running := rfl
@[simp] theorem State.modBgv_running (f : Bgv → Bgv) :
    (s.modBgv f).running = s.running := rfl
@[simp] theorem State.modRsv_running (f : Rsv → Rsv) :
    (s.modRsv f).running = s.running := rfl
@[simp] theorem State.modSld_running (f : Sld → Sld) :
    (s.modSld f).running = s.running := rfl
@[simp] theorem State.modSpu_running (f : Vector Station 3 → Vector Station 3) :
    (s.modSpu f).running = s.running := rfl
@[simp] theorem State.modMsq_running (f : Msq → Msq) :
    (s.modMsq f).running = s.running := rfl
@[simp] theorem State.modSvl_running (f : Svl → Svl) :
    (s.modSvl f).running = s.running := rfl
@[simp] theorem State.modNva_stoppable (f : Nva → Nva) :
    (s.modNva f).stoppable = s.stoppable := rfl
@[simp] theorem State.modAtb_stoppable (f : Vector Working 64 → Vector Working 64) :
    (s.modAtb f).stoppable = s.stoppable := rfl
@[simp] theorem State.modFcl_stoppable (f : Fcl → Fcl) :
    (s.modFcl f).stoppable = s.stoppable := rfl
@[simp] theorem State.modFsu_stoppable (f : Fsu → Fsu) :
    (s.modFsu f).stoppable = s.stoppable := rfl
@[simp] theorem State.modBgv_stoppable (f : Bgv → Bgv) :
    (s.modBgv f).stoppable = s.stoppable := rfl
@[simp] theorem State.modRsv_stoppable (f : Rsv → Rsv) :
    (s.modRsv f).stoppable = s.stoppable := rfl
@[simp] theorem State.modSld_stoppable (f : Sld → Sld) :
    (s.modSld f).stoppable = s.stoppable := rfl
@[simp] theorem State.modSpu_stoppable (f : Vector Station 3 → Vector Station 3) :
    (s.modSpu f).stoppable = s.stoppable := rfl
@[simp] theorem State.modMsq_stoppable (f : Msq → Msq) :
    (s.modMsq f).stoppable = s.stoppable := rfl
@[simp] theorem State.modSvl_stoppable (f : Svl → Svl) :
    (s.modSvl f).stoppable = s.stoppable := rfl
@[simp] theorem State.modNva_set (f : Nva → Nva) :
    (s.modNva f).set = s.set := rfl
@[simp] theorem State.modAtb_set (f : Vector Working 64 → Vector Working 64) :
    (s.modAtb f).set = s.set := rfl
@[simp] theorem State.modFcl_set (f : Fcl → Fcl) :
    (s.modFcl f).set = s.set := rfl
@[simp] theorem State.modFsu_set (f : Fsu → Fsu) :
    (s.modFsu f).set = s.set := rfl
@[simp] theorem State.modBgv_set (f : Bgv → Bgv) :
    (s.modBgv f).set = s.set := rfl
@[simp] theorem State.modRsv_set (f : Rsv → Rsv) :
    (s.modRsv f).set = s.set := rfl
@[simp] theorem State.modSld_set (f : Sld → Sld) :
    (s.modSld f).set = s.set := rfl
@[simp] theorem State.modSpu_set (f : Vector Station 3 → Vector Station 3) :
    (s.modSpu f).set = s.set := rfl
@[simp] theorem State.modMsq_set (f : Msq → Msq) :
    (s.modMsq f).set = s.set := rfl
@[simp] theorem State.modWgc_set (f : Wgc → Wgc) :
    (s.modWgc f).set = s.set := rfl

/-! ## Accessors under their own updates -/

/-- The working settings are a field of the Service Link port. -/
@[simp] theorem State.set_eq : s.set = s.svl.settings := rfl

@[simp] theorem State.modSvl_set (f : Svl → Svl) : (s.modSvl f).set = (f s.svl).settings := rfl

@[simp] theorem State.modWgc_plant (f : Wgc → Wgc) : (s.modWgc f).plant = (f s.wgc).plant := rfl

theorem State.work_modWork (n m : RecNo) (f : Working → Working) :
    (s.modWork n f).work m = if m = n then f (s.work n) else s.work m := by
  simp only [State.modWork, State.work, State.modAtb, Fin.getElem_fin, Vector.getElem_set, Fin.ext_iff]
  by_cases h : (n : Nat) = m
  · simp [h]
  · simp [h, Ne.symm h]

@[simp] theorem State.work_modWork_same (n : RecNo) (f : Working → Working) :
    (s.modWork n f).work n = f (s.work n) := by simp [State.work_modWork]

theorem State.station_modStation (i j : StationNo) (f : Station → Station) :
    (s.modStation i f).station j = if j = i then f (s.station i) else s.station j := by
  simp only [State.modStation, State.station, State.modSpu, Fin.getElem_fin, Vector.getElem_set, Fin.ext_iff]
  by_cases h : (i : Nat) = j
  · simp [h]
  · simp [h, Ne.symm h]

@[simp] theorem State.station_modStation_same (i : StationNo) (f : Station → Station) :
    (s.modStation i f).station i = f (s.station i) := by simp [State.station_modStation]

theorem State.node_modNode (a b : NodeNo) (f : Node → Node) :
    (s.modNode a f).node b = if b = a then f (s.node a) else s.node b := by
  simp only [State.modNode, State.node, State.modFcl, Fin.getElem_fin, Vector.getElem_set, Fin.ext_iff]
  by_cases h : (a : Nat) = b
  · simp [h]
  · simp [h, Ne.symm h]

@[simp] theorem State.node_modNode_same (a : NodeNo) (f : Node → Node) :
    (s.modNode a f).node a = f (s.node a) := by simp [State.node_modNode]

theorem State.reading_modReading (c d : ChannelNo) (f : Reading → Reading) :
    (s.modReading c f).reading d = if d = c then f (s.reading c) else s.reading d := by
  simp only [State.modReading, State.reading, State.modMsq, Fin.getElem_fin, Vector.getElem_set, Fin.ext_iff]
  by_cases h : (c : Nat) = d
  · simp [h]
  · simp [h, Ne.symm h]

@[simp] theorem State.reading_modReading_same (c : ChannelNo) (f : Reading → Reading) :
    (s.modReading c f).reading c = f (s.reading c) := by simp [State.reading_modReading]

/-- The places of two outlets are equal only for one outlet. -/
theorem OutletId.index_inj (o p : OutletId) : o.index = p.index ↔ o = p := by
  obtain ⟨a, k⟩ := o
  obtain ⟨b, l⟩ := p
  simp only [OutletId.index, Fin.mk.injEq, OutletId.mk.injEq, Fin.ext_iff]
  omega

theorem State.outlet_modOutlet (o p : OutletId) (f : Outlet → Outlet) :
    (s.modOutlet o f).outlet p = if p = o then f (s.outlet o) else s.outlet p := by
  simp only [State.modOutlet, State.outlet, State.modFcl, Fin.getElem_fin, Vector.getElem_set]
  by_cases h : (o.index : Nat) = p.index
  · have : p = o := ((OutletId.index_inj o p).1 (Fin.ext h)).symm
    subst this; simp
  · have : p ≠ o := fun e => h (by rw [e])
    simp [h, this]

@[simp] theorem State.outlet_modOutlet_same (o : OutletId) (f : Outlet → Outlet) :
    (s.modOutlet o f).outlet o = f (s.outlet o) := by simp [State.outlet_modOutlet]

theorem State.terms_modTerms (n m : RecNo) (f : Terms → Terms) :
    (s.modTerms n f).terms m = if m = n then f (s.terms n) else s.terms m := by
  simp only [State.modTerms, State.terms, State.modNva, Fin.getElem_fin, Vector.getElem_set, Fin.ext_iff]
  by_cases h : (n : Nat) = m
  · simp [h]
  · simp [h, Ne.symm h]

@[simp] theorem State.terms_modTerms_same (n : RecNo) (f : Terms → Terms) :
    (s.modTerms n f).terms n = f (s.terms n) := by simp [State.terms_modTerms]

@[simp] theorem State.account_modTerms (n m : RecNo) (f : Terms → Terms) :
    (s.modTerms n f).account m = s.account m := by
  simp only [State.modTerms, State.account, State.modNva, Fin.getElem_fin, Vector.getElem_set]
  by_cases h : (n : Nat) = m
  · subst_vars; simp [h]
  · simp [h]

theorem State.account_modAccount (n m : RecNo) (f : Account → Account) :
    (s.modAccount n f).account m = if m = n then f (s.account n) else s.account m := by
  simp only [State.modAccount, State.account, State.modNva, Fin.getElem_fin, Vector.getElem_set, Fin.ext_iff]
  by_cases h : (n : Nat) = m
  · simp [h]
  · simp [h, Ne.symm h]

@[simp] theorem State.account_modAccount_same (n : RecNo) (f : Account → Account) :
    (s.modAccount n f).account n = f (s.account n) := by simp [State.account_modAccount]

@[simp] theorem State.terms_modAccount (n m : RecNo) (f : Account → Account) :
    (s.modAccount n f).terms m = s.terms m := by
  simp only [State.modAccount, State.terms, State.modNva, Fin.getElem_fin, Vector.getElem_set]
  by_cases h : (n : Nat) = m
  · subst_vars; simp [h]
  · simp [h]

/-- The record state is a field of the terms. -/
theorem State.recState_eq (n : RecNo) : s.recState n = (s.terms n).state := rfl

@[simp] theorem State.recState_modTerms_same (n : RecNo) (f : Terms → Terms) :
    (s.modTerms n f).recState n = (f (s.terms n)).state := by simp [State.recState_eq]

@[simp] theorem State.recState_modAccount (n m : RecNo) (f : Account → Account) :
    (s.modAccount n f).recState m = s.recState m := by simp [State.recState_eq]

theorem State.boundTo_setBinding (o p : OutletId) (r : Option RecNo) :
    (s.setBinding o r).boundTo p = if p = o then r else s.boundTo p := by
  simp only [State.setBinding, State.boundTo, State.modNva, Fin.getElem_fin, Vector.getElem_set]
  by_cases h : (o.index : Nat) = p.index
  · have : p = o := ((OutletId.index_inj o p).1 (Fin.ext h)).symm
    subst this; simp
  · have : p ≠ o := fun e => h (by rw [e])
    simp [h, this]

theorem State.terms_setSlot (n m : RecNo) (x : Slot) :
    (s.setSlot n x).terms m = if m = n then x.terms.value else s.terms m := by
  simp only [State.setSlot, State.terms, State.modNva, Fin.getElem_fin, Vector.getElem_set, Fin.ext_iff]
  by_cases h : (n : Nat) = m
  · simp [h]
  · simp [h, Ne.symm h]

theorem State.account_setSlot (n m : RecNo) (x : Slot) :
    (s.setSlot n x).account m = if m = n then x.account.value else s.account m := by
  simp only [State.setSlot, State.account, State.modNva, Fin.getElem_fin, Vector.getElem_set, Fin.ext_iff]
  by_cases h : (n : Nat) = m
  · simp [h]
  · simp [h, Ne.symm h]

end Sys2Proof.Machine
end

