-- ==== Sys2Proof/Laws/Ops.lean ====
section
/-! SUPPORT. What the shared operations leave unchanged: one lemma for each operation, a conjunction over the blocks it
does not touch, tagged for simp. Where an operation touches a block in some fields alone, the fields it keeps are listed. -/

namespace Sys2Proof.Machine

set_option linter.all false

/-! ## Folds -/

/-- What every step of a fold keeps, the fold keeps. -/
theorem foldl_keeps {α β γ : Type} (P : α → β) (f : α → γ → α) (h : ∀ t a, P (f t a) = P t) (l : List γ) (s : α) :
    P (l.foldl f s) = P s := by
  induction l generalizing s with
  | nil => rfl
  | cons a l ih => simp [ih, h]

/-- What every step of a fold carries on, the fold carries on. -/
theorem foldl_inv {α γ : Type} (P : α → Prop) (f : α → γ → α) (h : ∀ t a, P t → P (f t a)) (l : List γ) (s : α)
    (hs : P s) : P (l.foldl f s) := by
  induction l generalizing s with
  | nil => exact hs
  | cons a l ih => exact ih _ (h _ _ hs)

theorem State.eachRecord_keeps {β : Type} (P : State → β) (f : RecNo → State → State) (h : ∀ n t, P (f n t) = P t)
    (s : State) : P (s.eachRecord f) = P s := foldl_keeps P _ (fun t n => h n t) _ _

theorem State.eachStation_keeps {β : Type} (P : State → β) (f : StationNo → State → State)
    (h : ∀ i t, P (f i t) = P t) (s : State) : P (s.eachStation f) = P s := foldl_keeps P _ (fun t i => h i t) _ _

theorem State.eachRecord_inv (P : State → Prop) (f : RecNo → State → State) (h : ∀ n t, P t → P (f n t)) (s : State)
    (hs : P s) : P (s.eachRecord f) := foldl_inv P _ (fun t n => h n t) _ _ hs

theorem State.eachStation_inv (P : State → Prop) (f : StationNo → State → State) (h : ∀ i t, P t → P (f i t))
    (s : State) (hs : P s) : P (s.eachStation f) := foldl_inv P _ (fun t i => h i t) _ _ hs

/-! ## Flags and triggers -/

@[simp] theorem State.latch_keeps (f : Flag) (s : State) :
    (s.latch f).nva = s.nva ∧ (s.latch f).atb = s.atb ∧ (s.latch f).fcl = s.fcl ∧ (s.latch f).fsu = s.fsu ∧
    (s.latch f).bgv = s.bgv ∧ (s.latch f).rsv = s.rsv ∧ (s.latch f).sld = s.sld ∧ (s.latch f).spu = s.spu ∧
    (s.latch f).msq = s.msq ∧ (s.latch f).wgc = s.wgc ∧ (s.latch f).held = s.held ∧ (s.latch f).free = s.free ∧
    (s.latch f).pending = s.pending ∧ (s.latch f).svl.rx = s.svl.rx ∧ (s.latch f).svl.buffer = s.svl.buffer ∧
    (s.latch f).svl.bytesDue = s.svl.bytesDue ∧ (s.latch f).svl.gap = s.svl.gap ∧
    (s.latch f).svl.serving = s.svl.serving ∧ (s.latch f).svl.reply = s.svl.reply ∧
    (s.latch f).svl.restartCalled = s.svl.restartCalled ∧ (s.latch f).svl.startedUp = s.svl.startedUp ∧
    (s.latch f).svl.settings = s.svl.settings ∧ (s.latch f).svl.defaulted = s.svl.defaulted ∧
    (s.latch f).svl.unstored = s.svl.unstored ∧ (s.latch f).svl.store = s.svl.store := by
  and_intros <;> simp [State.latch]

@[simp] theorem State.latchWindow_keeps (c : ChannelNo) (s : State) :
    (s.latchWindow c).nva = s.nva ∧ (s.latchWindow c).atb = s.atb ∧ (s.latchWindow c).fcl = s.fcl ∧
    (s.latchWindow c).fsu = s.fsu ∧ (s.latchWindow c).bgv = s.bgv ∧ (s.latchWindow c).rsv = s.rsv ∧
    (s.latchWindow c).sld = s.sld ∧ (s.latchWindow c).spu = s.spu ∧ (s.latchWindow c).msq = s.msq ∧
    (s.latchWindow c).wgc = s.wgc ∧ (s.latchWindow c).held = s.held ∧ (s.latchWindow c).free = s.free ∧
    (s.latchWindow c).pending = s.pending ∧ (s.latchWindow c).svl.rx = s.svl.rx ∧
    (s.latchWindow c).svl.buffer = s.svl.buffer ∧ (s.latchWindow c).svl.bytesDue = s.svl.bytesDue ∧
    (s.latchWindow c).svl.gap = s.svl.gap ∧ (s.latchWindow c).svl.serving = s.svl.serving ∧
    (s.latchWindow c).svl.reply = s.svl.reply ∧ (s.latchWindow c).svl.restartCalled = s.svl.restartCalled ∧
    (s.latchWindow c).svl.startedUp = s.svl.startedUp ∧ (s.latchWindow c).svl.settings = s.svl.settings ∧
    (s.latchWindow c).svl.defaulted = s.svl.defaulted ∧ (s.latchWindow c).svl.unstored = s.svl.unstored ∧
    (s.latchWindow c).svl.store = s.svl.store := by
  and_intros <;> simp [State.latchWindow]

@[simp] theorem State.promptEvaluation_keeps (s : State) :
    (s.promptEvaluation).nva = s.nva ∧ (s.promptEvaluation).atb = s.atb ∧ (s.promptEvaluation).fcl = s.fcl ∧
    (s.promptEvaluation).fsu = s.fsu ∧ (s.promptEvaluation).bgv = s.bgv ∧ (s.promptEvaluation).sld = s.sld ∧
    (s.promptEvaluation).spu = s.spu ∧ (s.promptEvaluation).msq = s.msq ∧ (s.promptEvaluation).wgc = s.wgc ∧
    (s.promptEvaluation).svl = s.svl ∧ (s.promptEvaluation).held = s.held ∧
    (s.promptEvaluation).free = s.free ∧ (s.promptEvaluation).pending = s.pending := by
  and_intros <;> simp [State.promptEvaluation]

@[simp] theorem State.triggerStage_keeps (g : Stage) (s : State) :
    (s.triggerStage g).nva = s.nva ∧ (s.triggerStage g).atb = s.atb ∧ (s.triggerStage g).fcl = s.fcl ∧
    (s.triggerStage g).fsu = s.fsu ∧ (s.triggerStage g).bgv = s.bgv ∧ (s.triggerStage g).rsv = s.rsv ∧
    (s.triggerStage g).sld = s.sld ∧ (s.triggerStage g).spu = s.spu ∧ (s.triggerStage g).wgc = s.wgc ∧
    (s.triggerStage g).svl = s.svl ∧ (s.triggerStage g).held = s.held ∧ (s.triggerStage g).free = s.free ∧
    (s.triggerStage g).pending = s.pending := by
  and_intros <;> simp [State.triggerStage]

@[simp] theorem State.triggerGate_keeps (s : State) :
    (s.triggerGate).nva = s.nva ∧ (s.triggerGate).atb = s.atb ∧ (s.triggerGate).fcl = s.fcl ∧
    (s.triggerGate).fsu = s.fsu ∧ (s.triggerGate).bgv = s.bgv ∧ (s.triggerGate).rsv = s.rsv ∧
    (s.triggerGate).sld = s.sld ∧ (s.triggerGate).spu = s.spu ∧ (s.triggerGate).wgc = s.wgc ∧
    (s.triggerGate).svl = s.svl ∧ (s.triggerGate).held = s.held ∧ (s.triggerGate).free = s.free ∧
    (s.triggerGate).pending = s.pending := by
  and_intros <;> simp [State.triggerGate]

@[simp] theorem State.triggerVoltage_keeps (s : State) :
    (s.triggerVoltage).nva = s.nva ∧ (s.triggerVoltage).atb = s.atb ∧ (s.triggerVoltage).fcl = s.fcl ∧
    (s.triggerVoltage).fsu = s.fsu ∧ (s.triggerVoltage).bgv = s.bgv ∧ (s.triggerVoltage).rsv = s.rsv ∧
    (s.triggerVoltage).sld = s.sld ∧ (s.triggerVoltage).spu = s.spu ∧ (s.triggerVoltage).wgc = s.wgc ∧
    (s.triggerVoltage).svl = s.svl ∧ (s.triggerVoltage).held = s.held ∧ (s.triggerVoltage).free = s.free ∧
    (s.triggerVoltage).pending = s.pending := by
  and_intros <;> simp [State.triggerVoltage]

@[simp] theorem State.triggerSample_keeps (c : ChannelNo) (s : State) :
    (s.triggerSample c).nva = s.nva ∧ (s.triggerSample c).atb = s.atb ∧ (s.triggerSample c).fcl = s.fcl ∧
    (s.triggerSample c).fsu = s.fsu ∧ (s.triggerSample c).bgv = s.bgv ∧ (s.triggerSample c).rsv = s.rsv ∧
    (s.triggerSample c).sld = s.sld ∧ (s.triggerSample c).spu = s.spu ∧ (s.triggerSample c).wgc = s.wgc ∧
    (s.triggerSample c).svl = s.svl ∧ (s.triggerSample c).held = s.held ∧ (s.triggerSample c).free = s.free ∧
    (s.triggerSample c).pending = s.pending := by
  and_intros <;> simp [State.triggerSample]

/-! ## Records, outlets and reservations -/

@[simp] theorem State.modTerms_keeps (n : RecNo) (f : Terms → Terms) (s : State) :
    (s.modTerms n f).atb = s.atb ∧ (s.modTerms n f).fcl = s.fcl ∧ (s.modTerms n f).fsu = s.fsu ∧
    (s.modTerms n f).bgv = s.bgv ∧ (s.modTerms n f).rsv = s.rsv ∧ (s.modTerms n f).sld = s.sld ∧
    (s.modTerms n f).spu = s.spu ∧ (s.modTerms n f).msq = s.msq ∧ (s.modTerms n f).wgc = s.wgc ∧
    (s.modTerms n f).svl = s.svl ∧ (s.modTerms n f).held = s.held ∧ (s.modTerms n f).free = s.free ∧
    (s.modTerms n f).pending = s.pending := by
  and_intros <;> simp [State.modTerms]

@[simp] theorem State.modAccount_keeps (n : RecNo) (f : Account → Account) (s : State) :
    (s.modAccount n f).atb = s.atb ∧ (s.modAccount n f).fcl = s.fcl ∧ (s.modAccount n f).fsu = s.fsu ∧
    (s.modAccount n f).bgv = s.bgv ∧ (s.modAccount n f).rsv = s.rsv ∧ (s.modAccount n f).sld = s.sld ∧
    (s.modAccount n f).spu = s.spu ∧ (s.modAccount n f).msq = s.msq ∧ (s.modAccount n f).wgc = s.wgc ∧
    (s.modAccount n f).svl = s.svl ∧ (s.modAccount n f).held = s.held ∧ (s.modAccount n f).free = s.free ∧
    (s.modAccount n f).pending = s.pending := by
  and_intros <;> simp [State.modAccount]

@[simp] theorem State.setSlot_keeps (n : RecNo) (x : Slot) (s : State) :
    (s.setSlot n x).atb = s.atb ∧ (s.setSlot n x).fcl = s.fcl ∧ (s.setSlot n x).fsu = s.fsu ∧
    (s.setSlot n x).bgv = s.bgv ∧ (s.setSlot n x).rsv = s.rsv ∧ (s.setSlot n x).sld = s.sld ∧
    (s.setSlot n x).spu = s.spu ∧ (s.setSlot n x).msq = s.msq ∧ (s.setSlot n x).wgc = s.wgc ∧
    (s.setSlot n x).svl = s.svl ∧ (s.setSlot n x).held = s.held ∧ (s.setSlot n x).free = s.free ∧
    (s.setSlot n x).pending = s.pending := by
  and_intros <;> simp [State.setSlot]

@[simp] theorem State.setBinding_keeps (o : OutletId) (r : Option RecNo) (s : State) :
    (s.setBinding o r).atb = s.atb ∧ (s.setBinding o r).fcl = s.fcl ∧ (s.setBinding o r).fsu = s.fsu ∧
    (s.setBinding o r).bgv = s.bgv ∧ (s.setBinding o r).rsv = s.rsv ∧ (s.setBinding o r).sld = s.sld ∧
    (s.setBinding o r).spu = s.spu ∧ (s.setBinding o r).msq = s.msq ∧ (s.setBinding o r).wgc = s.wgc ∧
    (s.setBinding o r).svl = s.svl ∧ (s.setBinding o r).held = s.held ∧ (s.setBinding o r).free = s.free ∧
    (s.setBinding o r).pending = s.pending := by
  and_intros <;> simp [State.setBinding]

@[simp] theorem State.modPlantRecord_keeps (f : PlantRecord → PlantRecord) (s : State) :
    (s.modPlantRecord f).atb = s.atb ∧ (s.modPlantRecord f).fcl = s.fcl ∧ (s.modPlantRecord f).fsu = s.fsu ∧
    (s.modPlantRecord f).bgv = s.bgv ∧ (s.modPlantRecord f).rsv = s.rsv ∧ (s.modPlantRecord f).sld = s.sld ∧
    (s.modPlantRecord f).spu = s.spu ∧ (s.modPlantRecord f).msq = s.msq ∧ (s.modPlantRecord f).wgc = s.wgc ∧
    (s.modPlantRecord f).svl = s.svl ∧ (s.modPlantRecord f).held = s.held ∧
    (s.modPlantRecord f).free = s.free ∧ (s.modPlantRecord f).pending = s.pending := by
  and_intros <;> simp [State.modPlantRecord]

@[simp] theorem State.modWork_keeps (n : RecNo) (f : Working → Working) (s : State) :
    (s.modWork n f).nva = s.nva ∧ (s.modWork n f).fcl = s.fcl ∧ (s.modWork n f).fsu = s.fsu ∧
    (s.modWork n f).bgv = s.bgv ∧ (s.modWork n f).rsv = s.rsv ∧ (s.modWork n f).sld = s.sld ∧
    (s.modWork n f).spu = s.spu ∧ (s.modWork n f).msq = s.msq ∧ (s.modWork n f).wgc = s.wgc ∧
    (s.modWork n f).svl = s.svl ∧ (s.modWork n f).held = s.held ∧ (s.modWork n f).free = s.free ∧
    (s.modWork n f).pending = s.pending := by
  and_intros <;> simp [State.modWork]

@[simp] theorem State.modNode_keeps (a : NodeNo) (f : Node → Node) (s : State) :
    (s.modNode a f).nva = s.nva ∧ (s.modNode a f).atb = s.atb ∧ (s.modNode a f).fsu = s.fsu ∧
    (s.modNode a f).bgv = s.bgv ∧ (s.modNode a f).rsv = s.rsv ∧ (s.modNode a f).sld = s.sld ∧
    (s.modNode a f).spu = s.spu ∧ (s.modNode a f).msq = s.msq ∧ (s.modNode a f).wgc = s.wgc ∧
    (s.modNode a f).svl = s.svl ∧ (s.modNode a f).held = s.held ∧ (s.modNode a f).free = s.free ∧
    (s.modNode a f).pending = s.pending := by
  and_intros <;> simp [State.modNode]

@[simp] theorem State.modOutlet_keeps (o : OutletId) (f : Outlet → Outlet) (s : State) :
    (s.modOutlet o f).nva = s.nva ∧ (s.modOutlet o f).atb = s.atb ∧ (s.modOutlet o f).fsu = s.fsu ∧
    (s.modOutlet o f).bgv = s.bgv ∧ (s.modOutlet o f).rsv = s.rsv ∧ (s.modOutlet o f).sld = s.sld ∧
    (s.modOutlet o f).spu = s.spu ∧ (s.modOutlet o f).msq = s.msq ∧ (s.modOutlet o f).wgc = s.wgc ∧
    (s.modOutlet o f).svl = s.svl ∧ (s.modOutlet o f).held = s.held ∧ (s.modOutlet o f).free = s.free ∧
    (s.modOutlet o f).pending = s.pending := by
  and_intros <;> simp [State.modOutlet]

@[simp] theorem State.modStation_keeps (i : StationNo) (f : Station → Station) (s : State) :
    (s.modStation i f).nva = s.nva ∧ (s.modStation i f).atb = s.atb ∧ (s.modStation i f).fcl = s.fcl ∧
    (s.modStation i f).fsu = s.fsu ∧ (s.modStation i f).bgv = s.bgv ∧ (s.modStation i f).rsv = s.rsv ∧
    (s.modStation i f).sld = s.sld ∧ (s.modStation i f).msq = s.msq ∧ (s.modStation i f).wgc = s.wgc ∧
    (s.modStation i f).svl = s.svl ∧ (s.modStation i f).held = s.held ∧ (s.modStation i f).free = s.free ∧
    (s.modStation i f).pending = s.pending := by
  and_intros <;> simp [State.modStation]

@[simp] theorem State.modReading_keeps (c : ChannelNo) (f : Reading → Reading) (s : State) :
    (s.modReading c f).nva = s.nva ∧ (s.modReading c f).atb = s.atb ∧ (s.modReading c f).fcl = s.fcl ∧
    (s.modReading c f).fsu = s.fsu ∧ (s.modReading c f).bgv = s.bgv ∧ (s.modReading c f).rsv = s.rsv ∧
    (s.modReading c f).sld = s.sld ∧ (s.modReading c f).spu = s.spu ∧ (s.modReading c f).wgc = s.wgc ∧
    (s.modReading c f).svl = s.svl ∧ (s.modReading c f).held = s.held ∧ (s.modReading c f).free = s.free ∧
    (s.modReading c f).pending = s.pending := by
  and_intros <;> simp [State.modReading]

@[simp] theorem State.openOutlet_keeps (o : OutletId) (s : State) :
    (s.openOutlet o).nva = s.nva ∧ (s.openOutlet o).atb = s.atb ∧ (s.openOutlet o).fsu = s.fsu ∧
    (s.openOutlet o).bgv = s.bgv ∧ (s.openOutlet o).rsv = s.rsv ∧ (s.openOutlet o).sld = s.sld ∧
    (s.openOutlet o).spu = s.spu ∧ (s.openOutlet o).msq = s.msq ∧ (s.openOutlet o).wgc = s.wgc ∧
    (s.openOutlet o).svl = s.svl ∧ (s.openOutlet o).held = s.held ∧ (s.openOutlet o).free = s.free ∧
    (s.openOutlet o).pending = s.pending := by
  and_intros <;> simp [State.openOutlet]

@[simp] theorem State.openOutlet_chain (o : OutletId) (s : State) :
    (s.openOutlet o).fcl.nodes = s.fcl.nodes ∧ (s.openOutlet o).fcl.callPointer = s.fcl.callPointer ∧
    (s.openOutlet o).fcl.roundTimer = s.fcl.roundTimer ∧ (s.openOutlet o).fcl.pollList = s.fcl.pollList ∧
    (s.openOutlet o).fcl.toPoll = s.fcl.toPoll ∧ (s.openOutlet o).fcl.callDone = s.fcl.callDone ∧ (s.openOutlet
    o).fcl.phase = s.fcl.phase := by
  and_intros <;> rfl

@[simp] theorem State.closeOutlet_keeps (o : OutletId) (e : Bool) (s : State) :
    (s.closeOutlet o e).nva = s.nva ∧ (s.closeOutlet o e).atb = s.atb ∧ (s.closeOutlet o e).fsu = s.fsu ∧
    (s.closeOutlet o e).bgv = s.bgv ∧ (s.closeOutlet o e).rsv = s.rsv ∧ (s.closeOutlet o e).sld = s.sld ∧
    (s.closeOutlet o e).spu = s.spu ∧ (s.closeOutlet o e).msq = s.msq ∧ (s.closeOutlet o e).wgc = s.wgc ∧
    (s.closeOutlet o e).svl = s.svl ∧ (s.closeOutlet o e).held = s.held ∧ (s.closeOutlet o e).free = s.free ∧
    (s.closeOutlet o e).pending = s.pending := by
  and_intros <;> simp [State.closeOutlet]

@[simp] theorem State.openRecord_keeps (n : RecNo) (s : State) :
    (s.openRecord n).nva = s.nva ∧ (s.openRecord n).atb = s.atb ∧ (s.openRecord n).fsu = s.fsu ∧
    (s.openRecord n).bgv = s.bgv ∧ (s.openRecord n).rsv = s.rsv ∧ (s.openRecord n).sld = s.sld ∧
    (s.openRecord n).spu = s.spu ∧ (s.openRecord n).msq = s.msq ∧ (s.openRecord n).wgc = s.wgc ∧
    (s.openRecord n).svl = s.svl ∧ (s.openRecord n).held = s.held ∧ (s.openRecord n).free = s.free ∧
    (s.openRecord n).pending = s.pending := by
  and_intros <;> (unfold State.openRecord; (try dsimp only); (repeat' split) <;> simp)

@[simp] theorem State.openEveryOutlet_keeps (s : State) :
    (s.openEveryOutlet).nva = s.nva ∧ (s.openEveryOutlet).atb = s.atb ∧ (s.openEveryOutlet).fsu = s.fsu ∧
    (s.openEveryOutlet).bgv = s.bgv ∧ (s.openEveryOutlet).rsv = s.rsv ∧ (s.openEveryOutlet).sld = s.sld ∧
    (s.openEveryOutlet).spu = s.spu ∧ (s.openEveryOutlet).msq = s.msq ∧ (s.openEveryOutlet).wgc = s.wgc ∧
    (s.openEveryOutlet).svl = s.svl ∧ (s.openEveryOutlet).held = s.held ∧ (s.openEveryOutlet).free = s.free ∧
    (s.openEveryOutlet).pending = s.pending := by
  and_intros <;> simp [State.openEveryOutlet]

@[simp] theorem State.dropReservation_keeps (h : Holder) (s : State) :
    (s.dropReservation h).nva = s.nva ∧ (s.dropReservation h).atb = s.atb ∧ (s.dropReservation h).fcl = s.fcl ∧
    (s.dropReservation h).fsu = s.fsu ∧ (s.dropReservation h).bgv = s.bgv ∧ (s.dropReservation h).sld = s.sld ∧
    (s.dropReservation h).spu = s.spu ∧ (s.dropReservation h).msq = s.msq ∧ (s.dropReservation h).wgc = s.wgc ∧
    (s.dropReservation h).svl = s.svl ∧ (s.dropReservation h).held = s.held ∧
    (s.dropReservation h).free = s.free ∧ (s.dropReservation h).pending = s.pending := by
  and_intros <;> (unfold State.dropReservation; (try dsimp only); (repeat' split) <;> simp)

@[simp] theorem State.dropRestoration_keeps (n : RecNo) (s : State) :
    (s.dropRestoration n).nva = s.nva ∧ (s.dropRestoration n).atb = s.atb ∧ (s.dropRestoration n).fcl = s.fcl ∧
    (s.dropRestoration n).fsu = s.fsu ∧ (s.dropRestoration n).bgv = s.bgv ∧ (s.dropRestoration n).rsv = s.rsv ∧
    (s.dropRestoration n).spu = s.spu ∧ (s.dropRestoration n).msq = s.msq ∧ (s.dropRestoration n).wgc = s.wgc ∧
    (s.dropRestoration n).svl = s.svl ∧ (s.dropRestoration n).held = s.held ∧
    (s.dropRestoration n).free = s.free ∧ (s.dropRestoration n).pending = s.pending := by
  and_intros <;> simp [State.dropRestoration]

@[simp] theorem State.leave_keeps (n : RecNo) (s : State) :
    (s.leave n).nva = s.nva ∧ (s.leave n).fcl = s.fcl ∧ (s.leave n).fsu = s.fsu ∧ (s.leave n).bgv = s.bgv ∧
    (s.leave n).spu = s.spu ∧ (s.leave n).msq = s.msq ∧ (s.leave n).wgc = s.wgc ∧ (s.leave n).svl = s.svl ∧
    (s.leave n).held = s.held ∧ (s.leave n).free = s.free ∧ (s.leave n).pending = s.pending := by
  and_intros <;> (unfold State.leave; (try dsimp only); (repeat' split) <;> simp)

@[simp] theorem State.become_keeps (n : RecNo) (st : RecState) (s : State) :
    (s.become n st).fsu = s.fsu ∧ (s.become n st).bgv = s.bgv ∧ (s.become n st).spu = s.spu ∧
    (s.become n st).msq = s.msq ∧ (s.become n st).wgc = s.wgc ∧ (s.become n st).svl = s.svl ∧
    (s.become n st).held = s.held ∧ (s.become n st).free = s.free ∧ (s.become n st).pending = s.pending := by
  and_intros <;> (unfold State.become; (try dsimp only); (repeat' split) <;> simp)

@[simp] theorem State.unbind_keeps (n : RecNo) (s : State) :
    (s.unbind n).atb = s.atb ∧ (s.unbind n).fcl = s.fcl ∧ (s.unbind n).fsu = s.fsu ∧ (s.unbind n).bgv = s.bgv ∧
    (s.unbind n).rsv = s.rsv ∧ (s.unbind n).sld = s.sld ∧ (s.unbind n).spu = s.spu ∧ (s.unbind n).msq = s.msq ∧
    (s.unbind n).wgc = s.wgc ∧ (s.unbind n).svl = s.svl ∧ (s.unbind n).held = s.held ∧
    (s.unbind n).free = s.free ∧ (s.unbind n).pending = s.pending := by
  and_intros <;> simp [State.unbind]

@[simp] theorem State.vacate_keeps (n : RecNo) (s : State) :
    (s.vacate n).fcl = s.fcl ∧ (s.vacate n).fsu = s.fsu ∧ (s.vacate n).bgv = s.bgv ∧ (s.vacate n).spu = s.spu ∧
    (s.vacate n).msq = s.msq ∧ (s.vacate n).wgc = s.wgc ∧ (s.vacate n).svl = s.svl ∧
    (s.vacate n).held = s.held ∧ (s.vacate n).free = s.free ∧ (s.vacate n).pending = s.pending := by
  and_intros <;> simp [State.vacate]

@[simp] theorem State.quotaTest_keeps (n : RecNo) (s : State) :
    (s.quotaTest n).fsu = s.fsu ∧ (s.quotaTest n).bgv = s.bgv ∧ (s.quotaTest n).spu = s.spu ∧
    (s.quotaTest n).msq = s.msq ∧ (s.quotaTest n).wgc = s.wgc ∧ (s.quotaTest n).svl = s.svl ∧
    (s.quotaTest n).held = s.held ∧ (s.quotaTest n).free = s.free ∧ (s.quotaTest n).pending = s.pending := by
  and_intros <;> (unfold State.quotaTest; (try dsimp only); (repeat' split) <;> simp)

@[simp] theorem State.enterShed_keeps (n : RecNo) (s : State) :
    (s.enterShed n).fsu = s.fsu ∧ (s.enterShed n).bgv = s.bgv ∧ (s.enterShed n).spu = s.spu ∧
    (s.enterShed n).msq = s.msq ∧ (s.enterShed n).wgc = s.wgc ∧ (s.enterShed n).svl = s.svl ∧
    (s.enterShed n).held = s.held ∧ (s.enterShed n).free = s.free ∧ (s.enterShed n).pending = s.pending := by
  and_intros <;> (unfold State.enterShed; (try dsimp only); (repeat' split) <;> simp)

@[simp] theorem State.shedWith_keeps (k : ShedKind) (cause : ShedCause) (draw : Option Nat) (n : RecNo) (s : State) :
    (s.shedWith k cause draw n).fsu = s.fsu ∧ (s.shedWith k cause draw n).bgv = s.bgv ∧
    (s.shedWith k cause draw n).spu = s.spu ∧ (s.shedWith k cause draw n).msq = s.msq ∧
    (s.shedWith k cause draw n).wgc = s.wgc ∧ (s.shedWith k cause draw n).svl = s.svl ∧
    (s.shedWith k cause draw n).held = s.held ∧ (s.shedWith k cause draw n).free = s.free ∧
    (s.shedWith k cause draw n).pending = s.pending := by
  and_intros <;> (unfold State.shedWith; (try dsimp only); (repeat' split) <;> simp)

@[simp] theorem State.shed_keeps (k : ShedKind) (cause : ShedCause) (n : RecNo) (s : State) :
    (s.shed k cause n).fsu = s.fsu ∧ (s.shed k cause n).bgv = s.bgv ∧ (s.shed k cause n).spu = s.spu ∧
    (s.shed k cause n).msq = s.msq ∧ (s.shed k cause n).wgc = s.wgc ∧ (s.shed k cause n).svl = s.svl ∧
    (s.shed k cause n).held = s.held ∧ (s.shed k cause n).free = s.free ∧ (s.shed k cause n).pending = s.pending := by
  and_intros <;> simp [State.shed]

@[simp] theorem State.cancel_keeps (n : RecNo) (s : State) :
    (s.cancel n).fsu = s.fsu ∧ (s.cancel n).bgv = s.bgv ∧ (s.cancel n).spu = s.spu ∧ (s.cancel n).msq = s.msq ∧
    (s.cancel n).wgc = s.wgc ∧ (s.cancel n).svl = s.svl ∧ (s.cancel n).held = s.held ∧
    (s.cancel n).free = s.free ∧ (s.cancel n).pending = s.pending := by
  and_intros <;> simp [State.cancel]

@[simp] theorem State.rebuildBinding_keeps (o : OutletId) (s : State) :
    (s.rebuildBinding o).atb = s.atb ∧ (s.rebuildBinding o).fcl.nodes = s.fcl.nodes ∧ (s.rebuildBinding
    o).fcl.callPointer = s.fcl.callPointer ∧ (s.rebuildBinding o).fcl.roundTimer = s.fcl.roundTimer ∧
    (s.rebuildBinding o).fcl.pollList = s.fcl.pollList ∧ (s.rebuildBinding o).fcl.toPoll = s.fcl.toPoll ∧
    (s.rebuildBinding o).fcl.callDone = s.fcl.callDone ∧ (s.rebuildBinding o).fcl.phase = s.fcl.phase ∧
    (s.rebuildBinding o).fsu = s.fsu ∧ (s.rebuildBinding o).bgv = s.bgv ∧ (s.rebuildBinding o).rsv = s.rsv ∧
    (s.rebuildBinding o).sld = s.sld ∧ (s.rebuildBinding o).spu = s.spu ∧ (s.rebuildBinding o).msq = s.msq ∧
    (s.rebuildBinding o).wgc = s.wgc ∧ (s.rebuildBinding o).held = s.held ∧ (s.rebuildBinding o).free = s.free ∧
    (s.rebuildBinding o).pending = s.pending ∧ (s.rebuildBinding o).svl = s.svl ∧ (s.rebuildBinding o).nva.slots =
    s.nva.slots ∧ (s.rebuildBinding o).nva.plantRecord = s.nva.plantRecord ∧ (s.rebuildBinding o).nva.page =
    s.nva.page := by
  and_intros <;> (unfold State.rebuildBinding; (try dsimp only); (repeat' split) <;> simp [State.setBinding])

@[simp] theorem State.readBinding_keeps (o : OutletId) (s : State) :
    (s.readBinding o).atb = s.atb ∧ (s.readBinding o).fcl.nodes = s.fcl.nodes ∧ (s.readBinding o).fcl.callPointer
    = s.fcl.callPointer ∧ (s.readBinding o).fcl.roundTimer = s.fcl.roundTimer ∧ (s.readBinding o).fcl.pollList =
    s.fcl.pollList ∧ (s.readBinding o).fcl.toPoll = s.fcl.toPoll ∧ (s.readBinding o).fcl.callDone = s.fcl.callDone
    ∧ (s.readBinding o).fcl.phase = s.fcl.phase ∧ (s.readBinding o).fsu = s.fsu ∧ (s.readBinding o).bgv = s.bgv ∧
    (s.readBinding o).rsv = s.rsv ∧ (s.readBinding o).sld = s.sld ∧ (s.readBinding o).spu = s.spu ∧ (s.readBinding
    o).msq = s.msq ∧ (s.readBinding o).wgc = s.wgc ∧ (s.readBinding o).held = s.held ∧ (s.readBinding o).free =
    s.free ∧ (s.readBinding o).pending = s.pending ∧ (s.readBinding o).svl.rx = s.svl.rx ∧ (s.readBinding
    o).svl.buffer = s.svl.buffer ∧ (s.readBinding o).svl.bytesDue = s.svl.bytesDue ∧ (s.readBinding o).svl.gap =
    s.svl.gap ∧ (s.readBinding o).svl.serving = s.svl.serving ∧ (s.readBinding o).svl.reply = s.svl.reply ∧
    (s.readBinding o).svl.restartCalled = s.svl.restartCalled ∧ (s.readBinding o).svl.startedUp = s.svl.startedUp
    ∧ (s.readBinding o).svl.settings = s.svl.settings ∧ (s.readBinding o).svl.defaulted = s.svl.defaulted ∧
    (s.readBinding o).svl.unstored = s.svl.unstored ∧ (s.readBinding o).svl.store = s.svl.store := by
  and_intros <;> (unfold State.readBinding; (try dsimp only); (repeat' split) <;> simp)

/-- A clean entry of the map reads as it stands. -/
theorem State.readBinding_clean (o : OutletId) (s : State) (h : s.nva.map[o.index].verdict = .clean) :
    s.readBinding o = s := by
  unfold State.readBinding
  split
  · rfl
  all_goals (rename_i e; rw [h] at e; cases e)

@[simp] theorem State.readMap_keeps (s : State) :
    (s.readMap).atb = s.atb ∧ (s.readMap).fcl.nodes = s.fcl.nodes ∧ (s.readMap).fcl.callPointer =
    s.fcl.callPointer ∧ (s.readMap).fcl.roundTimer = s.fcl.roundTimer ∧ (s.readMap).fcl.pollList = s.fcl.pollList
    ∧ (s.readMap).fcl.toPoll = s.fcl.toPoll ∧ (s.readMap).fcl.callDone = s.fcl.callDone ∧ (s.readMap).fcl.phase =
    s.fcl.phase ∧ (s.readMap).fsu = s.fsu ∧ (s.readMap).bgv = s.bgv ∧ (s.readMap).rsv = s.rsv ∧ (s.readMap).sld =
    s.sld ∧ (s.readMap).spu = s.spu ∧ (s.readMap).msq = s.msq ∧ (s.readMap).wgc = s.wgc ∧ (s.readMap).held =
    s.held ∧ (s.readMap).free = s.free ∧ (s.readMap).pending = s.pending ∧ (s.readMap).svl.rx = s.svl.rx ∧
    (s.readMap).svl.buffer = s.svl.buffer ∧ (s.readMap).svl.bytesDue = s.svl.bytesDue ∧ (s.readMap).svl.gap =
    s.svl.gap ∧ (s.readMap).svl.serving = s.svl.serving ∧ (s.readMap).svl.reply = s.svl.reply ∧
    (s.readMap).svl.restartCalled = s.svl.restartCalled ∧ (s.readMap).svl.startedUp = s.svl.startedUp ∧
    (s.readMap).svl.settings = s.svl.settings ∧ (s.readMap).svl.defaulted = s.svl.defaulted ∧
    (s.readMap).svl.unstored = s.svl.unstored ∧ (s.readMap).svl.store = s.svl.store := by
  unfold State.readMap
  and_intros
  · exact foldl_keeps (fun t : State => t.atb) _ (by intro t a; (try dsimp only); (repeat' split) <;> simp) _ _
  · exact foldl_keeps (fun t : State => t.fcl.nodes) _ (by intro t a; (try dsimp only); (repeat' split) <;> simp) _ _
  · exact foldl_keeps (fun t : State => t.fcl.callPointer) _ (by intro t a; (try dsimp only); (repeat' split) <;> simp) _ _
  · exact foldl_keeps (fun t : State => t.fcl.roundTimer) _ (by intro t a; (try dsimp only); (repeat' split) <;> simp) _ _
  · exact foldl_keeps (fun t : State => t.fcl.pollList) _ (by intro t a; (try dsimp only); (repeat' split) <;> simp) _ _
  · exact foldl_keeps (fun t : State => t.fcl.toPoll) _ (by intro t a; (try dsimp only); (repeat' split) <;> simp) _ _
  · exact foldl_keeps (fun t : State => t.fcl.callDone) _ (by intro t a; (try dsimp only); (repeat' split) <;> simp) _ _
  · exact foldl_keeps (fun t : State => t.fcl.phase) _ (by intro t a; (try dsimp only); (repeat' split) <;> simp) _ _
  · exact foldl_keeps (fun t : State => t.fsu) _ (by intro t a; (try dsimp only); (repeat' split) <;> simp) _ _
  · exact foldl_keeps (fun t : State => t.bgv) _ (by intro t a; (try dsimp only); (repeat' split) <;> simp) _ _
  · exact foldl_keeps (fun t : State => t.rsv) _ (by intro t a; (try dsimp only); (repeat' split) <;> simp) _ _
  · exact foldl_keeps (fun t : State => t.sld) _ (by intro t a; (try dsimp only); (repeat' split) <;> simp) _ _
  · exact foldl_keeps (fun t : State => t.spu) _ (by intro t a; (try dsimp only); (repeat' split) <;> simp) _ _
  · exact foldl_keeps (fun t : State => t.msq) _ (by intro t a; (try dsimp only); (repeat' split) <;> simp) _ _
  · exact foldl_keeps (fun t : State => t.wgc) _ (by intro t a; (try dsimp only); (repeat' split) <;> simp) _ _
  · exact foldl_keeps (fun t : State => t.held) _ (by intro t a; (try dsimp only); (repeat' split) <;> simp) _ _
  · exact foldl_keeps (fun t : State => t.free) _ (by intro t a; (try dsimp only); (repeat' split) <;> simp) _ _
  · exact foldl_keeps (fun t : State => t.pending) _ (by intro t a; (try dsimp only); (repeat' split) <;> simp) _ _
  · exact foldl_keeps (fun t : State => t.svl.rx) _ (by intro t a; (try dsimp only); (repeat' split) <;> simp) _ _
  · exact foldl_keeps (fun t : State => t.svl.buffer) _ (by intro t a; (try dsimp only); (repeat' split) <;> simp) _ _
  · exact foldl_keeps (fun t : State => t.svl.bytesDue) _ (by intro t a; (try dsimp only); (repeat' split) <;> simp) _ _
  · exact foldl_keeps (fun t : State => t.svl.gap) _ (by intro t a; (try dsimp only); (repeat' split) <;> simp) _ _
  · exact foldl_keeps (fun t : State => t.svl.serving) _ (by intro t a; (try dsimp only); (repeat' split) <;> simp) _ _
  · exact foldl_keeps (fun t : State => t.svl.reply) _ (by intro t a; (try dsimp only); (repeat' split) <;> simp) _ _
  · exact foldl_keeps (fun t : State => t.svl.restartCalled) _ (by intro t a; (try dsimp only); (repeat' split) <;> simp) _ _
  · exact foldl_keeps (fun t : State => t.svl.startedUp) _ (by intro t a; (try dsimp only); (repeat' split) <;> simp) _ _
  · exact foldl_keeps (fun t : State => t.svl.settings) _ (by intro t a; (try dsimp only); (repeat' split) <;> simp) _ _
  · exact foldl_keeps (fun t : State => t.svl.defaulted) _ (by intro t a; (try dsimp only); (repeat' split) <;> simp) _ _
  · exact foldl_keeps (fun t : State => t.svl.unstored) _ (by intro t a; (try dsimp only); (repeat' split) <;> simp) _ _
  · exact foldl_keeps (fun t : State => t.svl.store) _ (by intro t a; (try dsimp only); (repeat' split) <;> simp) _ _

/-- A map whose entries are all clean reads as it stands. -/
theorem State.readMap_clean (s : State) (h : ∀ o : OutletId, s.nva.map[o.index].verdict = .clean) : s.readMap = s := by
  unfold State.readMap
  exact foldl_inv (fun t => t = s) _ (by intro t o ht; subst ht; exact t.readBinding_clean o (h o)) _ _ rfl

@[simp] theorem State.readPlace_keeps (n : RecNo) (s : State) :
    (s.readPlace n).atb = s.atb ∧ (s.readPlace n).fcl.nodes = s.fcl.nodes ∧ (s.readPlace n).fcl.callPointer =
    s.fcl.callPointer ∧ (s.readPlace n).fcl.roundTimer = s.fcl.roundTimer ∧ (s.readPlace n).fcl.pollList =
    s.fcl.pollList ∧ (s.readPlace n).fcl.toPoll = s.fcl.toPoll ∧ (s.readPlace n).fcl.callDone = s.fcl.callDone ∧
    (s.readPlace n).fcl.phase = s.fcl.phase ∧ (s.readPlace n).fsu = s.fsu ∧ (s.readPlace n).bgv = s.bgv ∧
    (s.readPlace n).rsv = s.rsv ∧ (s.readPlace n).sld = s.sld ∧ (s.readPlace n).spu = s.spu ∧ (s.readPlace n).msq
    = s.msq ∧ (s.readPlace n).wgc = s.wgc ∧ (s.readPlace n).held = s.held ∧ (s.readPlace n).free = s.free ∧
    (s.readPlace n).pending = s.pending ∧ (s.readPlace n).svl.rx = s.svl.rx ∧ (s.readPlace n).svl.buffer =
    s.svl.buffer ∧ (s.readPlace n).svl.bytesDue = s.svl.bytesDue ∧ (s.readPlace n).svl.gap = s.svl.gap ∧
    (s.readPlace n).svl.serving = s.svl.serving ∧ (s.readPlace n).svl.reply = s.svl.reply ∧ (s.readPlace
    n).svl.restartCalled = s.svl.restartCalled ∧ (s.readPlace n).svl.startedUp = s.svl.startedUp ∧ (s.readPlace
    n).svl.settings = s.svl.settings ∧ (s.readPlace n).svl.defaulted = s.svl.defaulted ∧ (s.readPlace
    n).svl.unstored = s.svl.unstored ∧ (s.readPlace n).svl.store = s.svl.store := by
  and_intros <;> (unfold State.readPlace; split <;> simp)

@[simp] theorem State.correctRecord_keeps (n : RecNo) (s : State) :
    (s.correctRecord n).atb = s.atb ∧ (s.correctRecord n).fcl = s.fcl ∧ (s.correctRecord n).fsu = s.fsu ∧
    (s.correctRecord n).bgv = s.bgv ∧ (s.correctRecord n).rsv = s.rsv ∧ (s.correctRecord n).sld = s.sld ∧
    (s.correctRecord n).spu = s.spu ∧ (s.correctRecord n).msq = s.msq ∧ (s.correctRecord n).wgc = s.wgc ∧
    (s.correctRecord n).held = s.held ∧ (s.correctRecord n).free = s.free ∧
    (s.correctRecord n).pending = s.pending ∧ (s.correctRecord n).svl.rx = s.svl.rx ∧
    (s.correctRecord n).svl.buffer = s.svl.buffer ∧ (s.correctRecord n).svl.bytesDue = s.svl.bytesDue ∧
    (s.correctRecord n).svl.gap = s.svl.gap ∧ (s.correctRecord n).svl.serving = s.svl.serving ∧
    (s.correctRecord n).svl.reply = s.svl.reply ∧ (s.correctRecord n).svl.restartCalled = s.svl.restartCalled ∧
    (s.correctRecord n).svl.startedUp = s.svl.startedUp ∧ (s.correctRecord n).svl.settings = s.svl.settings ∧
    (s.correctRecord n).svl.defaulted = s.svl.defaulted ∧ (s.correctRecord n).svl.unstored = s.svl.unstored ∧
    (s.correctRecord n).svl.store = s.svl.store := by
  and_intros <;> simp [State.correctRecord]

@[simp] theorem State.suspectRecord_keeps (n : RecNo) (o : OutletId) (s : State) :
    (s.suspectRecord n o).fsu = s.fsu ∧ (s.suspectRecord n o).bgv = s.bgv ∧ (s.suspectRecord n o).spu = s.spu ∧
    (s.suspectRecord n o).msq = s.msq ∧ (s.suspectRecord n o).wgc = s.wgc ∧
    (s.suspectRecord n o).held = s.held ∧ (s.suspectRecord n o).free = s.free ∧
    (s.suspectRecord n o).pending = s.pending ∧ (s.suspectRecord n o).svl.rx = s.svl.rx ∧
    (s.suspectRecord n o).svl.buffer = s.svl.buffer ∧ (s.suspectRecord n o).svl.bytesDue = s.svl.bytesDue ∧
    (s.suspectRecord n o).svl.gap = s.svl.gap ∧ (s.suspectRecord n o).svl.serving = s.svl.serving ∧
    (s.suspectRecord n o).svl.reply = s.svl.reply ∧
    (s.suspectRecord n o).svl.restartCalled = s.svl.restartCalled ∧
    (s.suspectRecord n o).svl.startedUp = s.svl.startedUp ∧
    (s.suspectRecord n o).svl.settings = s.svl.settings ∧
    (s.suspectRecord n o).svl.defaulted = s.svl.defaulted ∧
    (s.suspectRecord n o).svl.unstored = s.svl.unstored ∧ (s.suspectRecord n o).svl.store = s.svl.store := by
  and_intros <;> (unfold State.suspectRecord; (try dsimp only); (repeat' split) <;> simp)

@[simp] theorem State.vacateLost_keeps (n : RecNo) (s : State) :
    (s.vacateLost n).fcl = s.fcl ∧ (s.vacateLost n).fsu = s.fsu ∧ (s.vacateLost n).bgv = s.bgv ∧ (s.vacateLost
    n).spu = s.spu ∧ (s.vacateLost n).msq = s.msq ∧ (s.vacateLost n).wgc = s.wgc ∧ (s.vacateLost n).held = s.held
    ∧ (s.vacateLost n).free = s.free ∧ (s.vacateLost n).pending = s.pending ∧ (s.vacateLost n).svl.rx = s.svl.rx ∧
    (s.vacateLost n).svl.buffer = s.svl.buffer ∧ (s.vacateLost n).svl.bytesDue = s.svl.bytesDue ∧ (s.vacateLost
    n).svl.gap = s.svl.gap ∧ (s.vacateLost n).svl.serving = s.svl.serving ∧ (s.vacateLost n).svl.reply =
    s.svl.reply ∧ (s.vacateLost n).svl.restartCalled = s.svl.restartCalled ∧ (s.vacateLost n).svl.startedUp =
    s.svl.startedUp ∧ (s.vacateLost n).svl.settings = s.svl.settings ∧ (s.vacateLost n).svl.defaulted =
    s.svl.defaulted ∧ (s.vacateLost n).svl.unstored = s.svl.unstored ∧ (s.vacateLost n).svl.store = s.svl.store := by
  and_intros <;> simp [State.vacateLost]

@[simp] theorem State.readRecord_keeps (n : RecNo) (s : State) :
    (s.readRecord n).fsu = s.fsu ∧ (s.readRecord n).bgv = s.bgv ∧ (s.readRecord n).spu = s.spu ∧
    (s.readRecord n).msq = s.msq ∧ (s.readRecord n).wgc = s.wgc ∧ (s.readRecord n).held = s.held ∧
    (s.readRecord n).free = s.free ∧ (s.readRecord n).pending = s.pending ∧
    (s.readRecord n).svl.rx = s.svl.rx ∧ (s.readRecord n).svl.buffer = s.svl.buffer ∧
    (s.readRecord n).svl.bytesDue = s.svl.bytesDue ∧ (s.readRecord n).svl.gap = s.svl.gap ∧
    (s.readRecord n).svl.serving = s.svl.serving ∧ (s.readRecord n).svl.reply = s.svl.reply ∧
    (s.readRecord n).svl.restartCalled = s.svl.restartCalled ∧
    (s.readRecord n).svl.startedUp = s.svl.startedUp ∧ (s.readRecord n).svl.settings = s.svl.settings ∧
    (s.readRecord n).svl.defaulted = s.svl.defaulted ∧ (s.readRecord n).svl.unstored = s.svl.unstored ∧
    (s.readRecord n).svl.store = s.svl.store := by
  and_intros <;> (unfold State.readRecord; (try dsimp only); (repeat' split) <;> simp)

@[simp] theorem State.readEach_keeps (p : State → RecNo → Bool) (s : State) :
    (s.readEach p).fsu = s.fsu ∧ (s.readEach p).bgv = s.bgv ∧ (s.readEach p).spu = s.spu ∧
    (s.readEach p).msq = s.msq ∧ (s.readEach p).wgc = s.wgc ∧ (s.readEach p).held = s.held ∧
    (s.readEach p).free = s.free ∧ (s.readEach p).pending = s.pending ∧ (s.readEach p).svl.rx = s.svl.rx ∧
    (s.readEach p).svl.buffer = s.svl.buffer ∧ (s.readEach p).svl.bytesDue = s.svl.bytesDue ∧
    (s.readEach p).svl.gap = s.svl.gap ∧ (s.readEach p).svl.serving = s.svl.serving ∧
    (s.readEach p).svl.reply = s.svl.reply ∧ (s.readEach p).svl.restartCalled = s.svl.restartCalled ∧
    (s.readEach p).svl.startedUp = s.svl.startedUp ∧ (s.readEach p).svl.settings = s.svl.settings ∧
    (s.readEach p).svl.defaulted = s.svl.defaulted ∧ (s.readEach p).svl.unstored = s.svl.unstored ∧
    (s.readEach p).svl.store = s.svl.store := by
  unfold State.readEach
  and_intros
  · exact foldl_keeps (fun t : State => t.fsu) _ (by intro t a; (try dsimp only); (repeat' split) <;> simp) _ _
  · exact foldl_keeps (fun t : State => t.bgv) _ (by intro t a; (try dsimp only); (repeat' split) <;> simp) _ _
  · exact foldl_keeps (fun t : State => t.spu) _ (by intro t a; (try dsimp only); (repeat' split) <;> simp) _ _
  · exact foldl_keeps (fun t : State => t.msq) _ (by intro t a; (try dsimp only); (repeat' split) <;> simp) _ _
  · exact foldl_keeps (fun t : State => t.wgc) _ (by intro t a; (try dsimp only); (repeat' split) <;> simp) _ _
  · exact foldl_keeps (fun t : State => t.held) _ (by intro t a; (try dsimp only); (repeat' split) <;> simp) _ _
  · exact foldl_keeps (fun t : State => t.free) _ (by intro t a; (try dsimp only); (repeat' split) <;> simp) _ _
  · exact foldl_keeps (fun t : State => t.pending) _ (by intro t a; (try dsimp only); (repeat' split) <;> simp) _ _
  · exact foldl_keeps (fun t : State => t.svl.rx) _ (by intro t a; (try dsimp only); (repeat' split) <;> simp) _ _
  · exact foldl_keeps (fun t : State => t.svl.buffer) _ (by intro t a; (try dsimp only); (repeat' split) <;> simp) _ _
  · exact foldl_keeps (fun t : State => t.svl.bytesDue) _ (by intro t a; (try dsimp only); (repeat' split) <;> simp) _ _
  · exact foldl_keeps (fun t : State => t.svl.gap) _ (by intro t a; (try dsimp only); (repeat' split) <;> simp) _ _
  · exact foldl_keeps (fun t : State => t.svl.serving) _ (by intro t a; (try dsimp only); (repeat' split) <;> simp) _ _
  · exact foldl_keeps (fun t : State => t.svl.reply) _ (by intro t a; (try dsimp only); (repeat' split) <;> simp) _ _
  · exact foldl_keeps (fun t : State => t.svl.restartCalled) _ (by intro t a; (try dsimp only); (repeat' split) <;> simp) _ _
  · exact foldl_keeps (fun t : State => t.svl.startedUp) _ (by intro t a; (try dsimp only); (repeat' split) <;> simp) _ _
  · exact foldl_keeps (fun t : State => t.svl.settings) _ (by intro t a; (try dsimp only); (repeat' split) <;> simp) _ _
  · exact foldl_keeps (fun t : State => t.svl.defaulted) _ (by intro t a; (try dsimp only); (repeat' split) <;> simp) _ _
  · exact foldl_keeps (fun t : State => t.svl.unstored) _ (by intro t a; (try dsimp only); (repeat' split) <;> simp) _ _
  · exact foldl_keeps (fun t : State => t.svl.store) _ (by intro t a; (try dsimp only); (repeat' split) <;> simp) _ _

/-! ## Stations -/

@[simp] theorem State.stationTo_keeps (i : StationNo) (st : SawState) (s : State) :
    (s.stationTo i st).nva = s.nva ∧ (s.stationTo i st).atb = s.atb ∧ (s.stationTo i st).fcl = s.fcl ∧
    (s.stationTo i st).fsu = s.fsu ∧ (s.stationTo i st).bgv = s.bgv ∧ (s.stationTo i st).sld = s.sld ∧
    (s.stationTo i st).msq = s.msq ∧ (s.stationTo i st).wgc = s.wgc ∧ (s.stationTo i st).svl = s.svl ∧
    (s.stationTo i st).held = s.held ∧ (s.stationTo i st).free = s.free ∧ (s.stationTo i st).pending = s.pending := by
  and_intros <;> (unfold State.stationTo; (try dsimp only); (repeat' split) <;> simp)

@[simp] theorem State.abortStation_keeps (i : StationNo) (why : SawOutcome) (s : State) :
    (s.abortStation i why).nva = s.nva ∧ (s.abortStation i why).atb = s.atb ∧
    (s.abortStation i why).fcl = s.fcl ∧ (s.abortStation i why).fsu = s.fsu ∧
    (s.abortStation i why).bgv = s.bgv ∧ (s.abortStation i why).sld = s.sld ∧
    (s.abortStation i why).msq = s.msq ∧ (s.abortStation i why).wgc = s.wgc ∧
    (s.abortStation i why).svl = s.svl ∧ (s.abortStation i why).held = s.held ∧
    (s.abortStation i why).free = s.free ∧ (s.abortStation i why).pending = s.pending := by
  and_intros <;> (unfold State.abortStation; (try dsimp only); (repeat' split) <;> simp)

@[simp] theorem State.windDown_keeps (i : StationNo) (s : State) :
    (s.windDown i).nva = s.nva ∧ (s.windDown i).atb = s.atb ∧ (s.windDown i).fcl = s.fcl ∧
    (s.windDown i).fsu = s.fsu ∧ (s.windDown i).bgv = s.bgv ∧ (s.windDown i).sld = s.sld ∧
    (s.windDown i).msq = s.msq ∧ (s.windDown i).wgc = s.wgc ∧ (s.windDown i).svl = s.svl ∧
    (s.windDown i).held = s.held ∧ (s.windDown i).free = s.free ∧ (s.windDown i).pending = s.pending := by
  and_intros <;> (unfold State.windDown; (try dsimp only); (repeat' split) <;> simp)

/-! ## Watches -/

@[simp] theorem State.stepTest_keeps (s : State) :
    (s.stepTest).nva = s.nva ∧ (s.stepTest).atb = s.atb ∧ (s.stepTest).fcl = s.fcl ∧ (s.stepTest).fsu = s.fsu ∧
    (s.stepTest).bgv = s.bgv ∧ (s.stepTest).rsv = s.rsv ∧ (s.stepTest).spu = s.spu ∧ (s.stepTest).msq = s.msq ∧
    (s.stepTest).wgc = s.wgc ∧ (s.stepTest).svl = s.svl ∧ (s.stepTest).held = s.held ∧
    (s.stepTest).free = s.free ∧ (s.stepTest).pending = s.pending := by
  and_intros <;> simp [State.stepTest]

@[simp] theorem State.collapseTests_keeps (s : State) :
    (s.collapseTests).nva = s.nva ∧ (s.collapseTests).atb = s.atb ∧ (s.collapseTests).fcl = s.fcl ∧
    (s.collapseTests).fsu = s.fsu ∧ (s.collapseTests).bgv = s.bgv ∧ (s.collapseTests).rsv = s.rsv ∧
    (s.collapseTests).spu = s.spu ∧ (s.collapseTests).msq = s.msq ∧ (s.collapseTests).wgc = s.wgc ∧
    (s.collapseTests).svl = s.svl ∧ (s.collapseTests).held = s.held ∧ (s.collapseTests).free = s.free ∧
    (s.collapseTests).pending = s.pending := by
  and_intros <;> simp [State.collapseTests]

@[simp] theorem State.dipTest_keeps (s : State) :
    (s.dipTest).nva = s.nva ∧ (s.dipTest).atb = s.atb ∧ (s.dipTest).fcl = s.fcl ∧ (s.dipTest).fsu = s.fsu ∧
    (s.dipTest).bgv = s.bgv ∧ (s.dipTest).rsv = s.rsv ∧ (s.dipTest).sld = s.sld ∧ (s.dipTest).msq = s.msq ∧
    (s.dipTest).wgc = s.wgc ∧ (s.dipTest).svl = s.svl ∧ (s.dipTest).held = s.held ∧ (s.dipTest).free = s.free ∧
    (s.dipTest).pending = s.pending := by
  and_intros <;> simp [State.dipTest]

@[simp] theorem State.slipTest_keeps (s : State) :
    (s.slipTest).nva = s.nva ∧ (s.slipTest).atb = s.atb ∧ (s.slipTest).fcl = s.fcl ∧ (s.slipTest).bgv = s.bgv ∧
    (s.slipTest).rsv = s.rsv ∧ (s.slipTest).sld = s.sld ∧ (s.slipTest).spu = s.spu ∧ (s.slipTest).msq = s.msq ∧
    (s.slipTest).wgc = s.wgc ∧ (s.slipTest).svl = s.svl ∧ (s.slipTest).held = s.held ∧
    (s.slipTest).free = s.free ∧ (s.slipTest).pending = s.pending ∧
    (s.slipTest).fsu.captureCount = s.fsu.captureCount ∧ (s.slipTest).fsu.lastCrossing = s.fsu.lastCrossing ∧
    (s.slipTest).fsu.reference = s.fsu.reference ∧ (s.slipTest).fsu.gap = s.fsu.gap ∧
    (s.slipTest).fsu.rejections = s.fsu.rejections ∧ (s.slipTest).fsu.freq = s.fsu.freq ∧
    (s.slipTest).fsu.freqValid = s.fsu.freqValid ∧ (s.slipTest).fsu.window = s.fsu.window ∧
    (s.slipTest).fsu.forward = s.fsu.forward ∧ (s.slipTest).fsu.reverse = s.fsu.reverse ∧
    (s.slipTest).fsu.revolution = s.fsu.revolution ∧ (s.slipTest).fsu.armed = s.fsu.armed ∧
    (s.slipTest).fsu.badRun = s.fsu.badRun ∧ (s.slipTest).fsu.goodRun = s.fsu.goodRun ∧
    (s.slipTest).fsu.pickupFault = s.fsu.pickupFault ∧ (s.slipTest).fsu.shaftSpeed = s.fsu.shaftSpeed ∧
    (s.slipTest).fsu.direction = s.fsu.direction ∧ (s.slipTest).fsu.arborCount = s.fsu.arborCount ∧
    (s.slipTest).fsu.arborSpeed = s.fsu.arborSpeed := by
  and_intros <;> simp [State.slipTest]

@[simp] theorem State.inStepTest_keeps (s : State) :
    (s.inStepTest).nva = s.nva ∧ (s.inStepTest).atb = s.atb ∧ (s.inStepTest).fcl = s.fcl ∧
    (s.inStepTest).fsu = s.fsu ∧ (s.inStepTest).bgv = s.bgv ∧ (s.inStepTest).rsv = s.rsv ∧
    (s.inStepTest).sld = s.sld ∧ (s.inStepTest).spu = s.spu ∧ (s.inStepTest).msq = s.msq ∧
    (s.inStepTest).svl = s.svl ∧ (s.inStepTest).held = s.held ∧ (s.inStepTest).free = s.free ∧
    (s.inStepTest).pending = s.pending ∧ (s.inStepTest).wgc.plant = s.wgc.plant := by
  and_intros <;> (unfold State.inStepTest; (try dsimp only); (repeat' split) <;> simp)

@[simp] theorem State.freqOverTest_keeps (s : State) :
    (s.freqOverTest).nva = s.nva ∧ (s.freqOverTest).atb = s.atb ∧ (s.freqOverTest).fcl = s.fcl ∧
    (s.freqOverTest).fsu = s.fsu ∧ (s.freqOverTest).bgv = s.bgv ∧ (s.freqOverTest).rsv = s.rsv ∧
    (s.freqOverTest).sld = s.sld ∧ (s.freqOverTest).spu = s.spu ∧ (s.freqOverTest).msq = s.msq ∧
    (s.freqOverTest).svl = s.svl ∧ (s.freqOverTest).held = s.held ∧ (s.freqOverTest).free = s.free ∧
    (s.freqOverTest).pending = s.pending ∧ (s.freqOverTest).wgc.plant = s.wgc.plant := by
  and_intros <;> (unfold State.freqOverTest; (try dsimp only); (repeat' split) <;> simp)

@[simp] theorem State.shaftOverTest_keeps (s : State) :
    (s.shaftOverTest).nva = s.nva ∧ (s.shaftOverTest).atb = s.atb ∧ (s.shaftOverTest).fcl = s.fcl ∧
    (s.shaftOverTest).fsu = s.fsu ∧ (s.shaftOverTest).bgv = s.bgv ∧ (s.shaftOverTest).rsv = s.rsv ∧
    (s.shaftOverTest).sld = s.sld ∧ (s.shaftOverTest).spu = s.spu ∧ (s.shaftOverTest).msq = s.msq ∧
    (s.shaftOverTest).svl = s.svl ∧ (s.shaftOverTest).held = s.held ∧ (s.shaftOverTest).free = s.free ∧
    (s.shaftOverTest).pending = s.pending ∧ (s.shaftOverTest).wgc.plant = s.wgc.plant := by
  and_intros <;> (unfold State.shaftOverTest; (try dsimp only); (repeat' split) <;> simp)

@[simp] theorem State.shortTest_keeps (s : State) :
    (s.shortTest).nva = s.nva ∧ (s.shortTest).atb = s.atb ∧ (s.shortTest).fcl = s.fcl ∧
    (s.shortTest).fsu = s.fsu ∧ (s.shortTest).bgv = s.bgv ∧ (s.shortTest).rsv = s.rsv ∧
    (s.shortTest).sld = s.sld ∧ (s.shortTest).spu = s.spu ∧ (s.shortTest).msq = s.msq ∧
    (s.shortTest).svl = s.svl ∧ (s.shortTest).held = s.held ∧ (s.shortTest).free = s.free ∧
    (s.shortTest).pending = s.pending ∧ (s.shortTest).wgc.plant = s.wgc.plant ∧
    (s.shortTest).wgc.gateTarget = s.wgc.gateTarget ∧ (s.shortTest).wgc.emergency = s.wgc.emergency ∧
    (s.shortTest).wgc.move = s.wgc.move ∧ (s.shortTest).wgc.direction = s.wgc.direction ∧
    (s.shortTest).wgc.timeout = s.wgc.timeout ∧ (s.shortTest).wgc.pulse = s.wgc.pulse ∧
    (s.shortTest).wgc.pulses = s.wgc.pulses ∧ (s.shortTest).wgc.sync = s.wgc.sync ∧
    (s.shortTest).wgc.runup = s.wgc.runup ∧ (s.shortTest).wgc.level = s.wgc.level ∧
    (s.shortTest).wgc.levelLost = s.wgc.levelLost ∧ (s.shortTest).wgc.freqOver = s.wgc.freqOver ∧
    (s.shortTest).wgc.shaftOver = s.wgc.shaftOver ∧ (s.shortTest).wgc.rackDiff = s.wgc.rackDiff ∧
    (s.shortTest).wgc.netHead = s.wgc.netHead ∧ (s.shortTest).wgc.rackAlarm = s.wgc.rackAlarm ∧
    (s.shortTest).wgc.residual = s.wgc.residual ∧ (s.shortTest).wgc.evalPending = s.wgc.evalPending ∧
    (s.shortTest).wgc.wasteHeld = s.wgc.wasteHeld := by
  and_intros <;> (unfold State.shortTest; (try dsimp only); (repeat' split) <;> simp)

@[simp] theorem State.recoveryTest_keeps (s : State) :
    (s.recoveryTest).nva = s.nva ∧ (s.recoveryTest).atb = s.atb ∧ (s.recoveryTest).fcl = s.fcl ∧
    (s.recoveryTest).fsu = s.fsu ∧ (s.recoveryTest).bgv = s.bgv ∧ (s.recoveryTest).rsv = s.rsv ∧
    (s.recoveryTest).sld = s.sld ∧ (s.recoveryTest).spu = s.spu ∧ (s.recoveryTest).msq = s.msq ∧
    (s.recoveryTest).svl = s.svl ∧ (s.recoveryTest).held = s.held ∧ (s.recoveryTest).free = s.free ∧
    (s.recoveryTest).pending = s.pending ∧ (s.recoveryTest).wgc.plant = s.wgc.plant ∧
    (s.recoveryTest).wgc.gateTarget = s.wgc.gateTarget ∧ (s.recoveryTest).wgc.emergency = s.wgc.emergency ∧
    (s.recoveryTest).wgc.move = s.wgc.move ∧ (s.recoveryTest).wgc.direction = s.wgc.direction ∧
    (s.recoveryTest).wgc.timeout = s.wgc.timeout ∧ (s.recoveryTest).wgc.pulse = s.wgc.pulse ∧
    (s.recoveryTest).wgc.pulses = s.wgc.pulses ∧ (s.recoveryTest).wgc.sync = s.wgc.sync ∧
    (s.recoveryTest).wgc.runup = s.wgc.runup ∧ (s.recoveryTest).wgc.level = s.wgc.level ∧
    (s.recoveryTest).wgc.levelLost = s.wgc.levelLost ∧ (s.recoveryTest).wgc.freqOver = s.wgc.freqOver ∧
    (s.recoveryTest).wgc.shaftOver = s.wgc.shaftOver ∧ (s.recoveryTest).wgc.rackDiff = s.wgc.rackDiff ∧
    (s.recoveryTest).wgc.netHead = s.wgc.netHead ∧ (s.recoveryTest).wgc.rackAlarm = s.wgc.rackAlarm ∧
    (s.recoveryTest).wgc.residual = s.wgc.residual ∧ (s.recoveryTest).wgc.evalPending = s.wgc.evalPending ∧
    (s.recoveryTest).wgc.wasteHeld = s.wgc.wasteHeld := by
  and_intros <;> (unfold State.recoveryTest; (try dsimp only); (repeat' split) <;> simp)

@[simp] theorem State.wasteTest_keeps (s : State) :
    (s.wasteTest).nva = s.nva ∧ (s.wasteTest).atb = s.atb ∧ (s.wasteTest).fcl = s.fcl ∧
    (s.wasteTest).fsu = s.fsu ∧ (s.wasteTest).bgv = s.bgv ∧ (s.wasteTest).rsv = s.rsv ∧
    (s.wasteTest).sld = s.sld ∧ (s.wasteTest).spu = s.spu ∧ (s.wasteTest).msq = s.msq ∧
    (s.wasteTest).svl = s.svl ∧ (s.wasteTest).held = s.held ∧ (s.wasteTest).free = s.free ∧
    (s.wasteTest).pending = s.pending ∧ (s.wasteTest).wgc.plant = s.wgc.plant ∧
    (s.wasteTest).wgc.gateTarget = s.wgc.gateTarget ∧ (s.wasteTest).wgc.emergency = s.wgc.emergency ∧
    (s.wasteTest).wgc.move = s.wgc.move ∧ (s.wasteTest).wgc.direction = s.wgc.direction ∧
    (s.wasteTest).wgc.timeout = s.wgc.timeout ∧ (s.wasteTest).wgc.pulse = s.wgc.pulse ∧
    (s.wasteTest).wgc.pulses = s.wgc.pulses ∧ (s.wasteTest).wgc.sync = s.wgc.sync ∧
    (s.wasteTest).wgc.runup = s.wgc.runup ∧ (s.wasteTest).wgc.level = s.wgc.level ∧
    (s.wasteTest).wgc.levelLost = s.wgc.levelLost ∧ (s.wasteTest).wgc.freqOver = s.wgc.freqOver ∧
    (s.wasteTest).wgc.shaftOver = s.wgc.shaftOver ∧ (s.wasteTest).wgc.rackDiff = s.wgc.rackDiff ∧
    (s.wasteTest).wgc.netHead = s.wgc.netHead ∧ (s.wasteTest).wgc.rackAlarm = s.wgc.rackAlarm ∧
    (s.wasteTest).wgc.residual = s.wgc.residual ∧ (s.wasteTest).wgc.evalPending = s.wgc.evalPending ∧
    (s.wasteTest).wgc.wasteHeld = s.wgc.wasteHeld := by
  and_intros <;> (unfold State.wasteTest; (try dsimp only); (repeat' split) <;> simp)

@[simp] theorem State.governorUpdate_keeps (s : State) :
    (s.governorUpdate).nva = s.nva ∧ (s.governorUpdate).atb = s.atb ∧ (s.governorUpdate).fcl = s.fcl ∧
    (s.governorUpdate).fsu = s.fsu ∧ (s.governorUpdate).bgv = s.bgv ∧ (s.governorUpdate).spu = s.spu ∧
    (s.governorUpdate).msq = s.msq ∧ (s.governorUpdate).svl = s.svl ∧ (s.governorUpdate).held = s.held ∧
    (s.governorUpdate).free = s.free ∧ (s.governorUpdate).pending = s.pending ∧
    (s.governorUpdate).wgc.plant = s.wgc.plant ∧ (s.governorUpdate).wgc.gateTarget = s.wgc.gateTarget ∧
    (s.governorUpdate).wgc.emergency = s.wgc.emergency ∧ (s.governorUpdate).wgc.move = s.wgc.move ∧
    (s.governorUpdate).wgc.direction = s.wgc.direction ∧ (s.governorUpdate).wgc.timeout = s.wgc.timeout ∧
    (s.governorUpdate).wgc.pulse = s.wgc.pulse ∧ (s.governorUpdate).wgc.pulses = s.wgc.pulses ∧
    (s.governorUpdate).wgc.sync = s.wgc.sync ∧ (s.governorUpdate).wgc.runup = s.wgc.runup ∧
    (s.governorUpdate).wgc.level = s.wgc.level ∧ (s.governorUpdate).wgc.levelLost = s.wgc.levelLost ∧
    (s.governorUpdate).wgc.freqOver = s.wgc.freqOver ∧ (s.governorUpdate).wgc.shaftOver = s.wgc.shaftOver ∧
    (s.governorUpdate).wgc.rackDiff = s.wgc.rackDiff ∧ (s.governorUpdate).wgc.netHead = s.wgc.netHead ∧
    (s.governorUpdate).wgc.rackAlarm = s.wgc.rackAlarm ∧ (s.governorUpdate).wgc.residual = s.wgc.residual ∧
    (s.governorUpdate).wgc.evalPending = s.wgc.evalPending ∧ (s.governorUpdate).wgc.wasteHeld = s.wgc.wasteHeld := by
  and_intros <;> simp [State.governorUpdate]

@[simp] theorem State.governorInactive_keeps (s : State) :
    (s.governorInactive).nva = s.nva ∧ (s.governorInactive).atb = s.atb ∧ (s.governorInactive).fcl = s.fcl ∧
    (s.governorInactive).fsu = s.fsu ∧ (s.governorInactive).spu = s.spu ∧ (s.governorInactive).msq = s.msq ∧
    (s.governorInactive).svl = s.svl ∧ (s.governorInactive).held = s.held ∧
    (s.governorInactive).free = s.free ∧ (s.governorInactive).pending = s.pending ∧
    (s.governorInactive).bgv.health = s.bgv.health ∧ (s.governorInactive).wgc.plant = s.wgc.plant ∧
    (s.governorInactive).wgc.gateTarget = s.wgc.gateTarget ∧
    (s.governorInactive).wgc.emergency = s.wgc.emergency ∧ (s.governorInactive).wgc.move = s.wgc.move ∧
    (s.governorInactive).wgc.direction = s.wgc.direction ∧ (s.governorInactive).wgc.timeout = s.wgc.timeout ∧
    (s.governorInactive).wgc.pulse = s.wgc.pulse ∧ (s.governorInactive).wgc.pulses = s.wgc.pulses ∧
    (s.governorInactive).wgc.sync = s.wgc.sync ∧ (s.governorInactive).wgc.runup = s.wgc.runup ∧
    (s.governorInactive).wgc.level = s.wgc.level ∧ (s.governorInactive).wgc.levelLost = s.wgc.levelLost ∧
    (s.governorInactive).wgc.freqOver = s.wgc.freqOver ∧ (s.governorInactive).wgc.shaftOver = s.wgc.shaftOver ∧
    (s.governorInactive).wgc.rackDiff = s.wgc.rackDiff ∧ (s.governorInactive).wgc.netHead = s.wgc.netHead ∧
    (s.governorInactive).wgc.rackAlarm = s.wgc.rackAlarm ∧ (s.governorInactive).wgc.residual = s.wgc.residual ∧
    (s.governorInactive).wgc.evalPending = s.wgc.evalPending ∧
    (s.governorInactive).wgc.wasteHeld = s.wgc.wasteHeld := by
  and_intros <;> (unfold State.governorInactive; (try dsimp only); (repeat' split) <;> simp)

/-! ## The ladder -/

@[simp] theorem State.shedEntry_keeps (cause : ShedCause) (h : Holder) (s : State) :
    (s.shedEntry cause h).fsu = s.fsu ∧ (s.shedEntry cause h).bgv = s.bgv ∧ (s.shedEntry cause h).msq = s.msq ∧
    (s.shedEntry cause h).wgc = s.wgc ∧ (s.shedEntry cause h).svl = s.svl ∧
    (s.shedEntry cause h).held = s.held ∧ (s.shedEntry cause h).free = s.free ∧
    (s.shedEntry cause h).pending = s.pending := by
  and_intros <;> (unfold State.shedEntry; (try dsimp only); (repeat' split) <;> simp)

@[simp] theorem State.takeStep_keeps (s : State) :
    (s.takeStep).fsu = s.fsu ∧ (s.takeStep).bgv = s.bgv ∧ (s.takeStep).msq = s.msq ∧ (s.takeStep).wgc = s.wgc ∧
    (s.takeStep).held = s.held ∧ (s.takeStep).free = s.free ∧ (s.takeStep).pending = s.pending ∧
    (s.takeStep).svl.rx = s.svl.rx ∧ (s.takeStep).svl.buffer = s.svl.buffer ∧
    (s.takeStep).svl.bytesDue = s.svl.bytesDue ∧ (s.takeStep).svl.gap = s.svl.gap ∧
    (s.takeStep).svl.serving = s.svl.serving ∧ (s.takeStep).svl.reply = s.svl.reply ∧
    (s.takeStep).svl.restartCalled = s.svl.restartCalled ∧ (s.takeStep).svl.startedUp = s.svl.startedUp ∧
    (s.takeStep).svl.settings = s.svl.settings ∧ (s.takeStep).svl.defaulted = s.svl.defaulted ∧
    (s.takeStep).svl.unstored = s.svl.unstored ∧ (s.takeStep).svl.store = s.svl.store := by
  and_intros <;> (unfold State.takeStep; (try dsimp only); (repeat' split) <;> simp)

@[simp] theorem State.stepExpiry_keeps (s : State) :
    (s.stepExpiry).fsu = s.fsu ∧ (s.stepExpiry).bgv = s.bgv ∧ (s.stepExpiry).msq = s.msq ∧
    (s.stepExpiry).wgc = s.wgc ∧ (s.stepExpiry).held = s.held ∧ (s.stepExpiry).free = s.free ∧
    (s.stepExpiry).pending = s.pending ∧ (s.stepExpiry).svl.rx = s.svl.rx ∧
    (s.stepExpiry).svl.buffer = s.svl.buffer ∧ (s.stepExpiry).svl.bytesDue = s.svl.bytesDue ∧
    (s.stepExpiry).svl.gap = s.svl.gap ∧ (s.stepExpiry).svl.serving = s.svl.serving ∧
    (s.stepExpiry).svl.reply = s.svl.reply ∧ (s.stepExpiry).svl.restartCalled = s.svl.restartCalled ∧
    (s.stepExpiry).svl.startedUp = s.svl.startedUp ∧ (s.stepExpiry).svl.settings = s.svl.settings ∧
    (s.stepExpiry).svl.defaulted = s.svl.defaulted ∧ (s.stepExpiry).svl.unstored = s.svl.unstored ∧
    (s.stepExpiry).svl.store = s.svl.store := by
  and_intros <;> simp [State.stepExpiry]

@[simp] theorem State.abortEngaging_keeps (why : SawOutcome) (s : State) :
    (s.abortEngaging why).nva = s.nva ∧ (s.abortEngaging why).atb = s.atb ∧ (s.abortEngaging why).fcl = s.fcl ∧
    (s.abortEngaging why).fsu = s.fsu ∧ (s.abortEngaging why).bgv = s.bgv ∧ (s.abortEngaging why).sld = s.sld ∧
    (s.abortEngaging why).msq = s.msq ∧ (s.abortEngaging why).wgc = s.wgc ∧ (s.abortEngaging why).svl = s.svl ∧
    (s.abortEngaging why).held = s.held ∧ (s.abortEngaging why).free = s.free ∧
    (s.abortEngaging why).pending = s.pending := by
  unfold State.abortEngaging
  and_intros
  · exact State.eachStation_keeps (fun t : State => t.nva) _ (by intro a t; (try dsimp only); (repeat' split) <;> simp) _
  · exact State.eachStation_keeps (fun t : State => t.atb) _ (by intro a t; (try dsimp only); (repeat' split) <;> simp) _
  · exact State.eachStation_keeps (fun t : State => t.fcl) _ (by intro a t; (try dsimp only); (repeat' split) <;> simp) _
  · exact State.eachStation_keeps (fun t : State => t.fsu) _ (by intro a t; (try dsimp only); (repeat' split) <;> simp) _
  · exact State.eachStation_keeps (fun t : State => t.bgv) _ (by intro a t; (try dsimp only); (repeat' split) <;> simp) _
  · exact State.eachStation_keeps (fun t : State => t.sld) _ (by intro a t; (try dsimp only); (repeat' split) <;> simp) _
  · exact State.eachStation_keeps (fun t : State => t.msq) _ (by intro a t; (try dsimp only); (repeat' split) <;> simp) _
  · exact State.eachStation_keeps (fun t : State => t.wgc) _ (by intro a t; (try dsimp only); (repeat' split) <;> simp) _
  · exact State.eachStation_keeps (fun t : State => t.svl) _ (by intro a t; (try dsimp only); (repeat' split) <;> simp) _
  · exact State.eachStation_keeps (fun t : State => t.held) _ (by intro a t; (try dsimp only); (repeat' split) <;> simp) _
  · exact State.eachStation_keeps (fun t : State => t.free) _ (by intro a t; (try dsimp only); (repeat' split) <;> simp) _
  · exact State.eachStation_keeps (fun t : State => t.pending) _ (by intro a t; (try dsimp only); (repeat' split) <;> simp) _

/-- The two passes over the records and the pass over the stations of the first collapse level. -/
theorem State.collapseFirst_keepsWhat {β : Type} (P : State → β) (hr : ∀ n t, P (State.readRecord n t) = P t)
    (hs : ∀ n t, P (State.shed .plain .collapse n t) = P t) (hc : ∀ n t, P (State.cancel n t) = P t)
    (hw : ∀ i t, P (State.windDown i t) = P t) (ha : ∀ i t, P (State.abortStation i .abortCollapse t) = P t)
    (s : State) : P s.collapseFirst = P s := by
  unfold State.collapseFirst State.abortEngaging
  dsimp only
  rw [State.eachStation_keeps P _ (fun i t => ha i t), State.eachRecord_keeps P, State.eachStation_keeps P _ (fun i t => hw i t),
    State.eachRecord_keeps P]
  · intro n t; (repeat' split) <;> simp [hr, hs]
  · intro n t; (repeat' split) <;> simp [hr, hc]

@[simp] theorem State.collapseFirst_keeps (s : State) :
    s.collapseFirst.fsu = s.fsu ∧ s.collapseFirst.bgv = s.bgv ∧ s.collapseFirst.msq = s.msq ∧
    s.collapseFirst.wgc = s.wgc ∧ s.collapseFirst.held = s.held ∧ s.collapseFirst.free = s.free ∧
    s.collapseFirst.pending = s.pending ∧ s.collapseFirst.svl.rx = s.svl.rx ∧
    s.collapseFirst.svl.buffer = s.svl.buffer ∧ s.collapseFirst.svl.bytesDue = s.svl.bytesDue ∧
    s.collapseFirst.svl.gap = s.svl.gap ∧ s.collapseFirst.svl.serving = s.svl.serving ∧
    s.collapseFirst.svl.reply = s.svl.reply ∧ s.collapseFirst.svl.restartCalled = s.svl.restartCalled ∧
    s.collapseFirst.svl.startedUp = s.svl.startedUp ∧ s.collapseFirst.svl.settings = s.svl.settings ∧
    s.collapseFirst.svl.defaulted = s.svl.defaulted ∧ s.collapseFirst.svl.unstored = s.svl.unstored ∧
    s.collapseFirst.svl.store = s.svl.store := by
  and_intros
  · exact State.collapseFirst_keepsWhat (fun t => t.fsu) (by simp) (by simp) (by simp) (by simp) (by simp) s
  · exact State.collapseFirst_keepsWhat (fun t => t.bgv) (by simp) (by simp) (by simp) (by simp) (by simp) s
  · exact State.collapseFirst_keepsWhat (fun t => t.msq) (by simp) (by simp) (by simp) (by simp) (by simp) s
  · exact State.collapseFirst_keepsWhat (fun t => t.wgc) (by simp) (by simp) (by simp) (by simp) (by simp) s
  · exact State.collapseFirst_keepsWhat (fun t => t.held) (by simp) (by simp) (by simp) (by simp) (by simp) s
  · exact State.collapseFirst_keepsWhat (fun t => t.free) (by simp) (by simp) (by simp) (by simp) (by simp) s
  · exact State.collapseFirst_keepsWhat (fun t => t.pending) (by simp) (by simp) (by simp) (by simp) (by simp) s
  · exact State.collapseFirst_keepsWhat (fun t => t.svl.rx) (by simp) (by simp) (by simp) (by simp) (by simp) s
  · exact State.collapseFirst_keepsWhat (fun t => t.svl.buffer) (by simp) (by simp) (by simp) (by simp) (by simp) s
  · exact State.collapseFirst_keepsWhat (fun t => t.svl.bytesDue) (by simp) (by simp) (by simp) (by simp) (by simp) s
  · exact State.collapseFirst_keepsWhat (fun t => t.svl.gap) (by simp) (by simp) (by simp) (by simp) (by simp) s
  · exact State.collapseFirst_keepsWhat (fun t => t.svl.serving) (by simp) (by simp) (by simp) (by simp) (by simp) s
  · exact State.collapseFirst_keepsWhat (fun t => t.svl.reply) (by simp) (by simp) (by simp) (by simp) (by simp) s
  · exact State.collapseFirst_keepsWhat (fun t => t.svl.restartCalled) (by simp) (by simp) (by simp) (by simp) (by simp) s
  · exact State.collapseFirst_keepsWhat (fun t => t.svl.startedUp) (by simp) (by simp) (by simp) (by simp) (by simp) s
  · exact State.collapseFirst_keepsWhat (fun t => t.svl.settings) (by simp) (by simp) (by simp) (by simp) (by simp) s
  · exact State.collapseFirst_keepsWhat (fun t => t.svl.defaulted) (by simp) (by simp) (by simp) (by simp) (by simp) s
  · exact State.collapseFirst_keepsWhat (fun t => t.svl.unstored) (by simp) (by simp) (by simp) (by simp) (by simp) s
  · exact State.collapseFirst_keepsWhat (fun t => t.svl.store) (by simp) (by simp) (by simp) (by simp) (by simp) s

@[simp] theorem State.collapseSecond_keeps (s : State) :
    s.collapseSecond.fsu = s.fsu ∧ s.collapseSecond.bgv = s.bgv ∧ s.collapseSecond.msq = s.msq ∧
    s.collapseSecond.wgc = s.wgc ∧ s.collapseSecond.held = s.held ∧ s.collapseSecond.free = s.free ∧
    s.collapseSecond.pending = s.pending ∧ s.collapseSecond.svl.rx = s.svl.rx ∧
    s.collapseSecond.svl.buffer = s.svl.buffer ∧ s.collapseSecond.svl.bytesDue = s.svl.bytesDue ∧
    s.collapseSecond.svl.gap = s.svl.gap ∧ s.collapseSecond.svl.serving = s.svl.serving ∧
    s.collapseSecond.svl.reply = s.svl.reply ∧ s.collapseSecond.svl.restartCalled = s.svl.restartCalled ∧
    s.collapseSecond.svl.startedUp = s.svl.startedUp ∧ s.collapseSecond.svl.settings = s.svl.settings ∧
    s.collapseSecond.svl.defaulted = s.svl.defaulted ∧ s.collapseSecond.svl.unstored = s.svl.unstored ∧
    s.collapseSecond.svl.store = s.svl.store := by
  unfold State.collapseSecond
  and_intros
  · exact (State.eachRecord_keeps (fun t : State => t.fsu) _ (by intro a t; (try dsimp only); (repeat' split) <;> simp) _).trans (by simp)
  · exact (State.eachRecord_keeps (fun t : State => t.bgv) _ (by intro a t; (try dsimp only); (repeat' split) <;> simp) _).trans (by simp)
  · exact (State.eachRecord_keeps (fun t : State => t.msq) _ (by intro a t; (try dsimp only); (repeat' split) <;> simp) _).trans (by simp)
  · exact (State.eachRecord_keeps (fun t : State => t.wgc) _ (by intro a t; (try dsimp only); (repeat' split) <;> simp) _).trans (by simp)
  · exact (State.eachRecord_keeps (fun t : State => t.held) _ (by intro a t; (try dsimp only); (repeat' split) <;> simp) _).trans (by simp)
  · exact (State.eachRecord_keeps (fun t : State => t.free) _ (by intro a t; (try dsimp only); (repeat' split) <;> simp) _).trans (by simp)
  · exact (State.eachRecord_keeps (fun t : State => t.pending) _ (by intro a t; (try dsimp only); (repeat' split) <;> simp) _).trans (by simp)
  · exact (State.eachRecord_keeps (fun t : State => t.svl.rx) _ (by intro a t; (try dsimp only); (repeat' split) <;> simp) _).trans (by simp)
  · exact (State.eachRecord_keeps (fun t : State => t.svl.buffer) _ (by intro a t; (try dsimp only); (repeat' split) <;> simp) _).trans (by simp)
  · exact (State.eachRecord_keeps (fun t : State => t.svl.bytesDue) _ (by intro a t; (try dsimp only); (repeat' split) <;> simp) _).trans (by simp)
  · exact (State.eachRecord_keeps (fun t : State => t.svl.gap) _ (by intro a t; (try dsimp only); (repeat' split) <;> simp) _).trans (by simp)
  · exact (State.eachRecord_keeps (fun t : State => t.svl.serving) _ (by intro a t; (try dsimp only); (repeat' split) <;> simp) _).trans (by simp)
  · exact (State.eachRecord_keeps (fun t : State => t.svl.reply) _ (by intro a t; (try dsimp only); (repeat' split) <;> simp) _).trans (by simp)
  · exact (State.eachRecord_keeps (fun t : State => t.svl.restartCalled) _ (by intro a t; (try dsimp only); (repeat' split) <;> simp) _).trans (by simp)
  · exact (State.eachRecord_keeps (fun t : State => t.svl.startedUp) _ (by intro a t; (try dsimp only); (repeat' split) <;> simp) _).trans (by simp)
  · exact (State.eachRecord_keeps (fun t : State => t.svl.settings) _ (by intro a t; (try dsimp only); (repeat' split) <;> simp) _).trans (by simp)
  · exact (State.eachRecord_keeps (fun t : State => t.svl.defaulted) _ (by intro a t; (try dsimp only); (repeat' split) <;> simp) _).trans (by simp)
  · exact (State.eachRecord_keeps (fun t : State => t.svl.unstored) _ (by intro a t; (try dsimp only); (repeat' split) <;> simp) _).trans (by simp)
  · exact (State.eachRecord_keeps (fun t : State => t.svl.store) _ (by intro a t; (try dsimp only); (repeat' split) <;> simp) _).trans (by simp)

@[simp] theorem State.waterShortShed_keeps (s : State) :
    s.waterShortShed.fsu = s.fsu ∧ s.waterShortShed.bgv = s.bgv ∧ s.waterShortShed.msq = s.msq ∧
    s.waterShortShed.wgc = s.wgc ∧ s.waterShortShed.svl = s.svl ∧ s.waterShortShed.held = s.held ∧
    s.waterShortShed.free = s.free ∧ s.waterShortShed.pending = s.pending := by
  unfold State.waterShortShed
  and_intros
  · simp only [State.abortEngaging_keeps]
    exact State.eachRecord_keeps (fun t : State => t.fsu) _ (by intro a t; (try dsimp only); (repeat' split) <;> simp) _
  · simp only [State.abortEngaging_keeps]
    exact State.eachRecord_keeps (fun t : State => t.bgv) _ (by intro a t; (try dsimp only); (repeat' split) <;> simp) _
  · simp only [State.abortEngaging_keeps]
    exact State.eachRecord_keeps (fun t : State => t.msq) _ (by intro a t; (try dsimp only); (repeat' split) <;> simp) _
  · simp only [State.abortEngaging_keeps]
    exact State.eachRecord_keeps (fun t : State => t.wgc) _ (by intro a t; (try dsimp only); (repeat' split) <;> simp) _
  · simp only [State.abortEngaging_keeps]
    exact State.eachRecord_keeps (fun t : State => t.svl) _ (by intro a t; (try dsimp only); (repeat' split) <;> simp) _
  · simp only [State.abortEngaging_keeps]
    exact State.eachRecord_keeps (fun t : State => t.held) _ (by intro a t; (try dsimp only); (repeat' split) <;> simp) _
  · simp only [State.abortEngaging_keeps]
    exact State.eachRecord_keeps (fun t : State => t.free) _ (by intro a t; (try dsimp only); (repeat' split) <;> simp) _
  · simp only [State.abortEngaging_keeps]
    exact State.eachRecord_keeps (fun t : State => t.pending) _ (by intro a t; (try dsimp only); (repeat' split) <;> simp) _

@[simp] theorem State.plantShed_keeps (s : State) :
    s.plantShed.fsu = s.fsu ∧ s.plantShed.bgv = s.bgv ∧ s.plantShed.spu = s.spu ∧ s.plantShed.msq = s.msq ∧
    s.plantShed.wgc = s.wgc ∧ s.plantShed.svl = s.svl ∧ s.plantShed.held = s.held ∧ s.plantShed.free = s.free ∧
    s.plantShed.pending = s.pending := by
  unfold State.plantShed
  and_intros
  · simp only [State.modSld, State.openEveryOutlet_keeps]
    exact State.eachRecord_keeps (fun t : State => t.fsu) _ (by intro a t; (try dsimp only); (repeat' split) <;> simp) _
  · simp only [State.modSld, State.openEveryOutlet_keeps]
    exact State.eachRecord_keeps (fun t : State => t.bgv) _ (by intro a t; (try dsimp only); (repeat' split) <;> simp) _
  · simp only [State.modSld, State.openEveryOutlet_keeps]
    exact State.eachRecord_keeps (fun t : State => t.spu) _ (by intro a t; (try dsimp only); (repeat' split) <;> simp) _
  · simp only [State.modSld, State.openEveryOutlet_keeps]
    exact State.eachRecord_keeps (fun t : State => t.msq) _ (by intro a t; (try dsimp only); (repeat' split) <;> simp) _
  · simp only [State.modSld, State.openEveryOutlet_keeps]
    exact State.eachRecord_keeps (fun t : State => t.wgc) _ (by intro a t; (try dsimp only); (repeat' split) <;> simp) _
  · simp only [State.modSld, State.openEveryOutlet_keeps]
    exact State.eachRecord_keeps (fun t : State => t.svl) _ (by intro a t; (try dsimp only); (repeat' split) <;> simp) _
  · simp only [State.modSld, State.openEveryOutlet_keeps]
    exact State.eachRecord_keeps (fun t : State => t.held) _ (by intro a t; (try dsimp only); (repeat' split) <;> simp) _
  · simp only [State.modSld, State.openEveryOutlet_keeps]
    exact State.eachRecord_keeps (fun t : State => t.free) _ (by intro a t; (try dsimp only); (repeat' split) <;> simp) _
  · simp only [State.modSld, State.openEveryOutlet_keeps]
    exact State.eachRecord_keeps (fun t : State => t.pending) _ (by intro a t; (try dsimp only); (repeat' split) <;> simp) _

/-- The entry to RUN-DOWN or TRIPPED empties the restoration watch (R117). -/
@[simp] theorem State.plantShed_watch (s : State) : s.plantShed.sld.watch = [] := rfl

end Sys2Proof.Machine
end

