-- ==== Sys2Proof/Laws/Blocks.lean ====
section
/-! SUPPORT. What the operations of the plant, the governor, the frequency, the reserve, the stations, the sequencer,
the chain and the requests leave unchanged, as in Laws/Ops.lean. -/

namespace Sys2Proof.Machine

set_option linter.all false

/-! ## The gate and the plant -/

@[simp] theorem State.stepToward_keeps (v : Int) (s : State) :
    (s.stepToward v).nva = s.nva ∧ (s.stepToward v).atb = s.atb ∧ (s.stepToward v).fcl = s.fcl ∧
    (s.stepToward v).fsu = s.fsu ∧ (s.stepToward v).bgv = s.bgv ∧ (s.stepToward v).rsv = s.rsv ∧
    (s.stepToward v).sld = s.sld ∧ (s.stepToward v).spu = s.spu ∧ (s.stepToward v).msq = s.msq ∧
    (s.stepToward v).svl = s.svl ∧ (s.stepToward v).held = s.held ∧ (s.stepToward v).free = s.free ∧
    (s.stepToward v).pending = s.pending ∧ (s.stepToward v).wgc.plant = s.wgc.plant := by
  and_intros <;> simp [State.stepToward]

@[simp] theorem State.checkGate_keeps (s : State) :
    (s.checkGate).nva = s.nva ∧ (s.checkGate).atb = s.atb ∧ (s.checkGate).fcl = s.fcl ∧
    (s.checkGate).fsu = s.fsu ∧ (s.checkGate).bgv = s.bgv ∧ (s.checkGate).rsv = s.rsv ∧
    (s.checkGate).sld = s.sld ∧ (s.checkGate).spu = s.spu ∧ (s.checkGate).svl = s.svl ∧
    (s.checkGate).held = s.held ∧ (s.checkGate).free = s.free ∧ (s.checkGate).pending = s.pending ∧
    (s.checkGate).wgc.plant = s.wgc.plant := by
  and_intros <;> simp [State.checkGate]

@[simp] theorem State.startMove_keeps (s : State) :
    (s.startMove).nva = s.nva ∧ (s.startMove).atb = s.atb ∧ (s.startMove).fcl = s.fcl ∧
    (s.startMove).fsu = s.fsu ∧ (s.startMove).bgv = s.bgv ∧ (s.startMove).rsv = s.rsv ∧
    (s.startMove).sld = s.sld ∧ (s.startMove).spu = s.spu ∧ (s.startMove).svl = s.svl ∧
    (s.startMove).held = s.held ∧ (s.startMove).free = s.free ∧ (s.startMove).pending = s.pending ∧
    (s.startMove).wgc.plant = s.wgc.plant := by
  and_intros <;> (unfold State.startMove; (try dsimp only); (repeat' split) <;> simp)

@[simp] theorem State.setTarget_keeps (target : Nat) (s : State) :
    (s.setTarget target).nva = s.nva ∧ (s.setTarget target).atb = s.atb ∧ (s.setTarget target).fcl = s.fcl ∧
    (s.setTarget target).fsu = s.fsu ∧ (s.setTarget target).bgv = s.bgv ∧ (s.setTarget target).rsv = s.rsv ∧
    (s.setTarget target).sld = s.sld ∧ (s.setTarget target).spu = s.spu ∧ (s.setTarget target).svl = s.svl ∧
    (s.setTarget target).held = s.held ∧ (s.setTarget target).free = s.free ∧
    (s.setTarget target).pending = s.pending ∧ (s.setTarget target).wgc.plant = s.wgc.plant := by
  and_intros <;> (unfold State.setTarget; (try dsimp only); (repeat' split) <;> simp)

@[simp] theorem State.gateReading_keeps (v : Int) (fromSlot2 : Bool) (s : State) :
    (s.gateReading v fromSlot2).nva = s.nva ∧ (s.gateReading v fromSlot2).atb = s.atb ∧
    (s.gateReading v fromSlot2).fcl = s.fcl ∧ (s.gateReading v fromSlot2).fsu = s.fsu ∧
    (s.gateReading v fromSlot2).bgv = s.bgv ∧ (s.gateReading v fromSlot2).rsv = s.rsv ∧
    (s.gateReading v fromSlot2).sld = s.sld ∧ (s.gateReading v fromSlot2).spu = s.spu ∧
    (s.gateReading v fromSlot2).svl = s.svl ∧ (s.gateReading v fromSlot2).held = s.held ∧
    (s.gateReading v fromSlot2).free = s.free ∧ (s.gateReading v fromSlot2).pending = s.pending ∧
    (s.gateReading v fromSlot2).wgc.plant = s.wgc.plant := by
  and_intros <;> (unfold State.gateReading; (try dsimp only); (repeat' split) <;> simp)

@[simp] theorem State.ladderTakesPlant_keeps (s : State) :
    (s.ladderTakesPlant).fsu = s.fsu ∧ (s.ladderTakesPlant).bgv = s.bgv ∧ (s.ladderTakesPlant).msq = s.msq ∧
    (s.ladderTakesPlant).wgc = s.wgc ∧ (s.ladderTakesPlant).svl = s.svl ∧ (s.ladderTakesPlant).held = s.held ∧
    (s.ladderTakesPlant).free = s.free ∧ (s.ladderTakesPlant).pending = s.pending := by
  and_intros <;> (unfold State.ladderTakesPlant; (try dsimp only); (repeat' split) <;> simp)

@[simp] theorem State.stationsTakePlant_keeps (s : State) :
    s.stationsTakePlant.nva = s.nva ∧ s.stationsTakePlant.atb = s.atb ∧ s.stationsTakePlant.fcl = s.fcl ∧
    s.stationsTakePlant.fsu = s.fsu ∧ s.stationsTakePlant.bgv = s.bgv ∧ s.stationsTakePlant.sld = s.sld ∧
    s.stationsTakePlant.msq = s.msq ∧ s.stationsTakePlant.wgc = s.wgc ∧ s.stationsTakePlant.svl = s.svl ∧
    s.stationsTakePlant.held = s.held ∧ s.stationsTakePlant.free = s.free ∧
    s.stationsTakePlant.pending = s.pending := by
  have h (β : Type) (P : State → β) (hw : ∀ i t, P (State.windDown i t) = P t)
      (ha : ∀ why t, P (State.abortEngaging why t) = P t) : P s.stationsTakePlant = P s := by
    unfold State.stationsTakePlant
    split
    · exact ha _ _
    · exact (State.eachStation_keeps P _ hw _).trans (ha _ _)
    · exact (State.eachStation_keeps P _ hw _).trans (ha _ _)
    · rfl
  and_intros
  · exact h _ (fun t => t.nva) (by simp) (by simp)
  · exact h _ (fun t => t.atb) (by simp) (by simp)
  · exact h _ (fun t => t.fcl) (by simp) (by simp)
  · exact h _ (fun t => t.fsu) (by simp) (by simp)
  · exact h _ (fun t => t.bgv) (by simp) (by simp)
  · exact h _ (fun t => t.sld) (by simp) (by simp)
  · exact h _ (fun t => t.msq) (by simp) (by simp)
  · exact h _ (fun t => t.wgc) (by simp) (by simp)
  · exact h _ (fun t => t.svl) (by simp) (by simp)
  · exact h _ (fun t => t.held) (by simp) (by simp)
  · exact h _ (fun t => t.free) (by simp) (by simp)
  · exact h _ (fun t => t.pending) (by simp) (by simp)

@[simp] theorem State.governorTakesPlant_keeps (s : State) :
    (s.governorTakesPlant).nva = s.nva ∧ (s.governorTakesPlant).atb = s.atb ∧
    (s.governorTakesPlant).fcl = s.fcl ∧ (s.governorTakesPlant).fsu = s.fsu ∧
    (s.governorTakesPlant).spu = s.spu ∧ (s.governorTakesPlant).msq = s.msq ∧
    (s.governorTakesPlant).svl = s.svl ∧ (s.governorTakesPlant).held = s.held ∧
    (s.governorTakesPlant).free = s.free ∧ (s.governorTakesPlant).pending = s.pending ∧
    (s.governorTakesPlant).bgv.health = s.bgv.health ∧ (s.governorTakesPlant).wgc.plant = s.wgc.plant ∧
    (s.governorTakesPlant).wgc.gateTarget = s.wgc.gateTarget ∧
    (s.governorTakesPlant).wgc.emergency = s.wgc.emergency ∧ (s.governorTakesPlant).wgc.move = s.wgc.move ∧
    (s.governorTakesPlant).wgc.direction = s.wgc.direction ∧
    (s.governorTakesPlant).wgc.timeout = s.wgc.timeout ∧ (s.governorTakesPlant).wgc.pulse = s.wgc.pulse ∧
    (s.governorTakesPlant).wgc.pulses = s.wgc.pulses ∧ (s.governorTakesPlant).wgc.sync = s.wgc.sync ∧
    (s.governorTakesPlant).wgc.runup = s.wgc.runup ∧ (s.governorTakesPlant).wgc.level = s.wgc.level ∧
    (s.governorTakesPlant).wgc.levelLost = s.wgc.levelLost ∧
    (s.governorTakesPlant).wgc.freqOver = s.wgc.freqOver ∧
    (s.governorTakesPlant).wgc.shaftOver = s.wgc.shaftOver ∧
    (s.governorTakesPlant).wgc.rackDiff = s.wgc.rackDiff ∧ (s.governorTakesPlant).wgc.netHead = s.wgc.netHead ∧
    (s.governorTakesPlant).wgc.rackAlarm = s.wgc.rackAlarm ∧
    (s.governorTakesPlant).wgc.residual = s.wgc.residual ∧
    (s.governorTakesPlant).wgc.evalPending = s.wgc.evalPending ∧
    (s.governorTakesPlant).wgc.wasteHeld = s.wgc.wasteHeld := by
  and_intros <;> (unfold State.governorTakesPlant; (try dsimp only); (repeat' split) <;> simp)

@[simp] theorem State.plantChanged_keeps (s : State) :
    (s.plantChanged).msq = s.msq ∧ (s.plantChanged).svl = s.svl ∧ (s.plantChanged).held = s.held ∧
    (s.plantChanged).free = s.free ∧ (s.plantChanged).pending = s.pending ∧
    (s.plantChanged).fsu.captureCount = s.fsu.captureCount ∧
    (s.plantChanged).fsu.lastCrossing = s.fsu.lastCrossing ∧ (s.plantChanged).fsu.reference = s.fsu.reference ∧
    (s.plantChanged).fsu.gap = s.fsu.gap ∧ (s.plantChanged).fsu.rejections = s.fsu.rejections ∧
    (s.plantChanged).fsu.freq = s.fsu.freq ∧ (s.plantChanged).fsu.freqValid = s.fsu.freqValid ∧
    (s.plantChanged).fsu.window = s.fsu.window ∧ (s.plantChanged).fsu.forward = s.fsu.forward ∧
    (s.plantChanged).fsu.reverse = s.fsu.reverse ∧ (s.plantChanged).fsu.revolution = s.fsu.revolution ∧
    (s.plantChanged).fsu.armed = s.fsu.armed ∧ (s.plantChanged).fsu.badRun = s.fsu.badRun ∧
    (s.plantChanged).fsu.goodRun = s.fsu.goodRun ∧ (s.plantChanged).fsu.pickupFault = s.fsu.pickupFault ∧
    (s.plantChanged).fsu.shaftSpeed = s.fsu.shaftSpeed ∧ (s.plantChanged).fsu.direction = s.fsu.direction ∧
    (s.plantChanged).fsu.arborCount = s.fsu.arborCount ∧ (s.plantChanged).fsu.arborSpeed = s.fsu.arborSpeed ∧
    (s.plantChanged).bgv.health = s.bgv.health ∧ (s.plantChanged).wgc.plant = s.wgc.plant ∧
    (s.plantChanged).wgc.gateTarget = s.wgc.gateTarget ∧ (s.plantChanged).wgc.emergency = s.wgc.emergency ∧
    (s.plantChanged).wgc.move = s.wgc.move ∧ (s.plantChanged).wgc.direction = s.wgc.direction ∧
    (s.plantChanged).wgc.timeout = s.wgc.timeout ∧ (s.plantChanged).wgc.pulse = s.wgc.pulse ∧
    (s.plantChanged).wgc.pulses = s.wgc.pulses ∧ (s.plantChanged).wgc.sync = s.wgc.sync ∧
    (s.plantChanged).wgc.runup = s.wgc.runup ∧ (s.plantChanged).wgc.level = s.wgc.level ∧
    (s.plantChanged).wgc.levelLost = s.wgc.levelLost ∧ (s.plantChanged).wgc.freqOver = s.wgc.freqOver ∧
    (s.plantChanged).wgc.shaftOver = s.wgc.shaftOver ∧ (s.plantChanged).wgc.rackDiff = s.wgc.rackDiff ∧
    (s.plantChanged).wgc.netHead = s.wgc.netHead ∧ (s.plantChanged).wgc.rackAlarm = s.wgc.rackAlarm ∧
    (s.plantChanged).wgc.residual = s.wgc.residual ∧ (s.plantChanged).wgc.evalPending = s.wgc.evalPending ∧
    (s.plantChanged).wgc.wasteHeld = s.wgc.wasteHeld := by
  and_intros <;> simp [State.plantChanged]

@[simp] theorem State.trip_keeps (cause : TripCause) (s : State) :
    (s.trip cause).held = s.held ∧ (s.trip cause).free = s.free ∧ (s.trip cause).pending = s.pending ∧
    (s.trip cause).fsu.captureCount = s.fsu.captureCount ∧
    (s.trip cause).fsu.lastCrossing = s.fsu.lastCrossing ∧ (s.trip cause).fsu.reference = s.fsu.reference ∧
    (s.trip cause).fsu.gap = s.fsu.gap ∧ (s.trip cause).fsu.rejections = s.fsu.rejections ∧
    (s.trip cause).fsu.freq = s.fsu.freq ∧ (s.trip cause).fsu.freqValid = s.fsu.freqValid ∧
    (s.trip cause).fsu.window = s.fsu.window ∧ (s.trip cause).fsu.forward = s.fsu.forward ∧
    (s.trip cause).fsu.reverse = s.fsu.reverse ∧ (s.trip cause).fsu.revolution = s.fsu.revolution ∧
    (s.trip cause).fsu.armed = s.fsu.armed ∧ (s.trip cause).fsu.badRun = s.fsu.badRun ∧
    (s.trip cause).fsu.goodRun = s.fsu.goodRun ∧ (s.trip cause).fsu.pickupFault = s.fsu.pickupFault ∧
    (s.trip cause).fsu.shaftSpeed = s.fsu.shaftSpeed ∧ (s.trip cause).fsu.direction = s.fsu.direction ∧
    (s.trip cause).fsu.arborCount = s.fsu.arborCount ∧ (s.trip cause).fsu.arborSpeed = s.fsu.arborSpeed ∧
    (s.trip cause).bgv.health = s.bgv.health ∧ (s.trip cause).svl.rx = s.svl.rx ∧
    (s.trip cause).svl.buffer = s.svl.buffer ∧ (s.trip cause).svl.bytesDue = s.svl.bytesDue ∧
    (s.trip cause).svl.gap = s.svl.gap ∧ (s.trip cause).svl.serving = s.svl.serving ∧
    (s.trip cause).svl.reply = s.svl.reply ∧ (s.trip cause).svl.restartCalled = s.svl.restartCalled ∧
    (s.trip cause).svl.startedUp = s.svl.startedUp ∧ (s.trip cause).svl.settings = s.svl.settings ∧
    (s.trip cause).svl.defaulted = s.svl.defaulted ∧ (s.trip cause).svl.unstored = s.svl.unstored ∧
    (s.trip cause).svl.store = s.svl.store := by
  and_intros <;> (unfold State.trip; (try dsimp only); (repeat' split) <;> simp)

@[simp] theorem State.runDown_keeps (s : State) :
    (s.runDown).held = s.held ∧ (s.runDown).free = s.free ∧ (s.runDown).pending = s.pending ∧
    (s.runDown).fsu.captureCount = s.fsu.captureCount ∧ (s.runDown).fsu.lastCrossing = s.fsu.lastCrossing ∧
    (s.runDown).fsu.reference = s.fsu.reference ∧ (s.runDown).fsu.gap = s.fsu.gap ∧
    (s.runDown).fsu.rejections = s.fsu.rejections ∧ (s.runDown).fsu.freq = s.fsu.freq ∧
    (s.runDown).fsu.freqValid = s.fsu.freqValid ∧ (s.runDown).fsu.window = s.fsu.window ∧
    (s.runDown).fsu.forward = s.fsu.forward ∧ (s.runDown).fsu.reverse = s.fsu.reverse ∧
    (s.runDown).fsu.revolution = s.fsu.revolution ∧ (s.runDown).fsu.armed = s.fsu.armed ∧
    (s.runDown).fsu.badRun = s.fsu.badRun ∧ (s.runDown).fsu.goodRun = s.fsu.goodRun ∧
    (s.runDown).fsu.pickupFault = s.fsu.pickupFault ∧ (s.runDown).fsu.shaftSpeed = s.fsu.shaftSpeed ∧
    (s.runDown).fsu.direction = s.fsu.direction ∧ (s.runDown).fsu.arborCount = s.fsu.arborCount ∧
    (s.runDown).fsu.arborSpeed = s.fsu.arborSpeed ∧ (s.runDown).bgv.health = s.bgv.health ∧
    (s.runDown).svl.rx = s.svl.rx ∧ (s.runDown).svl.buffer = s.svl.buffer ∧
    (s.runDown).svl.bytesDue = s.svl.bytesDue ∧ (s.runDown).svl.gap = s.svl.gap ∧
    (s.runDown).svl.serving = s.svl.serving ∧ (s.runDown).svl.reply = s.svl.reply ∧
    (s.runDown).svl.restartCalled = s.svl.restartCalled ∧ (s.runDown).svl.startedUp = s.svl.startedUp ∧
    (s.runDown).svl.settings = s.svl.settings ∧ (s.runDown).svl.defaulted = s.svl.defaulted ∧
    (s.runDown).svl.unstored = s.svl.unstored ∧ (s.runDown).svl.store = s.svl.store := by
  and_intros <;> (unfold State.runDown; (try dsimp only); (repeat' split) <;> simp)

@[simp] theorem State.enterStandstill_keeps (s : State) :
    (s.enterStandstill).msq = s.msq ∧ (s.enterStandstill).svl = s.svl ∧ (s.enterStandstill).held = s.held ∧
    (s.enterStandstill).free = s.free ∧ (s.enterStandstill).pending = s.pending ∧
    (s.enterStandstill).fsu.captureCount = s.fsu.captureCount ∧
    (s.enterStandstill).fsu.lastCrossing = s.fsu.lastCrossing ∧
    (s.enterStandstill).fsu.reference = s.fsu.reference ∧ (s.enterStandstill).fsu.gap = s.fsu.gap ∧
    (s.enterStandstill).fsu.rejections = s.fsu.rejections ∧ (s.enterStandstill).fsu.freq = s.fsu.freq ∧
    (s.enterStandstill).fsu.freqValid = s.fsu.freqValid ∧ (s.enterStandstill).fsu.window = s.fsu.window ∧
    (s.enterStandstill).fsu.forward = s.fsu.forward ∧ (s.enterStandstill).fsu.reverse = s.fsu.reverse ∧
    (s.enterStandstill).fsu.revolution = s.fsu.revolution ∧ (s.enterStandstill).fsu.armed = s.fsu.armed ∧
    (s.enterStandstill).fsu.badRun = s.fsu.badRun ∧ (s.enterStandstill).fsu.goodRun = s.fsu.goodRun ∧
    (s.enterStandstill).fsu.pickupFault = s.fsu.pickupFault ∧
    (s.enterStandstill).fsu.shaftSpeed = s.fsu.shaftSpeed ∧
    (s.enterStandstill).fsu.direction = s.fsu.direction ∧
    (s.enterStandstill).fsu.arborCount = s.fsu.arborCount ∧
    (s.enterStandstill).fsu.arborSpeed = s.fsu.arborSpeed ∧ (s.enterStandstill).bgv.health = s.bgv.health := by
  and_intros <;> simp [State.enterStandstill]

@[simp] theorem State.clearTrip_keeps (s : State) :
    (s.clearTrip).svl = s.svl ∧ (s.clearTrip).held = s.held ∧ (s.clearTrip).free = s.free ∧
    (s.clearTrip).pending = s.pending ∧ (s.clearTrip).fsu.captureCount = s.fsu.captureCount ∧
    (s.clearTrip).fsu.lastCrossing = s.fsu.lastCrossing ∧ (s.clearTrip).fsu.reference = s.fsu.reference ∧
    (s.clearTrip).fsu.gap = s.fsu.gap ∧ (s.clearTrip).fsu.rejections = s.fsu.rejections ∧
    (s.clearTrip).fsu.freq = s.fsu.freq ∧ (s.clearTrip).fsu.freqValid = s.fsu.freqValid ∧
    (s.clearTrip).fsu.window = s.fsu.window ∧ (s.clearTrip).fsu.forward = s.fsu.forward ∧
    (s.clearTrip).fsu.reverse = s.fsu.reverse ∧ (s.clearTrip).fsu.revolution = s.fsu.revolution ∧
    (s.clearTrip).fsu.armed = s.fsu.armed ∧ (s.clearTrip).fsu.badRun = s.fsu.badRun ∧
    (s.clearTrip).fsu.goodRun = s.fsu.goodRun ∧ (s.clearTrip).fsu.pickupFault = s.fsu.pickupFault ∧
    (s.clearTrip).fsu.shaftSpeed = s.fsu.shaftSpeed ∧ (s.clearTrip).fsu.direction = s.fsu.direction ∧
    (s.clearTrip).fsu.arborCount = s.fsu.arborCount ∧ (s.clearTrip).fsu.arborSpeed = s.fsu.arborSpeed ∧
    (s.clearTrip).bgv.health = s.bgv.health := by
  and_intros <;> (unfold State.clearTrip; (try dsimp only); (repeat' split) <;> simp)

@[simp] theorem State.enterRunUp_keeps (s : State) :
    (s.enterRunUp).held = s.held ∧ (s.enterRunUp).free = s.free ∧ (s.enterRunUp).pending = s.pending ∧
    (s.enterRunUp).fsu.captureCount = s.fsu.captureCount ∧
    (s.enterRunUp).fsu.lastCrossing = s.fsu.lastCrossing ∧ (s.enterRunUp).fsu.reference = s.fsu.reference ∧
    (s.enterRunUp).fsu.gap = s.fsu.gap ∧ (s.enterRunUp).fsu.rejections = s.fsu.rejections ∧
    (s.enterRunUp).fsu.freq = s.fsu.freq ∧ (s.enterRunUp).fsu.freqValid = s.fsu.freqValid ∧
    (s.enterRunUp).fsu.window = s.fsu.window ∧ (s.enterRunUp).fsu.forward = s.fsu.forward ∧
    (s.enterRunUp).fsu.reverse = s.fsu.reverse ∧ (s.enterRunUp).fsu.revolution = s.fsu.revolution ∧
    (s.enterRunUp).fsu.armed = s.fsu.armed ∧ (s.enterRunUp).fsu.badRun = s.fsu.badRun ∧
    (s.enterRunUp).fsu.goodRun = s.fsu.goodRun ∧ (s.enterRunUp).fsu.pickupFault = s.fsu.pickupFault ∧
    (s.enterRunUp).fsu.shaftSpeed = s.fsu.shaftSpeed ∧ (s.enterRunUp).fsu.direction = s.fsu.direction ∧
    (s.enterRunUp).fsu.arborCount = s.fsu.arborCount ∧ (s.enterRunUp).fsu.arborSpeed = s.fsu.arborSpeed ∧
    (s.enterRunUp).bgv.health = s.bgv.health ∧ (s.enterRunUp).svl.rx = s.svl.rx ∧
    (s.enterRunUp).svl.buffer = s.svl.buffer ∧ (s.enterRunUp).svl.bytesDue = s.svl.bytesDue ∧
    (s.enterRunUp).svl.gap = s.svl.gap ∧ (s.enterRunUp).svl.serving = s.svl.serving ∧
    (s.enterRunUp).svl.reply = s.svl.reply ∧ (s.enterRunUp).svl.restartCalled = s.svl.restartCalled ∧
    (s.enterRunUp).svl.startedUp = s.svl.startedUp ∧ (s.enterRunUp).svl.settings = s.svl.settings ∧
    (s.enterRunUp).svl.defaulted = s.svl.defaulted ∧ (s.enterRunUp).svl.unstored = s.svl.unstored ∧
    (s.enterRunUp).svl.store = s.svl.store := by
  and_intros <;> (unfold State.enterRunUp; (try dsimp only); (repeat' split) <;> simp)

@[simp] theorem State.goOnLine_keeps (s : State) :
    (s.goOnLine).msq = s.msq ∧ (s.goOnLine).svl = s.svl ∧ (s.goOnLine).held = s.held ∧
    (s.goOnLine).free = s.free ∧ (s.goOnLine).pending = s.pending ∧
    (s.goOnLine).fsu.captureCount = s.fsu.captureCount ∧ (s.goOnLine).fsu.lastCrossing = s.fsu.lastCrossing ∧
    (s.goOnLine).fsu.reference = s.fsu.reference ∧ (s.goOnLine).fsu.gap = s.fsu.gap ∧
    (s.goOnLine).fsu.rejections = s.fsu.rejections ∧ (s.goOnLine).fsu.freq = s.fsu.freq ∧
    (s.goOnLine).fsu.freqValid = s.fsu.freqValid ∧ (s.goOnLine).fsu.window = s.fsu.window ∧
    (s.goOnLine).fsu.forward = s.fsu.forward ∧ (s.goOnLine).fsu.reverse = s.fsu.reverse ∧
    (s.goOnLine).fsu.revolution = s.fsu.revolution ∧ (s.goOnLine).fsu.armed = s.fsu.armed ∧
    (s.goOnLine).fsu.badRun = s.fsu.badRun ∧ (s.goOnLine).fsu.goodRun = s.fsu.goodRun ∧
    (s.goOnLine).fsu.pickupFault = s.fsu.pickupFault ∧ (s.goOnLine).fsu.shaftSpeed = s.fsu.shaftSpeed ∧
    (s.goOnLine).fsu.direction = s.fsu.direction ∧ (s.goOnLine).fsu.arborCount = s.fsu.arborCount ∧
    (s.goOnLine).fsu.arborSpeed = s.fsu.arborSpeed ∧ (s.goOnLine).bgv.health = s.bgv.health := by
  and_intros <;> simp [State.goOnLine]

@[simp] theorem State.enterWaterShort_keeps (s : State) :
    (s.enterWaterShort).msq = s.msq ∧ (s.enterWaterShort).held = s.held ∧ (s.enterWaterShort).free = s.free ∧
    (s.enterWaterShort).pending = s.pending ∧ (s.enterWaterShort).fsu.captureCount = s.fsu.captureCount ∧
    (s.enterWaterShort).fsu.lastCrossing = s.fsu.lastCrossing ∧
    (s.enterWaterShort).fsu.reference = s.fsu.reference ∧ (s.enterWaterShort).fsu.gap = s.fsu.gap ∧
    (s.enterWaterShort).fsu.rejections = s.fsu.rejections ∧ (s.enterWaterShort).fsu.freq = s.fsu.freq ∧
    (s.enterWaterShort).fsu.freqValid = s.fsu.freqValid ∧ (s.enterWaterShort).fsu.window = s.fsu.window ∧
    (s.enterWaterShort).fsu.forward = s.fsu.forward ∧ (s.enterWaterShort).fsu.reverse = s.fsu.reverse ∧
    (s.enterWaterShort).fsu.revolution = s.fsu.revolution ∧ (s.enterWaterShort).fsu.armed = s.fsu.armed ∧
    (s.enterWaterShort).fsu.badRun = s.fsu.badRun ∧ (s.enterWaterShort).fsu.goodRun = s.fsu.goodRun ∧
    (s.enterWaterShort).fsu.pickupFault = s.fsu.pickupFault ∧
    (s.enterWaterShort).fsu.shaftSpeed = s.fsu.shaftSpeed ∧
    (s.enterWaterShort).fsu.direction = s.fsu.direction ∧
    (s.enterWaterShort).fsu.arborCount = s.fsu.arborCount ∧
    (s.enterWaterShort).fsu.arborSpeed = s.fsu.arborSpeed ∧ (s.enterWaterShort).bgv.health = s.bgv.health ∧
    (s.enterWaterShort).svl.rx = s.svl.rx ∧ (s.enterWaterShort).svl.buffer = s.svl.buffer ∧
    (s.enterWaterShort).svl.bytesDue = s.svl.bytesDue ∧ (s.enterWaterShort).svl.gap = s.svl.gap ∧
    (s.enterWaterShort).svl.serving = s.svl.serving ∧ (s.enterWaterShort).svl.reply = s.svl.reply ∧
    (s.enterWaterShort).svl.restartCalled = s.svl.restartCalled ∧
    (s.enterWaterShort).svl.startedUp = s.svl.startedUp ∧ (s.enterWaterShort).svl.settings = s.svl.settings ∧
    (s.enterWaterShort).svl.defaulted = s.svl.defaulted ∧ (s.enterWaterShort).svl.unstored = s.svl.unstored ∧
    (s.enterWaterShort).svl.store = s.svl.store := by
  and_intros <;> simp [State.enterWaterShort]

@[simp] theorem State.leaveWaterShort_keeps (s : State) :
    (s.leaveWaterShort).msq = s.msq ∧ (s.leaveWaterShort).held = s.held ∧ (s.leaveWaterShort).free = s.free ∧
    (s.leaveWaterShort).pending = s.pending ∧ (s.leaveWaterShort).fsu.captureCount = s.fsu.captureCount ∧
    (s.leaveWaterShort).fsu.lastCrossing = s.fsu.lastCrossing ∧
    (s.leaveWaterShort).fsu.reference = s.fsu.reference ∧ (s.leaveWaterShort).fsu.gap = s.fsu.gap ∧
    (s.leaveWaterShort).fsu.rejections = s.fsu.rejections ∧ (s.leaveWaterShort).fsu.freq = s.fsu.freq ∧
    (s.leaveWaterShort).fsu.freqValid = s.fsu.freqValid ∧ (s.leaveWaterShort).fsu.window = s.fsu.window ∧
    (s.leaveWaterShort).fsu.forward = s.fsu.forward ∧ (s.leaveWaterShort).fsu.reverse = s.fsu.reverse ∧
    (s.leaveWaterShort).fsu.revolution = s.fsu.revolution ∧ (s.leaveWaterShort).fsu.armed = s.fsu.armed ∧
    (s.leaveWaterShort).fsu.badRun = s.fsu.badRun ∧ (s.leaveWaterShort).fsu.goodRun = s.fsu.goodRun ∧
    (s.leaveWaterShort).fsu.pickupFault = s.fsu.pickupFault ∧
    (s.leaveWaterShort).fsu.shaftSpeed = s.fsu.shaftSpeed ∧
    (s.leaveWaterShort).fsu.direction = s.fsu.direction ∧
    (s.leaveWaterShort).fsu.arborCount = s.fsu.arborCount ∧
    (s.leaveWaterShort).fsu.arborSpeed = s.fsu.arborSpeed ∧ (s.leaveWaterShort).bgv.health = s.bgv.health ∧
    (s.leaveWaterShort).svl.rx = s.svl.rx ∧ (s.leaveWaterShort).svl.buffer = s.svl.buffer ∧
    (s.leaveWaterShort).svl.bytesDue = s.svl.bytesDue ∧ (s.leaveWaterShort).svl.gap = s.svl.gap ∧
    (s.leaveWaterShort).svl.serving = s.svl.serving ∧ (s.leaveWaterShort).svl.reply = s.svl.reply ∧
    (s.leaveWaterShort).svl.restartCalled = s.svl.restartCalled ∧
    (s.leaveWaterShort).svl.startedUp = s.svl.startedUp ∧ (s.leaveWaterShort).svl.settings = s.svl.settings ∧
    (s.leaveWaterShort).svl.defaulted = s.svl.defaulted ∧ (s.leaveWaterShort).svl.unstored = s.svl.unstored ∧
    (s.leaveWaterShort).svl.store = s.svl.store := by
  and_intros <;> simp [State.leaveWaterShort]

@[simp] theorem State.restTest_keeps (s : State) :
    (s.restTest).msq = s.msq ∧ (s.restTest).svl = s.svl ∧ (s.restTest).held = s.held ∧
    (s.restTest).free = s.free ∧ (s.restTest).pending = s.pending ∧
    (s.restTest).fsu.captureCount = s.fsu.captureCount ∧ (s.restTest).fsu.lastCrossing = s.fsu.lastCrossing ∧
    (s.restTest).fsu.reference = s.fsu.reference ∧ (s.restTest).fsu.gap = s.fsu.gap ∧
    (s.restTest).fsu.rejections = s.fsu.rejections ∧ (s.restTest).fsu.freq = s.fsu.freq ∧
    (s.restTest).fsu.freqValid = s.fsu.freqValid ∧ (s.restTest).fsu.window = s.fsu.window ∧
    (s.restTest).fsu.forward = s.fsu.forward ∧ (s.restTest).fsu.reverse = s.fsu.reverse ∧
    (s.restTest).fsu.revolution = s.fsu.revolution ∧ (s.restTest).fsu.armed = s.fsu.armed ∧
    (s.restTest).fsu.badRun = s.fsu.badRun ∧ (s.restTest).fsu.goodRun = s.fsu.goodRun ∧
    (s.restTest).fsu.pickupFault = s.fsu.pickupFault ∧ (s.restTest).fsu.shaftSpeed = s.fsu.shaftSpeed ∧
    (s.restTest).fsu.direction = s.fsu.direction ∧ (s.restTest).fsu.arborCount = s.fsu.arborCount ∧
    (s.restTest).fsu.arborSpeed = s.fsu.arborSpeed ∧ (s.restTest).bgv.health = s.bgv.health := by
  and_intros <;> (unfold State.restTest; (try dsimp only); (repeat' split) <;> simp)

@[simp] theorem State.reverseTest_keeps (s : State) :
    (s.reverseTest).held = s.held ∧ (s.reverseTest).free = s.free ∧ (s.reverseTest).pending = s.pending ∧
    (s.reverseTest).fsu.captureCount = s.fsu.captureCount ∧
    (s.reverseTest).fsu.lastCrossing = s.fsu.lastCrossing ∧ (s.reverseTest).fsu.reference = s.fsu.reference ∧
    (s.reverseTest).fsu.gap = s.fsu.gap ∧ (s.reverseTest).fsu.rejections = s.fsu.rejections ∧
    (s.reverseTest).fsu.freq = s.fsu.freq ∧ (s.reverseTest).fsu.freqValid = s.fsu.freqValid ∧
    (s.reverseTest).fsu.window = s.fsu.window ∧ (s.reverseTest).fsu.forward = s.fsu.forward ∧
    (s.reverseTest).fsu.reverse = s.fsu.reverse ∧ (s.reverseTest).fsu.revolution = s.fsu.revolution ∧
    (s.reverseTest).fsu.armed = s.fsu.armed ∧ (s.reverseTest).fsu.badRun = s.fsu.badRun ∧
    (s.reverseTest).fsu.goodRun = s.fsu.goodRun ∧ (s.reverseTest).fsu.pickupFault = s.fsu.pickupFault ∧
    (s.reverseTest).fsu.shaftSpeed = s.fsu.shaftSpeed ∧ (s.reverseTest).fsu.direction = s.fsu.direction ∧
    (s.reverseTest).fsu.arborCount = s.fsu.arborCount ∧ (s.reverseTest).fsu.arborSpeed = s.fsu.arborSpeed ∧
    (s.reverseTest).bgv.health = s.bgv.health ∧ (s.reverseTest).svl.rx = s.svl.rx ∧
    (s.reverseTest).svl.buffer = s.svl.buffer ∧ (s.reverseTest).svl.bytesDue = s.svl.bytesDue ∧
    (s.reverseTest).svl.gap = s.svl.gap ∧ (s.reverseTest).svl.serving = s.svl.serving ∧
    (s.reverseTest).svl.reply = s.svl.reply ∧ (s.reverseTest).svl.restartCalled = s.svl.restartCalled ∧
    (s.reverseTest).svl.startedUp = s.svl.startedUp ∧ (s.reverseTest).svl.settings = s.svl.settings ∧
    (s.reverseTest).svl.defaulted = s.svl.defaulted ∧ (s.reverseTest).svl.unstored = s.svl.unstored ∧
    (s.reverseTest).svl.store = s.svl.store := by
  and_intros <;> (unfold State.reverseTest; (try dsimp only); (repeat' split) <;> simp)

@[simp] theorem State.changeTarget_keeps (target : Nat) (s : State) :
    (s.changeTarget target).nva = s.nva ∧ (s.changeTarget target).atb = s.atb ∧
    (s.changeTarget target).fcl = s.fcl ∧ (s.changeTarget target).fsu = s.fsu ∧
    (s.changeTarget target).bgv = s.bgv ∧ (s.changeTarget target).rsv = s.rsv ∧
    (s.changeTarget target).sld = s.sld ∧ (s.changeTarget target).spu = s.spu ∧
    (s.changeTarget target).svl = s.svl ∧ (s.changeTarget target).held = s.held ∧
    (s.changeTarget target).free = s.free ∧ (s.changeTarget target).pending = s.pending ∧
    (s.changeTarget target).wgc.plant = s.wgc.plant := by
  and_intros <;> (unfold State.changeTarget; (try dsimp only); (repeat' split) <;> simp)

@[simp] theorem State.levelEvaluation_keeps (v : Int) (s : State) :
    (s.levelEvaluation v).nva = s.nva ∧ (s.levelEvaluation v).atb = s.atb ∧ (s.levelEvaluation v).fcl = s.fcl ∧
    (s.levelEvaluation v).fsu = s.fsu ∧ (s.levelEvaluation v).bgv = s.bgv ∧ (s.levelEvaluation v).rsv = s.rsv ∧
    (s.levelEvaluation v).sld = s.sld ∧ (s.levelEvaluation v).spu = s.spu ∧
    (s.levelEvaluation v).held = s.held ∧ (s.levelEvaluation v).free = s.free ∧
    (s.levelEvaluation v).pending = s.pending ∧ (s.levelEvaluation v).wgc.plant = s.wgc.plant ∧
    (s.levelEvaluation v).svl.rx = s.svl.rx ∧ (s.levelEvaluation v).svl.buffer = s.svl.buffer ∧
    (s.levelEvaluation v).svl.bytesDue = s.svl.bytesDue ∧ (s.levelEvaluation v).svl.gap = s.svl.gap ∧
    (s.levelEvaluation v).svl.serving = s.svl.serving ∧ (s.levelEvaluation v).svl.reply = s.svl.reply ∧
    (s.levelEvaluation v).svl.restartCalled = s.svl.restartCalled ∧
    (s.levelEvaluation v).svl.startedUp = s.svl.startedUp ∧
    (s.levelEvaluation v).svl.settings = s.svl.settings ∧
    (s.levelEvaluation v).svl.defaulted = s.svl.defaulted ∧
    (s.levelEvaluation v).svl.unstored = s.svl.unstored ∧ (s.levelEvaluation v).svl.store = s.svl.store := by
  and_intros <;> (unfold State.levelEvaluation; (try dsimp only); (repeat' split) <;> simp)

@[simp] theorem State.rackCheck_keeps (s : State) :
    (s.rackCheck).held = s.held ∧ (s.rackCheck).free = s.free ∧ (s.rackCheck).pending = s.pending ∧
    (s.rackCheck).fsu.captureCount = s.fsu.captureCount ∧ (s.rackCheck).fsu.lastCrossing = s.fsu.lastCrossing ∧
    (s.rackCheck).fsu.reference = s.fsu.reference ∧ (s.rackCheck).fsu.gap = s.fsu.gap ∧
    (s.rackCheck).fsu.rejections = s.fsu.rejections ∧ (s.rackCheck).fsu.freq = s.fsu.freq ∧
    (s.rackCheck).fsu.freqValid = s.fsu.freqValid ∧ (s.rackCheck).fsu.window = s.fsu.window ∧
    (s.rackCheck).fsu.forward = s.fsu.forward ∧ (s.rackCheck).fsu.reverse = s.fsu.reverse ∧
    (s.rackCheck).fsu.revolution = s.fsu.revolution ∧ (s.rackCheck).fsu.armed = s.fsu.armed ∧
    (s.rackCheck).fsu.badRun = s.fsu.badRun ∧ (s.rackCheck).fsu.goodRun = s.fsu.goodRun ∧
    (s.rackCheck).fsu.pickupFault = s.fsu.pickupFault ∧ (s.rackCheck).fsu.shaftSpeed = s.fsu.shaftSpeed ∧
    (s.rackCheck).fsu.direction = s.fsu.direction ∧ (s.rackCheck).fsu.arborCount = s.fsu.arborCount ∧
    (s.rackCheck).fsu.arborSpeed = s.fsu.arborSpeed ∧ (s.rackCheck).bgv.health = s.bgv.health ∧
    (s.rackCheck).svl.rx = s.svl.rx ∧ (s.rackCheck).svl.buffer = s.svl.buffer ∧
    (s.rackCheck).svl.bytesDue = s.svl.bytesDue ∧ (s.rackCheck).svl.gap = s.svl.gap ∧
    (s.rackCheck).svl.serving = s.svl.serving ∧ (s.rackCheck).svl.reply = s.svl.reply ∧
    (s.rackCheck).svl.restartCalled = s.svl.restartCalled ∧ (s.rackCheck).svl.startedUp = s.svl.startedUp ∧
    (s.rackCheck).svl.settings = s.svl.settings ∧ (s.rackCheck).svl.defaulted = s.svl.defaulted ∧
    (s.rackCheck).svl.unstored = s.svl.unstored ∧ (s.rackCheck).svl.store = s.svl.store := by
  and_intros <;> (unfold State.rackCheck; (try dsimp only); (repeat' split) <;> simp)

@[simp] theorem State.headCheck_keeps (s : State) :
    (s.headCheck).held = s.held ∧ (s.headCheck).free = s.free ∧ (s.headCheck).pending = s.pending ∧
    (s.headCheck).fsu.captureCount = s.fsu.captureCount ∧ (s.headCheck).fsu.lastCrossing = s.fsu.lastCrossing ∧
    (s.headCheck).fsu.reference = s.fsu.reference ∧ (s.headCheck).fsu.gap = s.fsu.gap ∧
    (s.headCheck).fsu.rejections = s.fsu.rejections ∧ (s.headCheck).fsu.freq = s.fsu.freq ∧
    (s.headCheck).fsu.freqValid = s.fsu.freqValid ∧ (s.headCheck).fsu.window = s.fsu.window ∧
    (s.headCheck).fsu.forward = s.fsu.forward ∧ (s.headCheck).fsu.reverse = s.fsu.reverse ∧
    (s.headCheck).fsu.revolution = s.fsu.revolution ∧ (s.headCheck).fsu.armed = s.fsu.armed ∧
    (s.headCheck).fsu.badRun = s.fsu.badRun ∧ (s.headCheck).fsu.goodRun = s.fsu.goodRun ∧
    (s.headCheck).fsu.pickupFault = s.fsu.pickupFault ∧ (s.headCheck).fsu.shaftSpeed = s.fsu.shaftSpeed ∧
    (s.headCheck).fsu.direction = s.fsu.direction ∧ (s.headCheck).fsu.arborCount = s.fsu.arborCount ∧
    (s.headCheck).fsu.arborSpeed = s.fsu.arborSpeed ∧ (s.headCheck).bgv.health = s.bgv.health ∧
    (s.headCheck).svl.rx = s.svl.rx ∧ (s.headCheck).svl.buffer = s.svl.buffer ∧
    (s.headCheck).svl.bytesDue = s.svl.bytesDue ∧ (s.headCheck).svl.gap = s.svl.gap ∧
    (s.headCheck).svl.serving = s.svl.serving ∧ (s.headCheck).svl.reply = s.svl.reply ∧
    (s.headCheck).svl.restartCalled = s.svl.restartCalled ∧ (s.headCheck).svl.startedUp = s.svl.startedUp ∧
    (s.headCheck).svl.settings = s.svl.settings ∧ (s.headCheck).svl.defaulted = s.svl.defaulted ∧
    (s.headCheck).svl.unstored = s.svl.unstored ∧ (s.headCheck).svl.store = s.svl.store := by
  and_intros <;> (unfold State.headCheck; (try dsimp only); (repeat' split) <;> simp)

@[simp] theorem State.levelReading_keeps (v : Int) (s : State) :
    (s.levelReading v).held = s.held ∧ (s.levelReading v).free = s.free ∧
    (s.levelReading v).pending = s.pending ∧ (s.levelReading v).fsu.captureCount = s.fsu.captureCount ∧
    (s.levelReading v).fsu.lastCrossing = s.fsu.lastCrossing ∧
    (s.levelReading v).fsu.reference = s.fsu.reference ∧ (s.levelReading v).fsu.gap = s.fsu.gap ∧
    (s.levelReading v).fsu.rejections = s.fsu.rejections ∧ (s.levelReading v).fsu.freq = s.fsu.freq ∧
    (s.levelReading v).fsu.freqValid = s.fsu.freqValid ∧ (s.levelReading v).fsu.window = s.fsu.window ∧
    (s.levelReading v).fsu.forward = s.fsu.forward ∧ (s.levelReading v).fsu.reverse = s.fsu.reverse ∧
    (s.levelReading v).fsu.revolution = s.fsu.revolution ∧ (s.levelReading v).fsu.armed = s.fsu.armed ∧
    (s.levelReading v).fsu.badRun = s.fsu.badRun ∧ (s.levelReading v).fsu.goodRun = s.fsu.goodRun ∧
    (s.levelReading v).fsu.pickupFault = s.fsu.pickupFault ∧
    (s.levelReading v).fsu.shaftSpeed = s.fsu.shaftSpeed ∧ (s.levelReading v).fsu.direction = s.fsu.direction ∧
    (s.levelReading v).fsu.arborCount = s.fsu.arborCount ∧
    (s.levelReading v).fsu.arborSpeed = s.fsu.arborSpeed ∧ (s.levelReading v).bgv.health = s.bgv.health ∧
    (s.levelReading v).svl.rx = s.svl.rx ∧ (s.levelReading v).svl.buffer = s.svl.buffer ∧
    (s.levelReading v).svl.bytesDue = s.svl.bytesDue ∧ (s.levelReading v).svl.gap = s.svl.gap ∧
    (s.levelReading v).svl.serving = s.svl.serving ∧ (s.levelReading v).svl.reply = s.svl.reply ∧
    (s.levelReading v).svl.restartCalled = s.svl.restartCalled ∧
    (s.levelReading v).svl.startedUp = s.svl.startedUp ∧ (s.levelReading v).svl.settings = s.svl.settings ∧
    (s.levelReading v).svl.defaulted = s.svl.defaulted ∧ (s.levelReading v).svl.unstored = s.svl.unstored ∧
    (s.levelReading v).svl.store = s.svl.store := by
  and_intros <;> (unfold State.levelReading; (try dsimp only); (repeat' split) <;> simp)

@[simp] theorem State.waterReading_keeps (c : ChannelNo) (v : Int) (fromSlot2 : Bool) (s : State) :
    (s.waterReading c v fromSlot2).held = s.held ∧ (s.waterReading c v fromSlot2).free = s.free ∧
    (s.waterReading c v fromSlot2).pending = s.pending ∧
    (s.waterReading c v fromSlot2).fsu.captureCount = s.fsu.captureCount ∧
    (s.waterReading c v fromSlot2).fsu.lastCrossing = s.fsu.lastCrossing ∧
    (s.waterReading c v fromSlot2).fsu.reference = s.fsu.reference ∧
    (s.waterReading c v fromSlot2).fsu.gap = s.fsu.gap ∧
    (s.waterReading c v fromSlot2).fsu.rejections = s.fsu.rejections ∧
    (s.waterReading c v fromSlot2).fsu.freq = s.fsu.freq ∧
    (s.waterReading c v fromSlot2).fsu.freqValid = s.fsu.freqValid ∧
    (s.waterReading c v fromSlot2).fsu.window = s.fsu.window ∧
    (s.waterReading c v fromSlot2).fsu.forward = s.fsu.forward ∧
    (s.waterReading c v fromSlot2).fsu.reverse = s.fsu.reverse ∧
    (s.waterReading c v fromSlot2).fsu.revolution = s.fsu.revolution ∧
    (s.waterReading c v fromSlot2).fsu.armed = s.fsu.armed ∧
    (s.waterReading c v fromSlot2).fsu.badRun = s.fsu.badRun ∧
    (s.waterReading c v fromSlot2).fsu.goodRun = s.fsu.goodRun ∧
    (s.waterReading c v fromSlot2).fsu.pickupFault = s.fsu.pickupFault ∧
    (s.waterReading c v fromSlot2).fsu.shaftSpeed = s.fsu.shaftSpeed ∧
    (s.waterReading c v fromSlot2).fsu.direction = s.fsu.direction ∧
    (s.waterReading c v fromSlot2).fsu.arborCount = s.fsu.arborCount ∧
    (s.waterReading c v fromSlot2).fsu.arborSpeed = s.fsu.arborSpeed ∧
    (s.waterReading c v fromSlot2).bgv.health = s.bgv.health ∧
    (s.waterReading c v fromSlot2).svl.rx = s.svl.rx ∧
    (s.waterReading c v fromSlot2).svl.buffer = s.svl.buffer ∧
    (s.waterReading c v fromSlot2).svl.bytesDue = s.svl.bytesDue ∧
    (s.waterReading c v fromSlot2).svl.gap = s.svl.gap ∧
    (s.waterReading c v fromSlot2).svl.serving = s.svl.serving ∧
    (s.waterReading c v fromSlot2).svl.reply = s.svl.reply ∧
    (s.waterReading c v fromSlot2).svl.restartCalled = s.svl.restartCalled ∧
    (s.waterReading c v fromSlot2).svl.startedUp = s.svl.startedUp ∧
    (s.waterReading c v fromSlot2).svl.settings = s.svl.settings ∧
    (s.waterReading c v fromSlot2).svl.defaulted = s.svl.defaulted ∧
    (s.waterReading c v fromSlot2).svl.unstored = s.svl.unstored ∧
    (s.waterReading c v fromSlot2).svl.store = s.svl.store := by
  and_intros <;> (unfold State.waterReading; (try dsimp only); (repeat' split) <;> simp)

@[simp] theorem State.waterTakesFrequency_keeps (s : State) :
    (s.waterTakesFrequency).nva = s.nva ∧ (s.waterTakesFrequency).atb = s.atb ∧
    (s.waterTakesFrequency).fcl = s.fcl ∧ (s.waterTakesFrequency).fsu = s.fsu ∧
    (s.waterTakesFrequency).bgv = s.bgv ∧ (s.waterTakesFrequency).rsv = s.rsv ∧
    (s.waterTakesFrequency).sld = s.sld ∧ (s.waterTakesFrequency).spu = s.spu ∧
    (s.waterTakesFrequency).msq = s.msq ∧ (s.waterTakesFrequency).svl = s.svl ∧
    (s.waterTakesFrequency).held = s.held ∧ (s.waterTakesFrequency).free = s.free ∧
    (s.waterTakesFrequency).pending = s.pending ∧ (s.waterTakesFrequency).wgc.plant = s.wgc.plant := by
  and_intros <;> simp [State.waterTakesFrequency]

@[simp] theorem State.levelExpiry_keeps (s : State) :
    (s.levelExpiry).nva = s.nva ∧ (s.levelExpiry).atb = s.atb ∧ (s.levelExpiry).fcl = s.fcl ∧
    (s.levelExpiry).fsu = s.fsu ∧ (s.levelExpiry).bgv = s.bgv ∧ (s.levelExpiry).rsv = s.rsv ∧
    (s.levelExpiry).sld = s.sld ∧ (s.levelExpiry).spu = s.spu ∧ (s.levelExpiry).msq = s.msq ∧
    (s.levelExpiry).svl = s.svl ∧ (s.levelExpiry).held = s.held ∧ (s.levelExpiry).free = s.free ∧
    (s.levelExpiry).pending = s.pending ∧ (s.levelExpiry).wgc.plant = s.wgc.plant := by
  and_intros <;> simp [State.levelExpiry]

@[simp] theorem State.levelLostExpiry_keeps (s : State) :
    (s.levelLostExpiry).held = s.held ∧ (s.levelLostExpiry).free = s.free ∧
    (s.levelLostExpiry).pending = s.pending ∧ (s.levelLostExpiry).fsu.captureCount = s.fsu.captureCount ∧
    (s.levelLostExpiry).fsu.lastCrossing = s.fsu.lastCrossing ∧
    (s.levelLostExpiry).fsu.reference = s.fsu.reference ∧ (s.levelLostExpiry).fsu.gap = s.fsu.gap ∧
    (s.levelLostExpiry).fsu.rejections = s.fsu.rejections ∧ (s.levelLostExpiry).fsu.freq = s.fsu.freq ∧
    (s.levelLostExpiry).fsu.freqValid = s.fsu.freqValid ∧ (s.levelLostExpiry).fsu.window = s.fsu.window ∧
    (s.levelLostExpiry).fsu.forward = s.fsu.forward ∧ (s.levelLostExpiry).fsu.reverse = s.fsu.reverse ∧
    (s.levelLostExpiry).fsu.revolution = s.fsu.revolution ∧ (s.levelLostExpiry).fsu.armed = s.fsu.armed ∧
    (s.levelLostExpiry).fsu.badRun = s.fsu.badRun ∧ (s.levelLostExpiry).fsu.goodRun = s.fsu.goodRun ∧
    (s.levelLostExpiry).fsu.pickupFault = s.fsu.pickupFault ∧
    (s.levelLostExpiry).fsu.shaftSpeed = s.fsu.shaftSpeed ∧
    (s.levelLostExpiry).fsu.direction = s.fsu.direction ∧
    (s.levelLostExpiry).fsu.arborCount = s.fsu.arborCount ∧
    (s.levelLostExpiry).fsu.arborSpeed = s.fsu.arborSpeed ∧ (s.levelLostExpiry).bgv.health = s.bgv.health ∧
    (s.levelLostExpiry).svl.rx = s.svl.rx ∧ (s.levelLostExpiry).svl.buffer = s.svl.buffer ∧
    (s.levelLostExpiry).svl.bytesDue = s.svl.bytesDue ∧ (s.levelLostExpiry).svl.gap = s.svl.gap ∧
    (s.levelLostExpiry).svl.serving = s.svl.serving ∧ (s.levelLostExpiry).svl.reply = s.svl.reply ∧
    (s.levelLostExpiry).svl.restartCalled = s.svl.restartCalled ∧
    (s.levelLostExpiry).svl.startedUp = s.svl.startedUp ∧ (s.levelLostExpiry).svl.settings = s.svl.settings ∧
    (s.levelLostExpiry).svl.defaulted = s.svl.defaulted ∧ (s.levelLostExpiry).svl.unstored = s.svl.unstored ∧
    (s.levelLostExpiry).svl.store = s.svl.store := by
  and_intros <;> simp [State.levelLostExpiry]

@[simp] theorem State.gateTimeout_keeps (s : State) :
    (s.gateTimeout).held = s.held ∧ (s.gateTimeout).free = s.free ∧ (s.gateTimeout).pending = s.pending ∧
    (s.gateTimeout).fsu.captureCount = s.fsu.captureCount ∧
    (s.gateTimeout).fsu.lastCrossing = s.fsu.lastCrossing ∧ (s.gateTimeout).fsu.reference = s.fsu.reference ∧
    (s.gateTimeout).fsu.gap = s.fsu.gap ∧ (s.gateTimeout).fsu.rejections = s.fsu.rejections ∧
    (s.gateTimeout).fsu.freq = s.fsu.freq ∧ (s.gateTimeout).fsu.freqValid = s.fsu.freqValid ∧
    (s.gateTimeout).fsu.window = s.fsu.window ∧ (s.gateTimeout).fsu.forward = s.fsu.forward ∧
    (s.gateTimeout).fsu.reverse = s.fsu.reverse ∧ (s.gateTimeout).fsu.revolution = s.fsu.revolution ∧
    (s.gateTimeout).fsu.armed = s.fsu.armed ∧ (s.gateTimeout).fsu.badRun = s.fsu.badRun ∧
    (s.gateTimeout).fsu.goodRun = s.fsu.goodRun ∧ (s.gateTimeout).fsu.pickupFault = s.fsu.pickupFault ∧
    (s.gateTimeout).fsu.shaftSpeed = s.fsu.shaftSpeed ∧ (s.gateTimeout).fsu.direction = s.fsu.direction ∧
    (s.gateTimeout).fsu.arborCount = s.fsu.arborCount ∧ (s.gateTimeout).fsu.arborSpeed = s.fsu.arborSpeed ∧
    (s.gateTimeout).bgv.health = s.bgv.health ∧ (s.gateTimeout).svl.rx = s.svl.rx ∧
    (s.gateTimeout).svl.buffer = s.svl.buffer ∧ (s.gateTimeout).svl.bytesDue = s.svl.bytesDue ∧
    (s.gateTimeout).svl.gap = s.svl.gap ∧ (s.gateTimeout).svl.serving = s.svl.serving ∧
    (s.gateTimeout).svl.reply = s.svl.reply ∧ (s.gateTimeout).svl.restartCalled = s.svl.restartCalled ∧
    (s.gateTimeout).svl.startedUp = s.svl.startedUp ∧ (s.gateTimeout).svl.settings = s.svl.settings ∧
    (s.gateTimeout).svl.defaulted = s.svl.defaulted ∧ (s.gateTimeout).svl.unstored = s.svl.unstored ∧
    (s.gateTimeout).svl.store = s.svl.store := by
  and_intros <;> simp [State.gateTimeout]

/-! ## The governor -/

@[simp] theorem Bgv.compute_keeps (set : Settings) (f : Nat) (b : Bgv) :
    (b.compute set f).health = b.health ∧ (b.compute set f).switched = b.switched := ⟨rfl, rfl⟩

@[simp] theorem State.governorPeriod_keeps (s : State) :
    (s.governorPeriod).nva = s.nva ∧ (s.governorPeriod).atb = s.atb ∧ (s.governorPeriod).fcl = s.fcl ∧
    (s.governorPeriod).fsu = s.fsu ∧ (s.governorPeriod).spu = s.spu ∧ (s.governorPeriod).svl = s.svl ∧
    (s.governorPeriod).held = s.held ∧ (s.governorPeriod).free = s.free ∧
    (s.governorPeriod).pending = s.pending ∧ (s.governorPeriod).bgv.health = s.bgv.health ∧
    (s.governorPeriod).wgc.plant = s.wgc.plant ∧ (s.governorPeriod).wgc.gateTarget = s.wgc.gateTarget ∧
    (s.governorPeriod).wgc.emergency = s.wgc.emergency ∧ (s.governorPeriod).wgc.move = s.wgc.move ∧
    (s.governorPeriod).wgc.direction = s.wgc.direction ∧ (s.governorPeriod).wgc.timeout = s.wgc.timeout ∧
    (s.governorPeriod).wgc.pulse = s.wgc.pulse ∧ (s.governorPeriod).wgc.pulses = s.wgc.pulses ∧
    (s.governorPeriod).wgc.sync = s.wgc.sync ∧ (s.governorPeriod).wgc.runup = s.wgc.runup ∧
    (s.governorPeriod).wgc.level = s.wgc.level ∧ (s.governorPeriod).wgc.levelLost = s.wgc.levelLost ∧
    (s.governorPeriod).wgc.freqOver = s.wgc.freqOver ∧ (s.governorPeriod).wgc.shaftOver = s.wgc.shaftOver ∧
    (s.governorPeriod).wgc.rackDiff = s.wgc.rackDiff ∧ (s.governorPeriod).wgc.netHead = s.wgc.netHead ∧
    (s.governorPeriod).wgc.rackAlarm = s.wgc.rackAlarm ∧ (s.governorPeriod).wgc.residual = s.wgc.residual ∧
    (s.governorPeriod).wgc.evalPending = s.wgc.evalPending ∧ (s.governorPeriod).wgc.wasteHeld = s.wgc.wasteHeld := by
  and_intros <;> (unfold State.governorPeriod; (try dsimp only); (repeat' split) <;> simp)

@[simp] theorem State.testIfJoined_keeps (before : Banks) (g : Stage) (s : State) :
    (s.testIfJoined before g).nva = s.nva ∧ (s.testIfJoined before g).atb = s.atb ∧
    (s.testIfJoined before g).fcl = s.fcl ∧ (s.testIfJoined before g).fsu = s.fsu ∧
    (s.testIfJoined before g).bgv = s.bgv ∧ (s.testIfJoined before g).rsv = s.rsv ∧
    (s.testIfJoined before g).sld = s.sld ∧ (s.testIfJoined before g).spu = s.spu ∧
    (s.testIfJoined before g).wgc = s.wgc ∧ (s.testIfJoined before g).svl = s.svl ∧
    (s.testIfJoined before g).held = s.held ∧ (s.testIfJoined before g).free = s.free ∧
    (s.testIfJoined before g).pending = s.pending := by
  and_intros <;> (unfold State.testIfJoined; (try dsimp only); (repeat' split) <;> simp)

@[simp] theorem State.switchingInstant_keeps (s : State) :
    (s.switchingInstant).nva = s.nva ∧ (s.switchingInstant).atb = s.atb ∧ (s.switchingInstant).fcl = s.fcl ∧
    (s.switchingInstant).fsu = s.fsu ∧ (s.switchingInstant).rsv = s.rsv ∧ (s.switchingInstant).sld = s.sld ∧
    (s.switchingInstant).spu = s.spu ∧ (s.switchingInstant).wgc = s.wgc ∧ (s.switchingInstant).svl = s.svl ∧
    (s.switchingInstant).held = s.held ∧ (s.switchingInstant).free = s.free ∧
    (s.switchingInstant).pending = s.pending ∧ (s.switchingInstant).bgv.health = s.bgv.health := by
  and_intros <;> (unfold State.switchingInstant; (try dsimp only); (repeat' split) <;> simp)

@[simp] theorem State.faultStage_keeps (g : Stage) (s : State) :
    (s.faultStage g).nva = s.nva ∧ (s.faultStage g).atb = s.atb ∧ (s.faultStage g).fcl = s.fcl ∧
    (s.faultStage g).fsu = s.fsu ∧ (s.faultStage g).rsv = s.rsv ∧ (s.faultStage g).sld = s.sld ∧
    (s.faultStage g).spu = s.spu ∧ (s.faultStage g).msq = s.msq ∧ (s.faultStage g).wgc = s.wgc ∧
    (s.faultStage g).held = s.held ∧ (s.faultStage g).free = s.free ∧ (s.faultStage g).pending = s.pending ∧
    (s.faultStage g).svl.rx = s.svl.rx ∧ (s.faultStage g).svl.buffer = s.svl.buffer ∧
    (s.faultStage g).svl.bytesDue = s.svl.bytesDue ∧ (s.faultStage g).svl.gap = s.svl.gap ∧
    (s.faultStage g).svl.serving = s.svl.serving ∧ (s.faultStage g).svl.reply = s.svl.reply ∧
    (s.faultStage g).svl.restartCalled = s.svl.restartCalled ∧
    (s.faultStage g).svl.startedUp = s.svl.startedUp ∧ (s.faultStage g).svl.settings = s.svl.settings ∧
    (s.faultStage g).svl.defaulted = s.svl.defaulted ∧ (s.faultStage g).svl.unstored = s.svl.unstored ∧
    (s.faultStage g).svl.store = s.svl.store := by
  and_intros <;> simp [State.faultStage]

@[simp] theorem State.judgeStage_keeps (g : Stage) (v : Int) (s : State) :
    (s.judgeStage g v).nva = s.nva ∧ (s.judgeStage g v).atb = s.atb ∧ (s.judgeStage g v).fcl = s.fcl ∧
    (s.judgeStage g v).fsu = s.fsu ∧ (s.judgeStage g v).rsv = s.rsv ∧ (s.judgeStage g v).sld = s.sld ∧
    (s.judgeStage g v).spu = s.spu ∧ (s.judgeStage g v).msq = s.msq ∧ (s.judgeStage g v).wgc = s.wgc ∧
    (s.judgeStage g v).held = s.held ∧ (s.judgeStage g v).free = s.free ∧
    (s.judgeStage g v).pending = s.pending ∧ (s.judgeStage g v).svl.rx = s.svl.rx ∧
    (s.judgeStage g v).svl.buffer = s.svl.buffer ∧ (s.judgeStage g v).svl.bytesDue = s.svl.bytesDue ∧
    (s.judgeStage g v).svl.gap = s.svl.gap ∧ (s.judgeStage g v).svl.serving = s.svl.serving ∧
    (s.judgeStage g v).svl.reply = s.svl.reply ∧ (s.judgeStage g v).svl.restartCalled = s.svl.restartCalled ∧
    (s.judgeStage g v).svl.startedUp = s.svl.startedUp ∧ (s.judgeStage g v).svl.settings = s.svl.settings ∧
    (s.judgeStage g v).svl.defaulted = s.svl.defaulted ∧ (s.judgeStage g v).svl.unstored = s.svl.unstored ∧
    (s.judgeStage g v).svl.store = s.svl.store := by
  and_intros <;> (unfold State.judgeStage; (try dsimp only); (repeat' split) <;> simp)

@[simp] theorem State.governorLosesFrequency_keeps (s : State) :
    (s.governorLosesFrequency).nva = s.nva ∧ (s.governorLosesFrequency).atb = s.atb ∧
    (s.governorLosesFrequency).fcl = s.fcl ∧ (s.governorLosesFrequency).fsu = s.fsu ∧
    (s.governorLosesFrequency).rsv = s.rsv ∧ (s.governorLosesFrequency).sld = s.sld ∧
    (s.governorLosesFrequency).spu = s.spu ∧ (s.governorLosesFrequency).msq = s.msq ∧
    (s.governorLosesFrequency).wgc = s.wgc ∧ (s.governorLosesFrequency).svl = s.svl ∧
    (s.governorLosesFrequency).held = s.held ∧ (s.governorLosesFrequency).free = s.free ∧
    (s.governorLosesFrequency).pending = s.pending ∧ (s.governorLosesFrequency).bgv.health = s.bgv.health := by
  and_intros <;> (unfold State.governorLosesFrequency; (try dsimp only); (repeat' split) <;> simp)

@[simp] theorem State.holdExpiry_keeps (s : State) :
    (s.holdExpiry).held = s.held ∧ (s.holdExpiry).free = s.free ∧ (s.holdExpiry).pending = s.pending ∧
    (s.holdExpiry).fsu.captureCount = s.fsu.captureCount ∧
    (s.holdExpiry).fsu.lastCrossing = s.fsu.lastCrossing ∧ (s.holdExpiry).fsu.reference = s.fsu.reference ∧
    (s.holdExpiry).fsu.gap = s.fsu.gap ∧ (s.holdExpiry).fsu.rejections = s.fsu.rejections ∧
    (s.holdExpiry).fsu.freq = s.fsu.freq ∧ (s.holdExpiry).fsu.freqValid = s.fsu.freqValid ∧
    (s.holdExpiry).fsu.window = s.fsu.window ∧ (s.holdExpiry).fsu.forward = s.fsu.forward ∧
    (s.holdExpiry).fsu.reverse = s.fsu.reverse ∧ (s.holdExpiry).fsu.revolution = s.fsu.revolution ∧
    (s.holdExpiry).fsu.armed = s.fsu.armed ∧ (s.holdExpiry).fsu.badRun = s.fsu.badRun ∧
    (s.holdExpiry).fsu.goodRun = s.fsu.goodRun ∧ (s.holdExpiry).fsu.pickupFault = s.fsu.pickupFault ∧
    (s.holdExpiry).fsu.shaftSpeed = s.fsu.shaftSpeed ∧ (s.holdExpiry).fsu.direction = s.fsu.direction ∧
    (s.holdExpiry).fsu.arborCount = s.fsu.arborCount ∧ (s.holdExpiry).fsu.arborSpeed = s.fsu.arborSpeed ∧
    (s.holdExpiry).bgv.health = s.bgv.health ∧ (s.holdExpiry).svl.rx = s.svl.rx ∧
    (s.holdExpiry).svl.buffer = s.svl.buffer ∧ (s.holdExpiry).svl.bytesDue = s.svl.bytesDue ∧
    (s.holdExpiry).svl.gap = s.svl.gap ∧ (s.holdExpiry).svl.serving = s.svl.serving ∧
    (s.holdExpiry).svl.reply = s.svl.reply ∧ (s.holdExpiry).svl.restartCalled = s.svl.restartCalled ∧
    (s.holdExpiry).svl.startedUp = s.svl.startedUp ∧ (s.holdExpiry).svl.settings = s.svl.settings ∧
    (s.holdExpiry).svl.defaulted = s.svl.defaulted ∧ (s.holdExpiry).svl.unstored = s.svl.unstored ∧
    (s.holdExpiry).svl.store = s.svl.store := by
  and_intros <;> (unfold State.holdExpiry; (try dsimp only); (repeat' split) <;> simp)

/-! ## Frequency and speed -/

@[simp] theorem State.frequencyLost_keeps (s : State) :
    (s.frequencyLost).msq = s.msq ∧ (s.frequencyLost).held = s.held ∧ (s.frequencyLost).free = s.free ∧
    (s.frequencyLost).pending = s.pending ∧ (s.frequencyLost).bgv.health = s.bgv.health ∧
    (s.frequencyLost).svl.rx = s.svl.rx ∧ (s.frequencyLost).svl.buffer = s.svl.buffer ∧
    (s.frequencyLost).svl.bytesDue = s.svl.bytesDue ∧ (s.frequencyLost).svl.gap = s.svl.gap ∧
    (s.frequencyLost).svl.serving = s.svl.serving ∧ (s.frequencyLost).svl.reply = s.svl.reply ∧
    (s.frequencyLost).svl.restartCalled = s.svl.restartCalled ∧
    (s.frequencyLost).svl.startedUp = s.svl.startedUp ∧ (s.frequencyLost).svl.settings = s.svl.settings ∧
    (s.frequencyLost).svl.defaulted = s.svl.defaulted ∧ (s.frequencyLost).svl.unstored = s.svl.unstored ∧
    (s.frequencyLost).svl.store = s.svl.store := by
  and_intros <;> (unfold State.frequencyLost; (try dsimp only); (repeat' split) <;> simp)

@[simp] theorem State.reject_keeps (s : State) :
    (s.reject).msq = s.msq ∧ (s.reject).held = s.held ∧ (s.reject).free = s.free ∧
    (s.reject).pending = s.pending ∧ (s.reject).bgv.health = s.bgv.health ∧ (s.reject).svl.rx = s.svl.rx ∧
    (s.reject).svl.buffer = s.svl.buffer ∧ (s.reject).svl.bytesDue = s.svl.bytesDue ∧
    (s.reject).svl.gap = s.svl.gap ∧ (s.reject).svl.serving = s.svl.serving ∧
    (s.reject).svl.reply = s.svl.reply ∧ (s.reject).svl.restartCalled = s.svl.restartCalled ∧
    (s.reject).svl.startedUp = s.svl.startedUp ∧ (s.reject).svl.settings = s.svl.settings ∧
    (s.reject).svl.defaulted = s.svl.defaulted ∧ (s.reject).svl.unstored = s.svl.unstored ∧
    (s.reject).svl.store = s.svl.store := by
  and_intros <;> (unfold State.reject; (try dsimp only); (repeat' split) <;> simp)

@[simp] theorem State.periodEvent_keeps (p : Nat) (s : State) :
    (s.periodEvent p).svl = s.svl ∧ (s.periodEvent p).held = s.held ∧ (s.periodEvent p).free = s.free ∧
    (s.periodEvent p).pending = s.pending ∧ (s.periodEvent p).bgv.health = s.bgv.health := by
  and_intros <;> (unfold State.periodEvent; (try dsimp only); (repeat' split) <;> simp)

@[simp] theorem State.judgeCapture_keeps (c : BitVec 32) (s : State) :
    (s.judgeCapture c).held = s.held ∧ (s.judgeCapture c).free = s.free ∧
    (s.judgeCapture c).pending = s.pending ∧ (s.judgeCapture c).bgv.health = s.bgv.health ∧
    (s.judgeCapture c).svl.rx = s.svl.rx ∧ (s.judgeCapture c).svl.buffer = s.svl.buffer ∧
    (s.judgeCapture c).svl.bytesDue = s.svl.bytesDue ∧ (s.judgeCapture c).svl.gap = s.svl.gap ∧
    (s.judgeCapture c).svl.serving = s.svl.serving ∧ (s.judgeCapture c).svl.reply = s.svl.reply ∧
    (s.judgeCapture c).svl.restartCalled = s.svl.restartCalled ∧
    (s.judgeCapture c).svl.startedUp = s.svl.startedUp ∧ (s.judgeCapture c).svl.settings = s.svl.settings ∧
    (s.judgeCapture c).svl.defaulted = s.svl.defaulted ∧ (s.judgeCapture c).svl.unstored = s.svl.unstored ∧
    (s.judgeCapture c).svl.store = s.svl.store := by
  and_intros <;> (unfold State.judgeCapture; (try dsimp only); (repeat' split) <;> simp)

@[simp] theorem State.crossing_keeps (c : BitVec 32) (s : State) :
    (s.crossing c).held = s.held ∧ (s.crossing c).free = s.free ∧ (s.crossing c).pending = s.pending ∧
    (s.crossing c).bgv.health = s.bgv.health ∧ (s.crossing c).svl.rx = s.svl.rx ∧
    (s.crossing c).svl.buffer = s.svl.buffer ∧ (s.crossing c).svl.bytesDue = s.svl.bytesDue ∧
    (s.crossing c).svl.gap = s.svl.gap ∧ (s.crossing c).svl.serving = s.svl.serving ∧
    (s.crossing c).svl.reply = s.svl.reply ∧ (s.crossing c).svl.restartCalled = s.svl.restartCalled ∧
    (s.crossing c).svl.startedUp = s.svl.startedUp ∧ (s.crossing c).svl.settings = s.svl.settings ∧
    (s.crossing c).svl.defaulted = s.svl.defaulted ∧ (s.crossing c).svl.unstored = s.svl.unstored ∧
    (s.crossing c).svl.store = s.svl.store := by
  and_intros <;> (unfold State.crossing; (try dsimp only); (repeat' split) <;> simp)

@[simp] theorem State.gapExpiry_keeps (s : State) :
    (s.gapExpiry).msq = s.msq ∧ (s.gapExpiry).held = s.held ∧ (s.gapExpiry).free = s.free ∧
    (s.gapExpiry).pending = s.pending ∧ (s.gapExpiry).bgv.health = s.bgv.health ∧
    (s.gapExpiry).svl.rx = s.svl.rx ∧ (s.gapExpiry).svl.buffer = s.svl.buffer ∧
    (s.gapExpiry).svl.bytesDue = s.svl.bytesDue ∧ (s.gapExpiry).svl.gap = s.svl.gap ∧
    (s.gapExpiry).svl.serving = s.svl.serving ∧ (s.gapExpiry).svl.reply = s.svl.reply ∧
    (s.gapExpiry).svl.restartCalled = s.svl.restartCalled ∧ (s.gapExpiry).svl.startedUp = s.svl.startedUp ∧
    (s.gapExpiry).svl.settings = s.svl.settings ∧ (s.gapExpiry).svl.defaulted = s.svl.defaulted ∧
    (s.gapExpiry).svl.unstored = s.svl.unstored ∧ (s.gapExpiry).svl.store = s.svl.store := by
  and_intros <;> simp [State.gapExpiry]

@[simp] theorem State.shaftValidityChanged_keeps (s : State) :
    (s.shaftValidityChanged).msq = s.msq ∧ (s.shaftValidityChanged).svl = s.svl ∧
    (s.shaftValidityChanged).held = s.held ∧ (s.shaftValidityChanged).free = s.free ∧
    (s.shaftValidityChanged).pending = s.pending ∧ (s.shaftValidityChanged).bgv.health = s.bgv.health := by
  and_intros <;> simp [State.shaftValidityChanged]

@[simp] theorem State.goodRevolution_keeps (s : State) :
    (s.goodRevolution).msq = s.msq ∧ (s.goodRevolution).svl = s.svl ∧ (s.goodRevolution).held = s.held ∧
    (s.goodRevolution).free = s.free ∧ (s.goodRevolution).pending = s.pending ∧
    (s.goodRevolution).bgv.health = s.bgv.health := by
  and_intros <;> (unfold State.goodRevolution; (try dsimp only); (repeat' split) <;> simp)

@[simp] theorem State.badRevolution_keeps (s : State) :
    (s.badRevolution).msq = s.msq ∧ (s.badRevolution).held = s.held ∧ (s.badRevolution).free = s.free ∧
    (s.badRevolution).pending = s.pending ∧ (s.badRevolution).bgv.health = s.bgv.health ∧
    (s.badRevolution).svl.rx = s.svl.rx ∧ (s.badRevolution).svl.buffer = s.svl.buffer ∧
    (s.badRevolution).svl.bytesDue = s.svl.bytesDue ∧ (s.badRevolution).svl.gap = s.svl.gap ∧
    (s.badRevolution).svl.serving = s.svl.serving ∧ (s.badRevolution).svl.reply = s.svl.reply ∧
    (s.badRevolution).svl.restartCalled = s.svl.restartCalled ∧
    (s.badRevolution).svl.startedUp = s.svl.startedUp ∧ (s.badRevolution).svl.settings = s.svl.settings ∧
    (s.badRevolution).svl.defaulted = s.svl.defaulted ∧ (s.badRevolution).svl.unstored = s.svl.unstored ∧
    (s.badRevolution).svl.store = s.svl.store := by
  and_intros <;> (unfold State.badRevolution; (try dsimp only); (repeat' split) <;> simp)

@[simp] theorem State.lostIndexTest_keeps (s : State) :
    (s.lostIndexTest).msq = s.msq ∧ (s.lostIndexTest).held = s.held ∧ (s.lostIndexTest).free = s.free ∧
    (s.lostIndexTest).pending = s.pending ∧ (s.lostIndexTest).bgv.health = s.bgv.health ∧
    (s.lostIndexTest).svl.rx = s.svl.rx ∧ (s.lostIndexTest).svl.buffer = s.svl.buffer ∧
    (s.lostIndexTest).svl.bytesDue = s.svl.bytesDue ∧ (s.lostIndexTest).svl.gap = s.svl.gap ∧
    (s.lostIndexTest).svl.serving = s.svl.serving ∧ (s.lostIndexTest).svl.reply = s.svl.reply ∧
    (s.lostIndexTest).svl.restartCalled = s.svl.restartCalled ∧
    (s.lostIndexTest).svl.startedUp = s.svl.startedUp ∧ (s.lostIndexTest).svl.settings = s.svl.settings ∧
    (s.lostIndexTest).svl.defaulted = s.svl.defaulted ∧ (s.lostIndexTest).svl.unstored = s.svl.unstored ∧
    (s.lostIndexTest).svl.store = s.svl.store := by
  and_intros <;> (unfold State.lostIndexTest; (try dsimp only); (repeat' split) <;> simp)

@[simp] theorem State.shaftPulse_keeps (trackB : Bool) (s : State) :
    (s.shaftPulse trackB).msq = s.msq ∧ (s.shaftPulse trackB).held = s.held ∧
    (s.shaftPulse trackB).free = s.free ∧ (s.shaftPulse trackB).pending = s.pending ∧
    (s.shaftPulse trackB).bgv.health = s.bgv.health ∧ (s.shaftPulse trackB).svl.rx = s.svl.rx ∧
    (s.shaftPulse trackB).svl.buffer = s.svl.buffer ∧ (s.shaftPulse trackB).svl.bytesDue = s.svl.bytesDue ∧
    (s.shaftPulse trackB).svl.gap = s.svl.gap ∧ (s.shaftPulse trackB).svl.serving = s.svl.serving ∧
    (s.shaftPulse trackB).svl.reply = s.svl.reply ∧
    (s.shaftPulse trackB).svl.restartCalled = s.svl.restartCalled ∧
    (s.shaftPulse trackB).svl.startedUp = s.svl.startedUp ∧
    (s.shaftPulse trackB).svl.settings = s.svl.settings ∧
    (s.shaftPulse trackB).svl.defaulted = s.svl.defaulted ∧
    (s.shaftPulse trackB).svl.unstored = s.svl.unstored ∧ (s.shaftPulse trackB).svl.store = s.svl.store := by
  and_intros <;> (unfold State.shaftPulse; (try dsimp only); (repeat' split) <;> simp)

@[simp] theorem State.indexEdge_keeps (s : State) :
    (s.indexEdge).msq = s.msq ∧ (s.indexEdge).held = s.held ∧ (s.indexEdge).free = s.free ∧
    (s.indexEdge).pending = s.pending ∧ (s.indexEdge).bgv.health = s.bgv.health ∧
    (s.indexEdge).svl.rx = s.svl.rx ∧ (s.indexEdge).svl.buffer = s.svl.buffer ∧
    (s.indexEdge).svl.bytesDue = s.svl.bytesDue ∧ (s.indexEdge).svl.gap = s.svl.gap ∧
    (s.indexEdge).svl.serving = s.svl.serving ∧ (s.indexEdge).svl.reply = s.svl.reply ∧
    (s.indexEdge).svl.restartCalled = s.svl.restartCalled ∧ (s.indexEdge).svl.startedUp = s.svl.startedUp ∧
    (s.indexEdge).svl.settings = s.svl.settings ∧ (s.indexEdge).svl.defaulted = s.svl.defaulted ∧
    (s.indexEdge).svl.unstored = s.svl.unstored ∧ (s.indexEdge).svl.store = s.svl.store := by
  and_intros <;> (unfold State.indexEdge; (try dsimp only); (repeat' split) <;> simp)

@[simp] theorem State.stationWindow_keeps (i : StationNo) (s : State) :
    (s.stationWindow i).nva = s.nva ∧ (s.stationWindow i).atb = s.atb ∧ (s.stationWindow i).fcl = s.fcl ∧
    (s.stationWindow i).fsu = s.fsu ∧ (s.stationWindow i).bgv = s.bgv ∧ (s.stationWindow i).sld = s.sld ∧
    (s.stationWindow i).msq = s.msq ∧ (s.stationWindow i).wgc = s.wgc ∧ (s.stationWindow i).svl = s.svl ∧
    (s.stationWindow i).held = s.held ∧ (s.stationWindow i).free = s.free ∧
    (s.stationWindow i).pending = s.pending := by
  and_intros <;> (unfold State.stationWindow; (try dsimp only); (repeat' split) <;> simp)

@[simp] theorem State.windowEnd_keeps (s : State) :
    s.windowEnd.held = s.held ∧ s.windowEnd.free = s.free ∧ s.windowEnd.pending = s.pending ∧
    s.windowEnd.bgv.health = s.bgv.health ∧ s.windowEnd.svl.rx = s.svl.rx ∧
    s.windowEnd.svl.buffer = s.svl.buffer ∧ s.windowEnd.svl.bytesDue = s.svl.bytesDue ∧
    s.windowEnd.svl.gap = s.svl.gap ∧ s.windowEnd.svl.serving = s.svl.serving ∧
    s.windowEnd.svl.reply = s.svl.reply ∧ s.windowEnd.svl.restartCalled = s.svl.restartCalled ∧
    s.windowEnd.svl.startedUp = s.svl.startedUp ∧ s.windowEnd.svl.settings = s.svl.settings ∧
    s.windowEnd.svl.defaulted = s.svl.defaulted ∧ s.windowEnd.svl.unstored = s.svl.unstored ∧
    s.windowEnd.svl.store = s.svl.store := by
  unfold State.windowEnd
  and_intros
  · simp only [State.reverseTest_keeps, State.shaftOverTest_keeps, State.restTest_keeps]
    exact (State.eachStation_keeps (fun t : State => t.held) _ (by simp) _).trans (by simp)
  · simp only [State.reverseTest_keeps, State.shaftOverTest_keeps, State.restTest_keeps]
    exact (State.eachStation_keeps (fun t : State => t.free) _ (by simp) _).trans (by simp)
  · simp only [State.reverseTest_keeps, State.shaftOverTest_keeps, State.restTest_keeps]
    exact (State.eachStation_keeps (fun t : State => t.pending) _ (by simp) _).trans (by simp)
  · simp only [State.reverseTest_keeps, State.shaftOverTest_keeps, State.restTest_keeps]
    exact (State.eachStation_keeps (fun t : State => t.bgv.health) _ (by simp) _).trans (by simp)
  · simp only [State.reverseTest_keeps, State.shaftOverTest_keeps, State.restTest_keeps]
    exact (State.eachStation_keeps (fun t : State => t.svl.rx) _ (by simp) _).trans (by simp)
  · simp only [State.reverseTest_keeps, State.shaftOverTest_keeps, State.restTest_keeps]
    exact (State.eachStation_keeps (fun t : State => t.svl.buffer) _ (by simp) _).trans (by simp)
  · simp only [State.reverseTest_keeps, State.shaftOverTest_keeps, State.restTest_keeps]
    exact (State.eachStation_keeps (fun t : State => t.svl.bytesDue) _ (by simp) _).trans (by simp)
  · simp only [State.reverseTest_keeps, State.shaftOverTest_keeps, State.restTest_keeps]
    exact (State.eachStation_keeps (fun t : State => t.svl.gap) _ (by simp) _).trans (by simp)
  · simp only [State.reverseTest_keeps, State.shaftOverTest_keeps, State.restTest_keeps]
    exact (State.eachStation_keeps (fun t : State => t.svl.serving) _ (by simp) _).trans (by simp)
  · simp only [State.reverseTest_keeps, State.shaftOverTest_keeps, State.restTest_keeps]
    exact (State.eachStation_keeps (fun t : State => t.svl.reply) _ (by simp) _).trans (by simp)
  · simp only [State.reverseTest_keeps, State.shaftOverTest_keeps, State.restTest_keeps]
    exact (State.eachStation_keeps (fun t : State => t.svl.restartCalled) _ (by simp) _).trans (by simp)
  · simp only [State.reverseTest_keeps, State.shaftOverTest_keeps, State.restTest_keeps]
    exact (State.eachStation_keeps (fun t : State => t.svl.startedUp) _ (by simp) _).trans (by simp)
  · simp only [State.reverseTest_keeps, State.shaftOverTest_keeps, State.restTest_keeps]
    exact (State.eachStation_keeps (fun t : State => t.svl.settings) _ (by simp) _).trans (by simp)
  · simp only [State.reverseTest_keeps, State.shaftOverTest_keeps, State.restTest_keeps]
    exact (State.eachStation_keeps (fun t : State => t.svl.defaulted) _ (by simp) _).trans (by simp)
  · simp only [State.reverseTest_keeps, State.shaftOverTest_keeps, State.restTest_keeps]
    exact (State.eachStation_keeps (fun t : State => t.svl.unstored) _ (by simp) _).trans (by simp)
  · simp only [State.reverseTest_keeps, State.shaftOverTest_keeps, State.restTest_keeps]
    exact (State.eachStation_keeps (fun t : State => t.svl.store) _ (by simp) _).trans (by simp)

@[simp] theorem State.arborPulse_keeps (i : StationNo) (s : State) :
    (s.arborPulse i).nva = s.nva ∧ (s.arborPulse i).atb = s.atb ∧ (s.arborPulse i).fcl = s.fcl ∧
    (s.arborPulse i).bgv = s.bgv ∧ (s.arborPulse i).rsv = s.rsv ∧ (s.arborPulse i).sld = s.sld ∧
    (s.arborPulse i).spu = s.spu ∧ (s.arborPulse i).msq = s.msq ∧ (s.arborPulse i).wgc = s.wgc ∧
    (s.arborPulse i).svl = s.svl ∧ (s.arborPulse i).held = s.held ∧ (s.arborPulse i).free = s.free ∧
    (s.arborPulse i).pending = s.pending := by
  and_intros <;> simp [State.arborPulse]

@[simp] theorem State.slipExpiry_keeps (s : State) :
    (s.slipExpiry).nva = s.nva ∧ (s.slipExpiry).atb = s.atb ∧ (s.slipExpiry).fcl = s.fcl ∧
    (s.slipExpiry).bgv = s.bgv ∧ (s.slipExpiry).rsv = s.rsv ∧ (s.slipExpiry).sld = s.sld ∧
    (s.slipExpiry).spu = s.spu ∧ (s.slipExpiry).msq = s.msq ∧ (s.slipExpiry).wgc = s.wgc ∧
    (s.slipExpiry).held = s.held ∧ (s.slipExpiry).free = s.free ∧ (s.slipExpiry).pending = s.pending ∧
    (s.slipExpiry).fsu.captureCount = s.fsu.captureCount ∧
    (s.slipExpiry).fsu.lastCrossing = s.fsu.lastCrossing ∧ (s.slipExpiry).fsu.reference = s.fsu.reference ∧
    (s.slipExpiry).fsu.gap = s.fsu.gap ∧ (s.slipExpiry).fsu.rejections = s.fsu.rejections ∧
    (s.slipExpiry).fsu.freq = s.fsu.freq ∧ (s.slipExpiry).fsu.freqValid = s.fsu.freqValid ∧
    (s.slipExpiry).fsu.window = s.fsu.window ∧ (s.slipExpiry).fsu.forward = s.fsu.forward ∧
    (s.slipExpiry).fsu.reverse = s.fsu.reverse ∧ (s.slipExpiry).fsu.revolution = s.fsu.revolution ∧
    (s.slipExpiry).fsu.armed = s.fsu.armed ∧ (s.slipExpiry).fsu.badRun = s.fsu.badRun ∧
    (s.slipExpiry).fsu.goodRun = s.fsu.goodRun ∧ (s.slipExpiry).fsu.pickupFault = s.fsu.pickupFault ∧
    (s.slipExpiry).fsu.shaftSpeed = s.fsu.shaftSpeed ∧ (s.slipExpiry).fsu.direction = s.fsu.direction ∧
    (s.slipExpiry).fsu.arborCount = s.fsu.arborCount ∧ (s.slipExpiry).fsu.arborSpeed = s.fsu.arborSpeed ∧
    (s.slipExpiry).svl.rx = s.svl.rx ∧ (s.slipExpiry).svl.buffer = s.svl.buffer ∧
    (s.slipExpiry).svl.bytesDue = s.svl.bytesDue ∧ (s.slipExpiry).svl.gap = s.svl.gap ∧
    (s.slipExpiry).svl.serving = s.svl.serving ∧ (s.slipExpiry).svl.reply = s.svl.reply ∧
    (s.slipExpiry).svl.restartCalled = s.svl.restartCalled ∧ (s.slipExpiry).svl.startedUp = s.svl.startedUp ∧
    (s.slipExpiry).svl.settings = s.svl.settings ∧ (s.slipExpiry).svl.defaulted = s.svl.defaulted ∧
    (s.slipExpiry).svl.unstored = s.svl.unstored ∧ (s.slipExpiry).svl.store = s.svl.store := by
  and_intros <;> simp [State.slipExpiry]

@[simp] theorem State.restartShaft_keeps (s : State) :
    (s.restartShaft).nva = s.nva ∧ (s.restartShaft).atb = s.atb ∧ (s.restartShaft).fcl = s.fcl ∧
    (s.restartShaft).bgv = s.bgv ∧ (s.restartShaft).rsv = s.rsv ∧ (s.restartShaft).sld = s.sld ∧
    (s.restartShaft).spu = s.spu ∧ (s.restartShaft).msq = s.msq ∧ (s.restartShaft).wgc = s.wgc ∧
    (s.restartShaft).svl = s.svl ∧ (s.restartShaft).held = s.held ∧ (s.restartShaft).free = s.free ∧
    (s.restartShaft).pending = s.pending := by
  and_intros <;> simp [State.restartShaft]

/-! ## The reserve -/

@[simp] theorem State.beginRestoration_keeps (n : RecNo) (s : State) :
    (s.beginRestoration n).fsu = s.fsu ∧ (s.beginRestoration n).bgv = s.bgv ∧
    (s.beginRestoration n).spu = s.spu ∧ (s.beginRestoration n).wgc = s.wgc ∧
    (s.beginRestoration n).svl = s.svl ∧ (s.beginRestoration n).held = s.held ∧
    (s.beginRestoration n).free = s.free ∧ (s.beginRestoration n).pending = s.pending := by
  and_intros <;> (unfold State.beginRestoration; (try dsimp only); (repeat' split) <;> simp)

@[simp] theorem State.beginEngagement_keeps (i : StationNo) (s : State) :
    (s.beginEngagement i).nva = s.nva ∧ (s.beginEngagement i).atb = s.atb ∧ (s.beginEngagement i).fcl = s.fcl ∧
    (s.beginEngagement i).fsu = s.fsu ∧ (s.beginEngagement i).bgv = s.bgv ∧ (s.beginEngagement i).sld = s.sld ∧
    (s.beginEngagement i).wgc = s.wgc ∧ (s.beginEngagement i).svl = s.svl ∧
    (s.beginEngagement i).held = s.held ∧ (s.beginEngagement i).free = s.free ∧
    (s.beginEngagement i).pending = s.pending := by
  and_intros <;> simp [State.beginEngagement]

@[simp] theorem State.grant_keeps (h : Holder) (s : State) :
    (s.grant h).fsu = s.fsu ∧ (s.grant h).bgv = s.bgv ∧ (s.grant h).wgc = s.wgc ∧ (s.grant h).svl = s.svl ∧
    (s.grant h).held = s.held ∧ (s.grant h).free = s.free ∧ (s.grant h).pending = s.pending := by
  and_intros <;> (unfold State.grant; (try dsimp only); (repeat' split) <;> simp)

@[simp] theorem State.readForList_keeps (s : State) :
    (s.readForList).fsu = s.fsu ∧ (s.readForList).bgv = s.bgv ∧ (s.readForList).spu = s.spu ∧
    (s.readForList).msq = s.msq ∧ (s.readForList).wgc = s.wgc ∧ (s.readForList).held = s.held ∧
    (s.readForList).free = s.free ∧ (s.readForList).pending = s.pending ∧ (s.readForList).svl.rx = s.svl.rx ∧
    (s.readForList).svl.buffer = s.svl.buffer ∧ (s.readForList).svl.bytesDue = s.svl.bytesDue ∧
    (s.readForList).svl.gap = s.svl.gap ∧ (s.readForList).svl.serving = s.svl.serving ∧
    (s.readForList).svl.reply = s.svl.reply ∧ (s.readForList).svl.restartCalled = s.svl.restartCalled ∧
    (s.readForList).svl.startedUp = s.svl.startedUp ∧ (s.readForList).svl.settings = s.svl.settings ∧
    (s.readForList).svl.defaulted = s.svl.defaulted ∧ (s.readForList).svl.unstored = s.svl.unstored ∧
    (s.readForList).svl.store = s.svl.store := by
  and_intros <;> simp [State.readForList]

@[simp] theorem State.evaluate_keeps (s : State) :
    (s.evaluate).fsu = s.fsu ∧ (s.evaluate).bgv = s.bgv ∧ (s.evaluate).wgc = s.wgc ∧
    (s.evaluate).held = s.held ∧ (s.evaluate).free = s.free ∧ (s.evaluate).pending = s.pending ∧
    (s.evaluate).svl.rx = s.svl.rx ∧ (s.evaluate).svl.buffer = s.svl.buffer ∧
    (s.evaluate).svl.bytesDue = s.svl.bytesDue ∧ (s.evaluate).svl.gap = s.svl.gap ∧
    (s.evaluate).svl.serving = s.svl.serving ∧ (s.evaluate).svl.reply = s.svl.reply ∧
    (s.evaluate).svl.restartCalled = s.svl.restartCalled ∧ (s.evaluate).svl.startedUp = s.svl.startedUp ∧
    (s.evaluate).svl.settings = s.svl.settings ∧ (s.evaluate).svl.defaulted = s.svl.defaulted ∧
    (s.evaluate).svl.unstored = s.svl.unstored ∧ (s.evaluate).svl.store = s.svl.store := by
  and_intros <;> (unfold State.evaluate; (try dsimp only); (repeat' split) <;> simp)

@[simp] theorem State.settleWith_keeps (n : Nat) (s : State) :
    (s.settleWith n).fsu = s.fsu ∧ (s.settleWith n).bgv = s.bgv ∧ (s.settleWith n).wgc = s.wgc ∧
    (s.settleWith n).held = s.held ∧ (s.settleWith n).free = s.free ∧ (s.settleWith n).pending = s.pending ∧
    (s.settleWith n).svl.rx = s.svl.rx ∧ (s.settleWith n).svl.buffer = s.svl.buffer ∧
    (s.settleWith n).svl.bytesDue = s.svl.bytesDue ∧ (s.settleWith n).svl.gap = s.svl.gap ∧
    (s.settleWith n).svl.serving = s.svl.serving ∧ (s.settleWith n).svl.reply = s.svl.reply ∧
    (s.settleWith n).svl.restartCalled = s.svl.restartCalled ∧
    (s.settleWith n).svl.startedUp = s.svl.startedUp ∧ (s.settleWith n).svl.settings = s.svl.settings ∧
    (s.settleWith n).svl.defaulted = s.svl.defaulted ∧ (s.settleWith n).svl.unstored = s.svl.unstored ∧
    (s.settleWith n).svl.store = s.svl.store := by
  induction n generalizing s with
  | zero => simp [State.settleWith]
  | succ n ih =>
    unfold State.settleWith
    split
    · simp [ih]
    · simp

@[simp] theorem State.settle_keeps (s : State) :
    (s.settle).fsu = s.fsu ∧ (s.settle).bgv = s.bgv ∧ (s.settle).wgc = s.wgc ∧ (s.settle).held = s.held ∧
    (s.settle).free = s.free ∧ (s.settle).pending = s.pending ∧ (s.settle).svl.rx = s.svl.rx ∧
    (s.settle).svl.buffer = s.svl.buffer ∧ (s.settle).svl.bytesDue = s.svl.bytesDue ∧
    (s.settle).svl.gap = s.svl.gap ∧ (s.settle).svl.serving = s.svl.serving ∧
    (s.settle).svl.reply = s.svl.reply ∧ (s.settle).svl.restartCalled = s.svl.restartCalled ∧
    (s.settle).svl.startedUp = s.svl.startedUp ∧ (s.settle).svl.settings = s.svl.settings ∧
    (s.settle).svl.defaulted = s.svl.defaulted ∧ (s.settle).svl.unstored = s.svl.unstored ∧
    (s.settle).svl.store = s.svl.store := by
  and_intros <;> simp [State.settle]

@[simp] theorem State.refill_keeps (s : State) :
    (s.refill).nva = s.nva ∧ (s.refill).atb = s.atb ∧ (s.refill).fcl = s.fcl ∧ (s.refill).fsu = s.fsu ∧
    (s.refill).bgv = s.bgv ∧ (s.refill).sld = s.sld ∧ (s.refill).spu = s.spu ∧ (s.refill).msq = s.msq ∧
    (s.refill).wgc = s.wgc ∧ (s.refill).svl = s.svl ∧ (s.refill).held = s.held ∧ (s.refill).free = s.free ∧
    (s.refill).pending = s.pending := by
  and_intros <;> simp [State.refill]

/-! ## Stations -/

@[simp] theorem State.inputChange_keeps (i : StationNo) (input : StationInput) (level : Bool) (s : State) :
    (s.inputChange i input level).nva = s.nva ∧ (s.inputChange i input level).atb = s.atb ∧
    (s.inputChange i input level).fcl = s.fcl ∧ (s.inputChange i input level).fsu = s.fsu ∧
    (s.inputChange i input level).bgv = s.bgv ∧ (s.inputChange i input level).rsv = s.rsv ∧
    (s.inputChange i input level).sld = s.sld ∧ (s.inputChange i input level).msq = s.msq ∧
    (s.inputChange i input level).wgc = s.wgc ∧ (s.inputChange i input level).svl = s.svl ∧
    (s.inputChange i input level).held = s.held ∧ (s.inputChange i input level).free = s.free ∧
    (s.inputChange i input level).pending = s.pending := by
  and_intros <;> simp [State.inputChange]

@[simp] theorem State.inputRaw_keeps (i : StationNo) (input : StationInput) (level : Bool) (s : State) :
    (s.inputRaw i input level).nva = s.nva ∧ (s.inputRaw i input level).atb = s.atb ∧
    (s.inputRaw i input level).fcl = s.fcl ∧ (s.inputRaw i input level).fsu = s.fsu ∧
    (s.inputRaw i input level).bgv = s.bgv ∧ (s.inputRaw i input level).rsv = s.rsv ∧
    (s.inputRaw i input level).sld = s.sld ∧ (s.inputRaw i input level).msq = s.msq ∧
    (s.inputRaw i input level).wgc = s.wgc ∧ (s.inputRaw i input level).svl = s.svl ∧
    (s.inputRaw i input level).held = s.held ∧ (s.inputRaw i input level).free = s.free ∧
    (s.inputRaw i input level).pending = s.pending := by
  and_intros <;> simp [State.inputRaw]

@[simp] theorem State.takeStart_keeps (i : StationNo) (s : State) :
    (s.takeStart i).nva = s.nva ∧ (s.takeStart i).atb = s.atb ∧ (s.takeStart i).fcl = s.fcl ∧
    (s.takeStart i).fsu = s.fsu ∧ (s.takeStart i).bgv = s.bgv ∧ (s.takeStart i).sld = s.sld ∧
    (s.takeStart i).msq = s.msq ∧ (s.takeStart i).wgc = s.wgc ∧ (s.takeStart i).svl = s.svl ∧
    (s.takeStart i).held = s.held ∧ (s.takeStart i).free = s.free ∧ (s.takeStart i).pending = s.pending := by
  and_intros <;> (unfold State.takeStart; (try dsimp only); (repeat' split) <;> simp)

@[simp] theorem State.takeStop_keeps (i : StationNo) (s : State) :
    (s.takeStop i).nva = s.nva ∧ (s.takeStop i).atb = s.atb ∧ (s.takeStop i).fcl = s.fcl ∧
    (s.takeStop i).fsu = s.fsu ∧ (s.takeStop i).bgv = s.bgv ∧ (s.takeStop i).sld = s.sld ∧
    (s.takeStop i).msq = s.msq ∧ (s.takeStop i).wgc = s.wgc ∧ (s.takeStop i).svl = s.svl ∧
    (s.takeStop i).held = s.held ∧ (s.takeStop i).free = s.free ∧ (s.takeStop i).pending = s.pending := by
  and_intros <;> (unfold State.takeStop; (try dsimp only); (repeat' split) <;> simp)

@[simp] theorem State.filterExpiry_keeps (i : StationNo) (input : StationInput) (s : State) :
    (s.filterExpiry i input).nva = s.nva ∧ (s.filterExpiry i input).atb = s.atb ∧
    (s.filterExpiry i input).fcl = s.fcl ∧ (s.filterExpiry i input).fsu = s.fsu ∧
    (s.filterExpiry i input).bgv = s.bgv ∧ (s.filterExpiry i input).sld = s.sld ∧
    (s.filterExpiry i input).msq = s.msq ∧ (s.filterExpiry i input).wgc = s.wgc ∧
    (s.filterExpiry i input).svl = s.svl ∧ (s.filterExpiry i input).held = s.held ∧
    (s.filterExpiry i input).free = s.free ∧ (s.filterExpiry i input).pending = s.pending := by
  and_intros <;> (unfold State.filterExpiry; (try dsimp only); (repeat' split) <;> simp)

@[simp] theorem State.waitExpiry_keeps (i : StationNo) (s : State) :
    (s.waitExpiry i).nva = s.nva ∧ (s.waitExpiry i).atb = s.atb ∧ (s.waitExpiry i).fcl = s.fcl ∧
    (s.waitExpiry i).fsu = s.fsu ∧ (s.waitExpiry i).bgv = s.bgv ∧ (s.waitExpiry i).sld = s.sld ∧
    (s.waitExpiry i).msq = s.msq ∧ (s.waitExpiry i).wgc = s.wgc ∧ (s.waitExpiry i).svl = s.svl ∧
    (s.waitExpiry i).held = s.held ∧ (s.waitExpiry i).free = s.free ∧ (s.waitExpiry i).pending = s.pending := by
  and_intros <;> simp [State.waitExpiry]

@[simp] theorem State.jamExpiry_keeps (i : StationNo) (s : State) :
    (s.jamExpiry i).atb = s.atb ∧ (s.jamExpiry i).fcl = s.fcl ∧ (s.jamExpiry i).fsu = s.fsu ∧
    (s.jamExpiry i).bgv = s.bgv ∧ (s.jamExpiry i).sld = s.sld ∧ (s.jamExpiry i).msq = s.msq ∧
    (s.jamExpiry i).wgc = s.wgc ∧ (s.jamExpiry i).held = s.held ∧ (s.jamExpiry i).free = s.free ∧
    (s.jamExpiry i).pending = s.pending ∧ (s.jamExpiry i).svl.rx = s.svl.rx ∧
    (s.jamExpiry i).svl.buffer = s.svl.buffer ∧ (s.jamExpiry i).svl.bytesDue = s.svl.bytesDue ∧
    (s.jamExpiry i).svl.gap = s.svl.gap ∧ (s.jamExpiry i).svl.serving = s.svl.serving ∧
    (s.jamExpiry i).svl.reply = s.svl.reply ∧ (s.jamExpiry i).svl.restartCalled = s.svl.restartCalled ∧
    (s.jamExpiry i).svl.startedUp = s.svl.startedUp ∧ (s.jamExpiry i).svl.settings = s.svl.settings ∧
    (s.jamExpiry i).svl.defaulted = s.svl.defaulted ∧ (s.jamExpiry i).svl.unstored = s.svl.unstored ∧
    (s.jamExpiry i).svl.store = s.svl.store := by
  and_intros <;> simp [State.jamExpiry]

@[simp] theorem State.releaseStation_keeps (i : StationNo) (s : State) :
    (s.releaseStation i).atb = s.atb ∧ (s.releaseStation i).fcl = s.fcl ∧ (s.releaseStation i).fsu = s.fsu ∧
    (s.releaseStation i).bgv = s.bgv ∧ (s.releaseStation i).sld = s.sld ∧ (s.releaseStation i).msq = s.msq ∧
    (s.releaseStation i).wgc = s.wgc ∧ (s.releaseStation i).svl = s.svl ∧ (s.releaseStation i).held = s.held ∧
    (s.releaseStation i).free = s.free ∧ (s.releaseStation i).pending = s.pending := by
  and_intros <;> simp [State.releaseStation]

@[simp] theorem State.judgeVoltageAt_keeps (v : Int) (i : StationNo) (s : State) :
    (s.judgeVoltageAt v i).nva = s.nva ∧ (s.judgeVoltageAt v i).atb = s.atb ∧
    (s.judgeVoltageAt v i).fcl = s.fcl ∧ (s.judgeVoltageAt v i).fsu = s.fsu ∧
    (s.judgeVoltageAt v i).bgv = s.bgv ∧ (s.judgeVoltageAt v i).sld = s.sld ∧
    (s.judgeVoltageAt v i).msq = s.msq ∧ (s.judgeVoltageAt v i).wgc = s.wgc ∧
    (s.judgeVoltageAt v i).svl = s.svl ∧ (s.judgeVoltageAt v i).held = s.held ∧
    (s.judgeVoltageAt v i).free = s.free ∧ (s.judgeVoltageAt v i).pending = s.pending := by
  and_intros <;> (unfold State.judgeVoltageAt; (try dsimp only); (repeat' split) <;> simp)

@[simp] theorem State.judgeVoltage_keeps (v : Int) (s : State) :
    (s.judgeVoltage v).nva = s.nva ∧ (s.judgeVoltage v).atb = s.atb ∧ (s.judgeVoltage v).fcl = s.fcl ∧
    (s.judgeVoltage v).fsu = s.fsu ∧ (s.judgeVoltage v).bgv = s.bgv ∧ (s.judgeVoltage v).sld = s.sld ∧
    (s.judgeVoltage v).msq = s.msq ∧ (s.judgeVoltage v).wgc = s.wgc ∧ (s.judgeVoltage v).svl = s.svl ∧
    (s.judgeVoltage v).held = s.held ∧ (s.judgeVoltage v).free = s.free ∧ (s.judgeVoltage v).pending = s.pending := by
  unfold State.judgeVoltage
  and_intros
  · exact State.eachStation_keeps (fun t : State => t.nva) _ (by intro a t; (try dsimp only); (repeat' split) <;> simp) _
  · exact State.eachStation_keeps (fun t : State => t.atb) _ (by intro a t; (try dsimp only); (repeat' split) <;> simp) _
  · exact State.eachStation_keeps (fun t : State => t.fcl) _ (by intro a t; (try dsimp only); (repeat' split) <;> simp) _
  · exact State.eachStation_keeps (fun t : State => t.fsu) _ (by intro a t; (try dsimp only); (repeat' split) <;> simp) _
  · exact State.eachStation_keeps (fun t : State => t.bgv) _ (by intro a t; (try dsimp only); (repeat' split) <;> simp) _
  · exact State.eachStation_keeps (fun t : State => t.sld) _ (by intro a t; (try dsimp only); (repeat' split) <;> simp) _
  · exact State.eachStation_keeps (fun t : State => t.msq) _ (by intro a t; (try dsimp only); (repeat' split) <;> simp) _
  · exact State.eachStation_keeps (fun t : State => t.wgc) _ (by intro a t; (try dsimp only); (repeat' split) <;> simp) _
  · exact State.eachStation_keeps (fun t : State => t.svl) _ (by intro a t; (try dsimp only); (repeat' split) <;> simp) _
  · exact State.eachStation_keeps (fun t : State => t.held) _ (by intro a t; (try dsimp only); (repeat' split) <;> simp) _
  · exact State.eachStation_keeps (fun t : State => t.free) _ (by intro a t; (try dsimp only); (repeat' split) <;> simp) _
  · exact State.eachStation_keeps (fun t : State => t.pending) _ (by intro a t; (try dsimp only); (repeat' split) <;> simp) _

/-! ## The sequencer -/

@[simp] theorem State.enterReading_keeps (c : ChannelNo) (raw : Nat) (v : Int) (src : Source) (s : State) :
    (s.enterReading c raw v src).nva = s.nva ∧ (s.enterReading c raw v src).atb = s.atb ∧
    (s.enterReading c raw v src).fcl = s.fcl ∧ (s.enterReading c raw v src).fsu = s.fsu ∧
    (s.enterReading c raw v src).bgv = s.bgv ∧ (s.enterReading c raw v src).rsv = s.rsv ∧
    (s.enterReading c raw v src).sld = s.sld ∧ (s.enterReading c raw v src).spu = s.spu ∧
    (s.enterReading c raw v src).wgc = s.wgc ∧ (s.enterReading c raw v src).svl = s.svl ∧
    (s.enterReading c raw v src).held = s.held ∧ (s.enterReading c raw v src).free = s.free ∧
    (s.enterReading c raw v src).pending = s.pending := by
  and_intros <;> simp [State.enterReading]

@[simp] theorem State.raiseAlarm_keeps (c : ChannelNo) (s : State) :
    (s.raiseAlarm c).held = s.held ∧ (s.raiseAlarm c).free = s.free ∧ (s.raiseAlarm c).pending = s.pending ∧
    (s.raiseAlarm c).fsu.captureCount = s.fsu.captureCount ∧
    (s.raiseAlarm c).fsu.lastCrossing = s.fsu.lastCrossing ∧ (s.raiseAlarm c).fsu.reference = s.fsu.reference ∧
    (s.raiseAlarm c).fsu.gap = s.fsu.gap ∧ (s.raiseAlarm c).fsu.rejections = s.fsu.rejections ∧
    (s.raiseAlarm c).fsu.freq = s.fsu.freq ∧ (s.raiseAlarm c).fsu.freqValid = s.fsu.freqValid ∧
    (s.raiseAlarm c).fsu.window = s.fsu.window ∧ (s.raiseAlarm c).fsu.forward = s.fsu.forward ∧
    (s.raiseAlarm c).fsu.reverse = s.fsu.reverse ∧ (s.raiseAlarm c).fsu.revolution = s.fsu.revolution ∧
    (s.raiseAlarm c).fsu.armed = s.fsu.armed ∧ (s.raiseAlarm c).fsu.badRun = s.fsu.badRun ∧
    (s.raiseAlarm c).fsu.goodRun = s.fsu.goodRun ∧ (s.raiseAlarm c).fsu.pickupFault = s.fsu.pickupFault ∧
    (s.raiseAlarm c).fsu.shaftSpeed = s.fsu.shaftSpeed ∧ (s.raiseAlarm c).fsu.direction = s.fsu.direction ∧
    (s.raiseAlarm c).fsu.arborCount = s.fsu.arborCount ∧ (s.raiseAlarm c).fsu.arborSpeed = s.fsu.arborSpeed ∧
    (s.raiseAlarm c).bgv.health = s.bgv.health ∧ (s.raiseAlarm c).svl.rx = s.svl.rx ∧
    (s.raiseAlarm c).svl.buffer = s.svl.buffer ∧ (s.raiseAlarm c).svl.bytesDue = s.svl.bytesDue ∧
    (s.raiseAlarm c).svl.gap = s.svl.gap ∧ (s.raiseAlarm c).svl.serving = s.svl.serving ∧
    (s.raiseAlarm c).svl.reply = s.svl.reply ∧ (s.raiseAlarm c).svl.restartCalled = s.svl.restartCalled ∧
    (s.raiseAlarm c).svl.startedUp = s.svl.startedUp ∧ (s.raiseAlarm c).svl.settings = s.svl.settings ∧
    (s.raiseAlarm c).svl.defaulted = s.svl.defaulted ∧ (s.raiseAlarm c).svl.unstored = s.svl.unstored ∧
    (s.raiseAlarm c).svl.store = s.svl.store := by
  and_intros <;> (unfold State.raiseAlarm; (try dsimp only); (repeat' split) <;> simp)

@[simp] theorem State.watchWindow_keeps (c : ChannelNo) (v : Int) (s : State) :
    (s.watchWindow c v).held = s.held ∧ (s.watchWindow c v).free = s.free ∧
    (s.watchWindow c v).pending = s.pending ∧ (s.watchWindow c v).fsu.captureCount = s.fsu.captureCount ∧
    (s.watchWindow c v).fsu.lastCrossing = s.fsu.lastCrossing ∧
    (s.watchWindow c v).fsu.reference = s.fsu.reference ∧ (s.watchWindow c v).fsu.gap = s.fsu.gap ∧
    (s.watchWindow c v).fsu.rejections = s.fsu.rejections ∧ (s.watchWindow c v).fsu.freq = s.fsu.freq ∧
    (s.watchWindow c v).fsu.freqValid = s.fsu.freqValid ∧ (s.watchWindow c v).fsu.window = s.fsu.window ∧
    (s.watchWindow c v).fsu.forward = s.fsu.forward ∧ (s.watchWindow c v).fsu.reverse = s.fsu.reverse ∧
    (s.watchWindow c v).fsu.revolution = s.fsu.revolution ∧ (s.watchWindow c v).fsu.armed = s.fsu.armed ∧
    (s.watchWindow c v).fsu.badRun = s.fsu.badRun ∧ (s.watchWindow c v).fsu.goodRun = s.fsu.goodRun ∧
    (s.watchWindow c v).fsu.pickupFault = s.fsu.pickupFault ∧
    (s.watchWindow c v).fsu.shaftSpeed = s.fsu.shaftSpeed ∧
    (s.watchWindow c v).fsu.direction = s.fsu.direction ∧
    (s.watchWindow c v).fsu.arborCount = s.fsu.arborCount ∧
    (s.watchWindow c v).fsu.arborSpeed = s.fsu.arborSpeed ∧ (s.watchWindow c v).bgv.health = s.bgv.health ∧
    (s.watchWindow c v).svl.rx = s.svl.rx ∧ (s.watchWindow c v).svl.buffer = s.svl.buffer ∧
    (s.watchWindow c v).svl.bytesDue = s.svl.bytesDue ∧ (s.watchWindow c v).svl.gap = s.svl.gap ∧
    (s.watchWindow c v).svl.serving = s.svl.serving ∧ (s.watchWindow c v).svl.reply = s.svl.reply ∧
    (s.watchWindow c v).svl.restartCalled = s.svl.restartCalled ∧
    (s.watchWindow c v).svl.startedUp = s.svl.startedUp ∧ (s.watchWindow c v).svl.settings = s.svl.settings ∧
    (s.watchWindow c v).svl.defaulted = s.svl.defaulted ∧ (s.watchWindow c v).svl.unstored = s.svl.unstored ∧
    (s.watchWindow c v).svl.store = s.svl.store := by
  and_intros <;> (unfold State.watchWindow; (try dsimp only); (repeat' split) <;> simp)

@[simp] theorem State.handOn_keeps (c : ChannelNo) (v : Int) (src : Source) (s : State) :
    (s.handOn c v src).held = s.held ∧ (s.handOn c v src).free = s.free ∧
    (s.handOn c v src).pending = s.pending ∧ (s.handOn c v src).fsu.captureCount = s.fsu.captureCount ∧
    (s.handOn c v src).fsu.lastCrossing = s.fsu.lastCrossing ∧
    (s.handOn c v src).fsu.reference = s.fsu.reference ∧ (s.handOn c v src).fsu.gap = s.fsu.gap ∧
    (s.handOn c v src).fsu.rejections = s.fsu.rejections ∧ (s.handOn c v src).fsu.freq = s.fsu.freq ∧
    (s.handOn c v src).fsu.freqValid = s.fsu.freqValid ∧ (s.handOn c v src).fsu.window = s.fsu.window ∧
    (s.handOn c v src).fsu.forward = s.fsu.forward ∧ (s.handOn c v src).fsu.reverse = s.fsu.reverse ∧
    (s.handOn c v src).fsu.revolution = s.fsu.revolution ∧ (s.handOn c v src).fsu.armed = s.fsu.armed ∧
    (s.handOn c v src).fsu.badRun = s.fsu.badRun ∧ (s.handOn c v src).fsu.goodRun = s.fsu.goodRun ∧
    (s.handOn c v src).fsu.pickupFault = s.fsu.pickupFault ∧
    (s.handOn c v src).fsu.shaftSpeed = s.fsu.shaftSpeed ∧ (s.handOn c v src).fsu.direction = s.fsu.direction ∧
    (s.handOn c v src).fsu.arborCount = s.fsu.arborCount ∧
    (s.handOn c v src).fsu.arborSpeed = s.fsu.arborSpeed ∧ (s.handOn c v src).svl.rx = s.svl.rx ∧
    (s.handOn c v src).svl.buffer = s.svl.buffer ∧ (s.handOn c v src).svl.bytesDue = s.svl.bytesDue ∧
    (s.handOn c v src).svl.gap = s.svl.gap ∧ (s.handOn c v src).svl.serving = s.svl.serving ∧
    (s.handOn c v src).svl.reply = s.svl.reply ∧ (s.handOn c v src).svl.restartCalled = s.svl.restartCalled ∧
    (s.handOn c v src).svl.startedUp = s.svl.startedUp ∧ (s.handOn c v src).svl.settings = s.svl.settings ∧
    (s.handOn c v src).svl.defaulted = s.svl.defaulted ∧ (s.handOn c v src).svl.unstored = s.svl.unstored ∧
    (s.handOn c v src).svl.store = s.svl.store := by
  and_intros <;> (unfold State.handOn; (try dsimp only); (repeat' split) <;> simp)

@[simp] theorem State.takeReading_keeps (c : ChannelNo) (raw : Nat) (src : Source) (s : State) :
    (s.takeReading c raw src).held = s.held ∧ (s.takeReading c raw src).free = s.free ∧
    (s.takeReading c raw src).pending = s.pending ∧
    (s.takeReading c raw src).fsu.captureCount = s.fsu.captureCount ∧
    (s.takeReading c raw src).fsu.lastCrossing = s.fsu.lastCrossing ∧
    (s.takeReading c raw src).fsu.reference = s.fsu.reference ∧ (s.takeReading c raw src).fsu.gap = s.fsu.gap ∧
    (s.takeReading c raw src).fsu.rejections = s.fsu.rejections ∧
    (s.takeReading c raw src).fsu.freq = s.fsu.freq ∧
    (s.takeReading c raw src).fsu.freqValid = s.fsu.freqValid ∧
    (s.takeReading c raw src).fsu.window = s.fsu.window ∧
    (s.takeReading c raw src).fsu.forward = s.fsu.forward ∧
    (s.takeReading c raw src).fsu.reverse = s.fsu.reverse ∧
    (s.takeReading c raw src).fsu.revolution = s.fsu.revolution ∧
    (s.takeReading c raw src).fsu.armed = s.fsu.armed ∧ (s.takeReading c raw src).fsu.badRun = s.fsu.badRun ∧
    (s.takeReading c raw src).fsu.goodRun = s.fsu.goodRun ∧
    (s.takeReading c raw src).fsu.pickupFault = s.fsu.pickupFault ∧
    (s.takeReading c raw src).fsu.shaftSpeed = s.fsu.shaftSpeed ∧
    (s.takeReading c raw src).fsu.direction = s.fsu.direction ∧
    (s.takeReading c raw src).fsu.arborCount = s.fsu.arborCount ∧
    (s.takeReading c raw src).fsu.arborSpeed = s.fsu.arborSpeed ∧ (s.takeReading c raw src).svl.rx = s.svl.rx ∧
    (s.takeReading c raw src).svl.buffer = s.svl.buffer ∧
    (s.takeReading c raw src).svl.bytesDue = s.svl.bytesDue ∧ (s.takeReading c raw src).svl.gap = s.svl.gap ∧
    (s.takeReading c raw src).svl.serving = s.svl.serving ∧ (s.takeReading c raw src).svl.reply = s.svl.reply ∧
    (s.takeReading c raw src).svl.restartCalled = s.svl.restartCalled ∧
    (s.takeReading c raw src).svl.startedUp = s.svl.startedUp ∧
    (s.takeReading c raw src).svl.settings = s.svl.settings ∧
    (s.takeReading c raw src).svl.defaulted = s.svl.defaulted ∧
    (s.takeReading c raw src).svl.unstored = s.svl.unstored ∧ (s.takeReading c raw src).svl.store = s.svl.store := by
  and_intros <;> simp [State.takeReading]

@[simp] theorem State.freeConverter_keeps (s : State) :
    (s.freeConverter).nva = s.nva ∧ (s.freeConverter).atb = s.atb ∧ (s.freeConverter).fcl = s.fcl ∧
    (s.freeConverter).fsu = s.fsu ∧ (s.freeConverter).bgv = s.bgv ∧ (s.freeConverter).rsv = s.rsv ∧
    (s.freeConverter).sld = s.sld ∧ (s.freeConverter).spu = s.spu ∧ (s.freeConverter).wgc = s.wgc ∧
    (s.freeConverter).svl = s.svl ∧ (s.freeConverter).held = s.held ∧ (s.freeConverter).free = s.free ∧
    (s.freeConverter).pending = s.pending := by
  and_intros <;> simp [State.freeConverter]

@[simp] theorem State.completeConversion_keeps (raw : BitVec 12) (s : State) :
    (s.completeConversion raw).held = s.held ∧ (s.completeConversion raw).free = s.free ∧
    (s.completeConversion raw).pending = s.pending ∧
    (s.completeConversion raw).fsu.captureCount = s.fsu.captureCount ∧
    (s.completeConversion raw).fsu.lastCrossing = s.fsu.lastCrossing ∧
    (s.completeConversion raw).fsu.reference = s.fsu.reference ∧
    (s.completeConversion raw).fsu.gap = s.fsu.gap ∧
    (s.completeConversion raw).fsu.rejections = s.fsu.rejections ∧
    (s.completeConversion raw).fsu.freq = s.fsu.freq ∧
    (s.completeConversion raw).fsu.freqValid = s.fsu.freqValid ∧
    (s.completeConversion raw).fsu.window = s.fsu.window ∧
    (s.completeConversion raw).fsu.forward = s.fsu.forward ∧
    (s.completeConversion raw).fsu.reverse = s.fsu.reverse ∧
    (s.completeConversion raw).fsu.revolution = s.fsu.revolution ∧
    (s.completeConversion raw).fsu.armed = s.fsu.armed ∧ (s.completeConversion raw).fsu.badRun = s.fsu.badRun ∧
    (s.completeConversion raw).fsu.goodRun = s.fsu.goodRun ∧
    (s.completeConversion raw).fsu.pickupFault = s.fsu.pickupFault ∧
    (s.completeConversion raw).fsu.shaftSpeed = s.fsu.shaftSpeed ∧
    (s.completeConversion raw).fsu.direction = s.fsu.direction ∧
    (s.completeConversion raw).fsu.arborCount = s.fsu.arborCount ∧
    (s.completeConversion raw).fsu.arborSpeed = s.fsu.arborSpeed ∧
    (s.completeConversion raw).svl.rx = s.svl.rx ∧ (s.completeConversion raw).svl.buffer = s.svl.buffer ∧
    (s.completeConversion raw).svl.bytesDue = s.svl.bytesDue ∧ (s.completeConversion raw).svl.gap = s.svl.gap ∧
    (s.completeConversion raw).svl.serving = s.svl.serving ∧
    (s.completeConversion raw).svl.reply = s.svl.reply ∧
    (s.completeConversion raw).svl.restartCalled = s.svl.restartCalled ∧
    (s.completeConversion raw).svl.startedUp = s.svl.startedUp ∧
    (s.completeConversion raw).svl.settings = s.svl.settings ∧
    (s.completeConversion raw).svl.defaulted = s.svl.defaulted ∧
    (s.completeConversion raw).svl.unstored = s.svl.unstored ∧
    (s.completeConversion raw).svl.store = s.svl.store := by
  and_intros <;> (unfold State.completeConversion; (try dsimp only); (repeat' split) <;> simp)

@[simp] theorem State.scanExpiry_keeps (s : State) :
    (s.scanExpiry).nva = s.nva ∧ (s.scanExpiry).atb = s.atb ∧ (s.scanExpiry).fcl = s.fcl ∧
    (s.scanExpiry).fsu = s.fsu ∧ (s.scanExpiry).bgv = s.bgv ∧ (s.scanExpiry).rsv = s.rsv ∧
    (s.scanExpiry).sld = s.sld ∧ (s.scanExpiry).spu = s.spu ∧ (s.scanExpiry).wgc = s.wgc ∧
    (s.scanExpiry).svl = s.svl ∧ (s.scanExpiry).held = s.held ∧ (s.scanExpiry).free = s.free ∧
    (s.scanExpiry).pending = s.pending := by
  and_intros <;> simp [State.scanExpiry]

@[simp] theorem State.freshnessExpiry_keeps (c : ChannelNo) (s : State) :
    (s.freshnessExpiry c).nva = s.nva ∧ (s.freshnessExpiry c).atb = s.atb ∧ (s.freshnessExpiry c).fcl = s.fcl ∧
    (s.freshnessExpiry c).fsu = s.fsu ∧ (s.freshnessExpiry c).bgv = s.bgv ∧ (s.freshnessExpiry c).rsv = s.rsv ∧
    (s.freshnessExpiry c).sld = s.sld ∧ (s.freshnessExpiry c).spu = s.spu ∧ (s.freshnessExpiry c).svl = s.svl ∧
    (s.freshnessExpiry c).held = s.held ∧ (s.freshnessExpiry c).free = s.free ∧
    (s.freshnessExpiry c).pending = s.pending ∧ (s.freshnessExpiry c).wgc.plant = s.wgc.plant := by
  and_intros <;> (unfold State.freshnessExpiry; (try dsimp only); (repeat' split) <;> simp)

@[simp] theorem State.clearRuns_keeps (c : ChannelNo) (s : State) :
    (s.clearRuns c).nva = s.nva ∧ (s.clearRuns c).atb = s.atb ∧ (s.clearRuns c).fcl = s.fcl ∧
    (s.clearRuns c).fsu = s.fsu ∧ (s.clearRuns c).bgv = s.bgv ∧ (s.clearRuns c).rsv = s.rsv ∧
    (s.clearRuns c).sld = s.sld ∧ (s.clearRuns c).spu = s.spu ∧ (s.clearRuns c).wgc = s.wgc ∧
    (s.clearRuns c).svl = s.svl ∧ (s.clearRuns c).held = s.held ∧ (s.clearRuns c).free = s.free ∧
    (s.clearRuns c).pending = s.pending := by
  and_intros <;> simp [State.clearRuns]

@[simp] theorem State.endRun_keeps (s : State) :
    (s.endRun).nva = s.nva ∧ (s.endRun).atb = s.atb ∧ (s.endRun).fcl = s.fcl ∧ (s.endRun).fsu = s.fsu ∧
    (s.endRun).bgv = s.bgv ∧ (s.endRun).rsv = s.rsv ∧ (s.endRun).sld = s.sld ∧ (s.endRun).spu = s.spu ∧
    (s.endRun).wgc = s.wgc ∧ (s.endRun).svl = s.svl ∧ (s.endRun).held = s.held ∧ (s.endRun).free = s.free ∧
    (s.endRun).pending = s.pending := by
  and_intros <;> simp [State.endRun]

@[simp] theorem State.calibrate_keeps (raw : BitVec 12) (s : State) :
    (s.calibrate raw).held = s.held ∧ (s.calibrate raw).free = s.free ∧ (s.calibrate raw).pending = s.pending ∧
    (s.calibrate raw).fsu.captureCount = s.fsu.captureCount ∧
    (s.calibrate raw).fsu.lastCrossing = s.fsu.lastCrossing ∧
    (s.calibrate raw).fsu.reference = s.fsu.reference ∧ (s.calibrate raw).fsu.gap = s.fsu.gap ∧
    (s.calibrate raw).fsu.rejections = s.fsu.rejections ∧ (s.calibrate raw).fsu.freq = s.fsu.freq ∧
    (s.calibrate raw).fsu.freqValid = s.fsu.freqValid ∧ (s.calibrate raw).fsu.window = s.fsu.window ∧
    (s.calibrate raw).fsu.forward = s.fsu.forward ∧ (s.calibrate raw).fsu.reverse = s.fsu.reverse ∧
    (s.calibrate raw).fsu.revolution = s.fsu.revolution ∧ (s.calibrate raw).fsu.armed = s.fsu.armed ∧
    (s.calibrate raw).fsu.badRun = s.fsu.badRun ∧ (s.calibrate raw).fsu.goodRun = s.fsu.goodRun ∧
    (s.calibrate raw).fsu.pickupFault = s.fsu.pickupFault ∧
    (s.calibrate raw).fsu.shaftSpeed = s.fsu.shaftSpeed ∧ (s.calibrate raw).fsu.direction = s.fsu.direction ∧
    (s.calibrate raw).fsu.arborCount = s.fsu.arborCount ∧ (s.calibrate raw).fsu.arborSpeed = s.fsu.arborSpeed ∧
    (s.calibrate raw).svl.rx = s.svl.rx ∧ (s.calibrate raw).svl.buffer = s.svl.buffer ∧
    (s.calibrate raw).svl.bytesDue = s.svl.bytesDue ∧ (s.calibrate raw).svl.gap = s.svl.gap ∧
    (s.calibrate raw).svl.serving = s.svl.serving ∧ (s.calibrate raw).svl.reply = s.svl.reply ∧
    (s.calibrate raw).svl.restartCalled = s.svl.restartCalled ∧
    (s.calibrate raw).svl.startedUp = s.svl.startedUp ∧ (s.calibrate raw).svl.settings = s.svl.settings ∧
    (s.calibrate raw).svl.defaulted = s.svl.defaulted ∧ (s.calibrate raw).svl.unstored = s.svl.unstored ∧
    (s.calibrate raw).svl.store = s.svl.store := by
  and_intros <;> (unfold State.calibrate; (try dsimp only); (repeat' split) <;> simp)

/-! ## Reports and the chain -/

@[simp] theorem State.tallyEnergy_keeps (n : RecNo) (restart : Bool) (counter : Nat) (s : State) :
    (s.tallyEnergy n restart counter).fcl = s.fcl ∧ (s.tallyEnergy n restart counter).fsu = s.fsu ∧
    (s.tallyEnergy n restart counter).bgv = s.bgv ∧ (s.tallyEnergy n restart counter).rsv = s.rsv ∧
    (s.tallyEnergy n restart counter).sld = s.sld ∧ (s.tallyEnergy n restart counter).spu = s.spu ∧
    (s.tallyEnergy n restart counter).msq = s.msq ∧ (s.tallyEnergy n restart counter).wgc = s.wgc ∧
    (s.tallyEnergy n restart counter).svl = s.svl ∧ (s.tallyEnergy n restart counter).held = s.held ∧
    (s.tallyEnergy n restart counter).free = s.free ∧ (s.tallyEnergy n restart counter).pending = s.pending := by
  and_intros <;> (unfold State.tallyEnergy; (try dsimp only); (repeat' split) <;> simp)

@[simp] theorem State.storePower_keeps (n : RecNo) (power : Nat) (s : State) :
    (s.storePower n power).nva = s.nva ∧ (s.storePower n power).fcl = s.fcl ∧
    (s.storePower n power).fsu = s.fsu ∧ (s.storePower n power).bgv = s.bgv ∧
    (s.storePower n power).rsv = s.rsv ∧ (s.storePower n power).sld = s.sld ∧
    (s.storePower n power).spu = s.spu ∧ (s.storePower n power).msq = s.msq ∧
    (s.storePower n power).wgc = s.wgc ∧ (s.storePower n power).svl = s.svl ∧
    (s.storePower n power).held = s.held ∧ (s.storePower n power).free = s.free ∧
    (s.storePower n power).pending = s.pending := by
  and_intros <;> simp [State.storePower]

@[simp] theorem State.restartStep_keeps (n : RecNo) (restart : Bool) (draw : Option Nat) (s : State) :
    (s.restartStep n restart draw).fsu = s.fsu ∧ (s.restartStep n restart draw).bgv = s.bgv ∧
    (s.restartStep n restart draw).spu = s.spu ∧ (s.restartStep n restart draw).msq = s.msq ∧
    (s.restartStep n restart draw).wgc = s.wgc ∧ (s.restartStep n restart draw).svl = s.svl ∧
    (s.restartStep n restart draw).held = s.held ∧ (s.restartStep n restart draw).free = s.free ∧
    (s.restartStep n restart draw).pending = s.pending := by
  and_intros <;> (unfold State.restartStep; (try dsimp only); (repeat' split) <;> simp)

@[simp] theorem State.tripRecord_keeps (n : RecNo) (s : State) :
    (s.tripRecord n).fsu = s.fsu ∧ (s.tripRecord n).bgv = s.bgv ∧ (s.tripRecord n).spu = s.spu ∧
    (s.tripRecord n).msq = s.msq ∧ (s.tripRecord n).wgc = s.wgc ∧ (s.tripRecord n).svl = s.svl ∧
    (s.tripRecord n).held = s.held ∧ (s.tripRecord n).free = s.free ∧ (s.tripRecord n).pending = s.pending := by
  and_intros <;> simp [State.tripRecord]

@[simp] theorem State.overCapStep_keeps (n : RecNo) (power : Nat) (s : State) :
    (s.overCapStep n power).fsu = s.fsu ∧ (s.overCapStep n power).bgv = s.bgv ∧
    (s.overCapStep n power).spu = s.spu ∧ (s.overCapStep n power).msq = s.msq ∧
    (s.overCapStep n power).wgc = s.wgc ∧ (s.overCapStep n power).svl = s.svl ∧
    (s.overCapStep n power).held = s.held ∧ (s.overCapStep n power).free = s.free ∧
    (s.overCapStep n power).pending = s.pending := by
  and_intros <;> (unfold State.overCapStep; (try dsimp only); (repeat' split) <;> simp)

@[simp] theorem State.openWatch_keeps (n : RecNo) (o : OutletId) (closed : Bool) (draw : Option Nat) (s : State) :
    (s.openWatch n o closed draw).fsu = s.fsu ∧ (s.openWatch n o closed draw).bgv = s.bgv ∧
    (s.openWatch n o closed draw).spu = s.spu ∧ (s.openWatch n o closed draw).msq = s.msq ∧
    (s.openWatch n o closed draw).wgc = s.wgc ∧ (s.openWatch n o closed draw).svl = s.svl ∧
    (s.openWatch n o closed draw).held = s.held ∧ (s.openWatch n o closed draw).free = s.free ∧
    (s.openWatch n o closed draw).pending = s.pending := by
  and_intros <;> (unfold State.openWatch; (try dsimp only); (repeat' split) <;> simp)

@[simp] theorem State.closedWatch_keeps (n : RecNo) (o : OutletId) (closed : Bool) (s : State) :
    (s.closedWatch n o closed).nva = s.nva ∧ (s.closedWatch n o closed).fcl = s.fcl ∧
    (s.closedWatch n o closed).fsu = s.fsu ∧ (s.closedWatch n o closed).bgv = s.bgv ∧
    (s.closedWatch n o closed).rsv = s.rsv ∧ (s.closedWatch n o closed).sld = s.sld ∧
    (s.closedWatch n o closed).spu = s.spu ∧ (s.closedWatch n o closed).msq = s.msq ∧
    (s.closedWatch n o closed).wgc = s.wgc ∧ (s.closedWatch n o closed).held = s.held ∧
    (s.closedWatch n o closed).free = s.free ∧ (s.closedWatch n o closed).pending = s.pending ∧
    (s.closedWatch n o closed).svl.rx = s.svl.rx ∧ (s.closedWatch n o closed).svl.buffer = s.svl.buffer ∧
    (s.closedWatch n o closed).svl.bytesDue = s.svl.bytesDue ∧ (s.closedWatch n o closed).svl.gap = s.svl.gap ∧
    (s.closedWatch n o closed).svl.serving = s.svl.serving ∧
    (s.closedWatch n o closed).svl.reply = s.svl.reply ∧
    (s.closedWatch n o closed).svl.restartCalled = s.svl.restartCalled ∧
    (s.closedWatch n o closed).svl.startedUp = s.svl.startedUp ∧
    (s.closedWatch n o closed).svl.settings = s.svl.settings ∧
    (s.closedWatch n o closed).svl.defaulted = s.svl.defaulted ∧
    (s.closedWatch n o closed).svl.unstored = s.svl.unstored ∧
    (s.closedWatch n o closed).svl.store = s.svl.store := by
  and_intros <;> (unfold State.closedWatch; (try dsimp only); (repeat' split) <;> simp)

@[simp] theorem State.takeReset_keeps (n : RecNo) (s : State) :
    (s.takeReset n).fsu = s.fsu ∧ (s.takeReset n).bgv = s.bgv ∧ (s.takeReset n).spu = s.spu ∧
    (s.takeReset n).msq = s.msq ∧ (s.takeReset n).wgc = s.wgc ∧ (s.takeReset n).svl = s.svl ∧
    (s.takeReset n).held = s.held ∧ (s.takeReset n).free = s.free ∧ (s.takeReset n).pending = s.pending := by
  and_intros <;> (unfold State.takeReset; (try dsimp only); (repeat' split) <;> simp)

@[simp] theorem State.answerReset_keeps (o : OutletId) (bound : Option RecNo) (flag : Bool) (s : State) :
    (s.answerReset o bound flag).fsu = s.fsu ∧ (s.answerReset o bound flag).bgv = s.bgv ∧
    (s.answerReset o bound flag).spu = s.spu ∧ (s.answerReset o bound flag).msq = s.msq ∧
    (s.answerReset o bound flag).wgc = s.wgc ∧ (s.answerReset o bound flag).svl = s.svl ∧
    (s.answerReset o bound flag).held = s.held ∧ (s.answerReset o bound flag).free = s.free ∧
    (s.answerReset o bound flag).pending = s.pending := by
  and_intros <;> (unfold State.answerReset; (try dsimp only); (repeat' split) <;> simp)

@[simp] theorem State.confirm_keeps (n : RecNo) (closed : Bool) (s : State) :
    (s.confirm n closed).fsu = s.fsu ∧ (s.confirm n closed).bgv = s.bgv ∧ (s.confirm n closed).spu = s.spu ∧
    (s.confirm n closed).msq = s.msq ∧ (s.confirm n closed).wgc = s.wgc ∧ (s.confirm n closed).svl = s.svl ∧
    (s.confirm n closed).held = s.held ∧ (s.confirm n closed).free = s.free ∧
    (s.confirm n closed).pending = s.pending := by
  and_intros <;> (unfold State.confirm; (try dsimp only); (repeat' split) <;> simp)

@[simp] theorem State.workReport_keeps (n : RecNo) (o : OutletId) (restart : Bool) (r : Report) (s : State) :
    (s.workReport n o restart r).fsu = s.fsu ∧ (s.workReport n o restart r).bgv = s.bgv ∧
    (s.workReport n o restart r).spu = s.spu ∧ (s.workReport n o restart r).msq = s.msq ∧
    (s.workReport n o restart r).wgc = s.wgc ∧ (s.workReport n o restart r).held = s.held ∧
    (s.workReport n o restart r).free = s.free ∧ (s.workReport n o restart r).pending = s.pending ∧
    (s.workReport n o restart r).svl.rx = s.svl.rx ∧ (s.workReport n o restart r).svl.buffer = s.svl.buffer ∧
    (s.workReport n o restart r).svl.bytesDue = s.svl.bytesDue ∧
    (s.workReport n o restart r).svl.gap = s.svl.gap ∧
    (s.workReport n o restart r).svl.serving = s.svl.serving ∧
    (s.workReport n o restart r).svl.reply = s.svl.reply ∧
    (s.workReport n o restart r).svl.restartCalled = s.svl.restartCalled ∧
    (s.workReport n o restart r).svl.startedUp = s.svl.startedUp ∧
    (s.workReport n o restart r).svl.settings = s.svl.settings ∧
    (s.workReport n o restart r).svl.defaulted = s.svl.defaulted ∧
    (s.workReport n o restart r).svl.unstored = s.svl.unstored ∧
    (s.workReport n o restart r).svl.store = s.svl.store := by
  and_intros <;> (unfold State.workReport; (try dsimp only); (repeat' split) <;> simp)

@[simp] theorem State.takeReport_keeps (restart : Bool) (o : OutletId) (r : Report) (s : State) :
    (s.takeReport restart o r).fsu = s.fsu ∧ (s.takeReport restart o r).bgv = s.bgv ∧
    (s.takeReport restart o r).spu = s.spu ∧ (s.takeReport restart o r).msq = s.msq ∧
    (s.takeReport restart o r).wgc = s.wgc ∧ (s.takeReport restart o r).held = s.held ∧
    (s.takeReport restart o r).free = s.free ∧ (s.takeReport restart o r).pending = s.pending ∧
    (s.takeReport restart o r).svl.rx = s.svl.rx ∧ (s.takeReport restart o r).svl.buffer = s.svl.buffer ∧
    (s.takeReport restart o r).svl.bytesDue = s.svl.bytesDue ∧ (s.takeReport restart o r).svl.gap = s.svl.gap ∧
    (s.takeReport restart o r).svl.serving = s.svl.serving ∧
    (s.takeReport restart o r).svl.reply = s.svl.reply ∧
    (s.takeReport restart o r).svl.restartCalled = s.svl.restartCalled ∧
    (s.takeReport restart o r).svl.startedUp = s.svl.startedUp ∧
    (s.takeReport restart o r).svl.settings = s.svl.settings ∧
    (s.takeReport restart o r).svl.defaulted = s.svl.defaulted ∧
    (s.takeReport restart o r).svl.unstored = s.svl.unstored ∧
    (s.takeReport restart o r).svl.store = s.svl.store := by
  and_intros <;> (unfold State.takeReport; (try dsimp only); (repeat' split) <;> simp)

@[simp] theorem State.enterSilent_keeps (a : NodeNo) (s : State) :
    (s.enterSilent a).fsu = s.fsu ∧ (s.enterSilent a).bgv = s.bgv ∧ (s.enterSilent a).spu = s.spu ∧
    (s.enterSilent a).msq = s.msq ∧ (s.enterSilent a).wgc = s.wgc ∧ (s.enterSilent a).held = s.held ∧
    (s.enterSilent a).free = s.free ∧ (s.enterSilent a).pending = s.pending ∧
    (s.enterSilent a).svl.rx = s.svl.rx ∧ (s.enterSilent a).svl.buffer = s.svl.buffer ∧
    (s.enterSilent a).svl.bytesDue = s.svl.bytesDue ∧ (s.enterSilent a).svl.gap = s.svl.gap ∧
    (s.enterSilent a).svl.serving = s.svl.serving ∧ (s.enterSilent a).svl.reply = s.svl.reply ∧
    (s.enterSilent a).svl.restartCalled = s.svl.restartCalled ∧
    (s.enterSilent a).svl.startedUp = s.svl.startedUp ∧ (s.enterSilent a).svl.settings = s.svl.settings ∧
    (s.enterSilent a).svl.defaulted = s.svl.defaulted ∧ (s.enterSilent a).svl.unstored = s.svl.unstored ∧
    (s.enterSilent a).svl.store = s.svl.store := by
  unfold State.enterSilent
  and_intros
  · (try dsimp only); (try simp only [State.promptEvaluation_keeps])
    exact (foldl_keeps (fun t : State => t.fsu) _ (by intro t a; (try dsimp only); (repeat' split) <;> simp) _ _).trans (by simp)
  · (try dsimp only); (try simp only [State.promptEvaluation_keeps])
    exact (foldl_keeps (fun t : State => t.bgv) _ (by intro t a; (try dsimp only); (repeat' split) <;> simp) _ _).trans (by simp)
  · (try dsimp only); (try simp only [State.promptEvaluation_keeps])
    exact (foldl_keeps (fun t : State => t.spu) _ (by intro t a; (try dsimp only); (repeat' split) <;> simp) _ _).trans (by simp)
  · (try dsimp only); (try simp only [State.promptEvaluation_keeps])
    exact (foldl_keeps (fun t : State => t.msq) _ (by intro t a; (try dsimp only); (repeat' split) <;> simp) _ _).trans (by simp)
  · (try dsimp only); (try simp only [State.promptEvaluation_keeps])
    exact (foldl_keeps (fun t : State => t.wgc) _ (by intro t a; (try dsimp only); (repeat' split) <;> simp) _ _).trans (by simp)
  · (try dsimp only); (try simp only [State.promptEvaluation_keeps])
    exact (foldl_keeps (fun t : State => t.held) _ (by intro t a; (try dsimp only); (repeat' split) <;> simp) _ _).trans (by simp)
  · (try dsimp only); (try simp only [State.promptEvaluation_keeps])
    exact (foldl_keeps (fun t : State => t.free) _ (by intro t a; (try dsimp only); (repeat' split) <;> simp) _ _).trans (by simp)
  · (try dsimp only); (try simp only [State.promptEvaluation_keeps])
    exact (foldl_keeps (fun t : State => t.pending) _ (by intro t a; (try dsimp only); (repeat' split) <;> simp) _ _).trans (by simp)
  · (try dsimp only); (try simp only [State.promptEvaluation_keeps])
    exact (foldl_keeps (fun t : State => t.svl.rx) _ (by intro t a; (try dsimp only); (repeat' split) <;> simp) _ _).trans (by simp)
  · (try dsimp only); (try simp only [State.promptEvaluation_keeps])
    exact (foldl_keeps (fun t : State => t.svl.buffer) _ (by intro t a; (try dsimp only); (repeat' split) <;> simp) _ _).trans (by simp)
  · (try dsimp only); (try simp only [State.promptEvaluation_keeps])
    exact (foldl_keeps (fun t : State => t.svl.bytesDue) _ (by intro t a; (try dsimp only); (repeat' split) <;> simp) _ _).trans (by simp)
  · (try dsimp only); (try simp only [State.promptEvaluation_keeps])
    exact (foldl_keeps (fun t : State => t.svl.gap) _ (by intro t a; (try dsimp only); (repeat' split) <;> simp) _ _).trans (by simp)
  · (try dsimp only); (try simp only [State.promptEvaluation_keeps])
    exact (foldl_keeps (fun t : State => t.svl.serving) _ (by intro t a; (try dsimp only); (repeat' split) <;> simp) _ _).trans (by simp)
  · (try dsimp only); (try simp only [State.promptEvaluation_keeps])
    exact (foldl_keeps (fun t : State => t.svl.reply) _ (by intro t a; (try dsimp only); (repeat' split) <;> simp) _ _).trans (by simp)
  · (try dsimp only); (try simp only [State.promptEvaluation_keeps])
    exact (foldl_keeps (fun t : State => t.svl.restartCalled) _ (by intro t a; (try dsimp only); (repeat' split) <;> simp) _ _).trans (by simp)
  · (try dsimp only); (try simp only [State.promptEvaluation_keeps])
    exact (foldl_keeps (fun t : State => t.svl.startedUp) _ (by intro t a; (try dsimp only); (repeat' split) <;> simp) _ _).trans (by simp)
  · (try dsimp only); (try simp only [State.promptEvaluation_keeps])
    exact (foldl_keeps (fun t : State => t.svl.settings) _ (by intro t a; (try dsimp only); (repeat' split) <;> simp) _ _).trans (by simp)
  · (try dsimp only); (try simp only [State.promptEvaluation_keeps])
    exact (foldl_keeps (fun t : State => t.svl.defaulted) _ (by intro t a; (try dsimp only); (repeat' split) <;> simp) _ _).trans (by simp)
  · (try dsimp only); (try simp only [State.promptEvaluation_keeps])
    exact (foldl_keeps (fun t : State => t.svl.unstored) _ (by intro t a; (try dsimp only); (repeat' split) <;> simp) _ _).trans (by simp)
  · (try dsimp only); (try simp only [State.promptEvaluation_keeps])
    exact (foldl_keeps (fun t : State => t.svl.store) _ (by intro t a; (try dsimp only); (repeat' split) <;> simp) _ _).trans (by simp)

@[simp] theorem State.nodeRoundEnd_keeps (a : NodeNo) (s : State) :
    (s.nodeRoundEnd a).fsu = s.fsu ∧ (s.nodeRoundEnd a).bgv = s.bgv ∧ (s.nodeRoundEnd a).spu = s.spu ∧
    (s.nodeRoundEnd a).msq = s.msq ∧ (s.nodeRoundEnd a).wgc = s.wgc ∧ (s.nodeRoundEnd a).held = s.held ∧
    (s.nodeRoundEnd a).free = s.free ∧ (s.nodeRoundEnd a).pending = s.pending ∧
    (s.nodeRoundEnd a).svl.rx = s.svl.rx ∧ (s.nodeRoundEnd a).svl.buffer = s.svl.buffer ∧
    (s.nodeRoundEnd a).svl.bytesDue = s.svl.bytesDue ∧ (s.nodeRoundEnd a).svl.gap = s.svl.gap ∧
    (s.nodeRoundEnd a).svl.serving = s.svl.serving ∧ (s.nodeRoundEnd a).svl.reply = s.svl.reply ∧
    (s.nodeRoundEnd a).svl.restartCalled = s.svl.restartCalled ∧
    (s.nodeRoundEnd a).svl.startedUp = s.svl.startedUp ∧ (s.nodeRoundEnd a).svl.settings = s.svl.settings ∧
    (s.nodeRoundEnd a).svl.defaulted = s.svl.defaulted ∧ (s.nodeRoundEnd a).svl.unstored = s.svl.unstored ∧
    (s.nodeRoundEnd a).svl.store = s.svl.store := by
  and_intros <;> (unfold State.nodeRoundEnd; (try dsimp only); (repeat' split) <;> simp)

@[simp] theorem State.clearFresh_keeps (a : NodeNo) (s : State) :
    (s.clearFresh a).fcl.nodes = s.fcl.nodes ∧
    (s.clearFresh a).fcl.callPointer = s.fcl.callPointer ∧
    (s.clearFresh a).fcl.roundTimer = s.fcl.roundTimer ∧
    (s.clearFresh a).fcl.pollList = s.fcl.pollList ∧
    (s.clearFresh a).fcl.toPoll = s.fcl.toPoll ∧
    (s.clearFresh a).fcl.callDone = s.fcl.callDone ∧
    (s.clearFresh a).fcl.phase = s.fcl.phase ∧
    (s.clearFresh a).fsu = s.fsu ∧ (s.clearFresh a).bgv = s.bgv ∧
    (s.clearFresh a).rsv = s.rsv ∧ (s.clearFresh a).sld = s.sld ∧ (s.clearFresh a).spu = s.spu ∧
    (s.clearFresh a).msq = s.msq ∧ (s.clearFresh a).wgc = s.wgc ∧ (s.clearFresh a).held = s.held ∧
    (s.clearFresh a).free = s.free ∧ (s.clearFresh a).pending = s.pending ∧
    (s.clearFresh a).svl.rx = s.svl.rx ∧ (s.clearFresh a).svl.buffer = s.svl.buffer ∧
    (s.clearFresh a).svl.bytesDue = s.svl.bytesDue ∧ (s.clearFresh a).svl.gap = s.svl.gap ∧
    (s.clearFresh a).svl.serving = s.svl.serving ∧ (s.clearFresh a).svl.reply = s.svl.reply ∧
    (s.clearFresh a).svl.restartCalled = s.svl.restartCalled ∧
    (s.clearFresh a).svl.startedUp = s.svl.startedUp ∧ (s.clearFresh a).svl.settings = s.svl.settings ∧
    (s.clearFresh a).svl.defaulted = s.svl.defaulted ∧ (s.clearFresh a).svl.unstored = s.svl.unstored ∧
    (s.clearFresh a).svl.store = s.svl.store := by
  unfold State.clearFresh
  and_intros
  · split
    · rfl
    · exact (foldl_keeps (fun t : State => t.fcl.nodes) _ (by intro t a; (try dsimp only); (repeat' split) <;> simp) _ _).trans (by simp)
  · split
    · rfl
    · exact (foldl_keeps (fun t : State => t.fcl.callPointer) _ (by intro t a; (try dsimp only); (repeat' split) <;> simp) _ _).trans (by simp)
  · split
    · rfl
    · exact (foldl_keeps (fun t : State => t.fcl.roundTimer) _ (by intro t a; (try dsimp only); (repeat' split) <;> simp) _ _).trans (by simp)
  · split
    · rfl
    · exact (foldl_keeps (fun t : State => t.fcl.pollList) _ (by intro t a; (try dsimp only); (repeat' split) <;> simp) _ _).trans (by simp)
  · split
    · rfl
    · exact (foldl_keeps (fun t : State => t.fcl.toPoll) _ (by intro t a; (try dsimp only); (repeat' split) <;> simp) _ _).trans (by simp)
  · split
    · rfl
    · exact (foldl_keeps (fun t : State => t.fcl.callDone) _ (by intro t a; (try dsimp only); (repeat' split) <;> simp) _ _).trans (by simp)
  · split
    · rfl
    · exact (foldl_keeps (fun t : State => t.fcl.phase) _ (by intro t a; (try dsimp only); (repeat' split) <;> simp) _ _).trans (by simp)
  · split
    · rfl
    · exact (foldl_keeps (fun t : State => t.fsu) _ (by intro t a; (try dsimp only); (repeat' split) <;> simp) _ _).trans (by simp)
  · split
    · rfl
    · exact (foldl_keeps (fun t : State => t.bgv) _ (by intro t a; (try dsimp only); (repeat' split) <;> simp) _ _).trans (by simp)
  · split
    · rfl
    · exact (foldl_keeps (fun t : State => t.rsv) _ (by intro t a; (try dsimp only); (repeat' split) <;> simp) _ _).trans (by simp)
  · split
    · rfl
    · exact (foldl_keeps (fun t : State => t.sld) _ (by intro t a; (try dsimp only); (repeat' split) <;> simp) _ _).trans (by simp)
  · split
    · rfl
    · exact (foldl_keeps (fun t : State => t.spu) _ (by intro t a; (try dsimp only); (repeat' split) <;> simp) _ _).trans (by simp)
  · split
    · rfl
    · exact (foldl_keeps (fun t : State => t.msq) _ (by intro t a; (try dsimp only); (repeat' split) <;> simp) _ _).trans (by simp)
  · split
    · rfl
    · exact (foldl_keeps (fun t : State => t.wgc) _ (by intro t a; (try dsimp only); (repeat' split) <;> simp) _ _).trans (by simp)
  · split
    · rfl
    · exact (foldl_keeps (fun t : State => t.held) _ (by intro t a; (try dsimp only); (repeat' split) <;> simp) _ _).trans (by simp)
  · split
    · rfl
    · exact (foldl_keeps (fun t : State => t.free) _ (by intro t a; (try dsimp only); (repeat' split) <;> simp) _ _).trans (by simp)
  · split
    · rfl
    · exact (foldl_keeps (fun t : State => t.pending) _ (by intro t a; (try dsimp only); (repeat' split) <;> simp) _ _).trans (by simp)
  · split
    · rfl
    · exact (foldl_keeps (fun t : State => t.svl.rx) _ (by intro t a; (try dsimp only); (repeat' split) <;> simp) _ _).trans (by simp)
  · split
    · rfl
    · exact (foldl_keeps (fun t : State => t.svl.buffer) _ (by intro t a; (try dsimp only); (repeat' split) <;> simp) _ _).trans (by simp)
  · split
    · rfl
    · exact (foldl_keeps (fun t : State => t.svl.bytesDue) _ (by intro t a; (try dsimp only); (repeat' split) <;> simp) _ _).trans (by simp)
  · split
    · rfl
    · exact (foldl_keeps (fun t : State => t.svl.gap) _ (by intro t a; (try dsimp only); (repeat' split) <;> simp) _ _).trans (by simp)
  · split
    · rfl
    · exact (foldl_keeps (fun t : State => t.svl.serving) _ (by intro t a; (try dsimp only); (repeat' split) <;> simp) _ _).trans (by simp)
  · split
    · rfl
    · exact (foldl_keeps (fun t : State => t.svl.reply) _ (by intro t a; (try dsimp only); (repeat' split) <;> simp) _ _).trans (by simp)
  · split
    · rfl
    · exact (foldl_keeps (fun t : State => t.svl.restartCalled) _ (by intro t a; (try dsimp only); (repeat' split) <;> simp) _ _).trans (by simp)
  · split
    · rfl
    · exact (foldl_keeps (fun t : State => t.svl.startedUp) _ (by intro t a; (try dsimp only); (repeat' split) <;> simp) _ _).trans (by simp)
  · split
    · rfl
    · exact (foldl_keeps (fun t : State => t.svl.settings) _ (by intro t a; (try dsimp only); (repeat' split) <;> simp) _ _).trans (by simp)
  · split
    · rfl
    · exact (foldl_keeps (fun t : State => t.svl.defaulted) _ (by intro t a; (try dsimp only); (repeat' split) <;> simp) _ _).trans (by simp)
  · split
    · rfl
    · exact (foldl_keeps (fun t : State => t.svl.unstored) _ (by intro t a; (try dsimp only); (repeat' split) <;> simp) _ _).trans (by simp)
  · split
    · rfl
    · exact (foldl_keeps (fun t : State => t.svl.store) _ (by intro t a; (try dsimp only); (repeat' split) <;> simp) _ _).trans (by simp)

@[simp] theorem State.applyStaged_keeps (n : RecNo) (s : State) :
    (s.applyStaged n).atb = s.atb ∧ (s.applyStaged n).fsu = s.fsu ∧ (s.applyStaged n).bgv = s.bgv ∧
    (s.applyStaged n).sld = s.sld ∧ (s.applyStaged n).spu = s.spu ∧ (s.applyStaged n).msq = s.msq ∧
    (s.applyStaged n).wgc = s.wgc ∧ (s.applyStaged n).svl = s.svl ∧ (s.applyStaged n).held = s.held ∧
    (s.applyStaged n).free = s.free ∧ (s.applyStaged n).pending = s.pending := by
  and_intros <;> (unfold State.applyStaged; (try dsimp only); (repeat' split) <;> simp)

@[simp] theorem State.stagedRoundEnd_keeps (s : State) :
    (s.stagedRoundEnd).fsu = s.fsu ∧ (s.stagedRoundEnd).bgv = s.bgv ∧ (s.stagedRoundEnd).spu = s.spu ∧
    (s.stagedRoundEnd).msq = s.msq ∧ (s.stagedRoundEnd).wgc = s.wgc ∧ (s.stagedRoundEnd).svl = s.svl ∧
    (s.stagedRoundEnd).held = s.held ∧ (s.stagedRoundEnd).free = s.free ∧ (s.stagedRoundEnd).pending = s.pending := by
  unfold State.stagedRoundEnd
  and_intros
  · (try dsimp only); split
    · exact (foldl_keeps (fun t : State => t.fsu) _ (by intro t a; (try dsimp only); (repeat' split) <;> simp) _ _).trans (State.eachRecord_keeps (fun t => t.fsu) _ (by simp) _)
    · exact State.eachRecord_keeps (fun t => t.fsu) _ (by simp) _
  · (try dsimp only); split
    · exact (foldl_keeps (fun t : State => t.bgv) _ (by intro t a; (try dsimp only); (repeat' split) <;> simp) _ _).trans (State.eachRecord_keeps (fun t => t.bgv) _ (by simp) _)
    · exact State.eachRecord_keeps (fun t => t.bgv) _ (by simp) _
  · (try dsimp only); split
    · exact (foldl_keeps (fun t : State => t.spu) _ (by intro t a; (try dsimp only); (repeat' split) <;> simp) _ _).trans (State.eachRecord_keeps (fun t => t.spu) _ (by simp) _)
    · exact State.eachRecord_keeps (fun t => t.spu) _ (by simp) _
  · (try dsimp only); split
    · exact (foldl_keeps (fun t : State => t.msq) _ (by intro t a; (try dsimp only); (repeat' split) <;> simp) _ _).trans (State.eachRecord_keeps (fun t => t.msq) _ (by simp) _)
    · exact State.eachRecord_keeps (fun t => t.msq) _ (by simp) _
  · (try dsimp only); split
    · exact (foldl_keeps (fun t : State => t.wgc) _ (by intro t a; (try dsimp only); (repeat' split) <;> simp) _ _).trans (State.eachRecord_keeps (fun t => t.wgc) _ (by simp) _)
    · exact State.eachRecord_keeps (fun t => t.wgc) _ (by simp) _
  · (try dsimp only); split
    · exact (foldl_keeps (fun t : State => t.svl) _ (by intro t a; (try dsimp only); (repeat' split) <;> simp) _ _).trans (State.eachRecord_keeps (fun t => t.svl) _ (by simp) _)
    · exact State.eachRecord_keeps (fun t => t.svl) _ (by simp) _
  · (try dsimp only); split
    · exact (foldl_keeps (fun t : State => t.held) _ (by intro t a; (try dsimp only); (repeat' split) <;> simp) _ _).trans (State.eachRecord_keeps (fun t => t.held) _ (by simp) _)
    · exact State.eachRecord_keeps (fun t => t.held) _ (by simp) _
  · (try dsimp only); split
    · exact (foldl_keeps (fun t : State => t.free) _ (by intro t a; (try dsimp only); (repeat' split) <;> simp) _ _).trans (State.eachRecord_keeps (fun t => t.free) _ (by simp) _)
    · exact State.eachRecord_keeps (fun t => t.free) _ (by simp) _
  · (try dsimp only); split
    · exact (foldl_keeps (fun t : State => t.pending) _ (by intro t a; (try dsimp only); (repeat' split) <;> simp) _ _).trans (State.eachRecord_keeps (fun t => t.pending) _ (by simp) _)
    · exact State.eachRecord_keeps (fun t => t.pending) _ (by simp) _

@[simp] theorem State.countRounds_keeps (s : State) :
    (s.countRounds).fsu = s.fsu ∧ (s.countRounds).bgv = s.bgv ∧ (s.countRounds).spu = s.spu ∧
    (s.countRounds).msq = s.msq ∧ (s.countRounds).wgc = s.wgc ∧ (s.countRounds).svl = s.svl ∧
    (s.countRounds).held = s.held ∧ (s.countRounds).free = s.free ∧ (s.countRounds).pending = s.pending := by
  unfold State.countRounds
  and_intros
  · exact (foldl_keeps (fun t : State => t.fsu) _ (by intro t a; (try dsimp only); (repeat' split) <;> simp) _ _).trans (by simp)
  · exact (foldl_keeps (fun t : State => t.bgv) _ (by intro t a; (try dsimp only); (repeat' split) <;> simp) _ _).trans (by simp)
  · exact (foldl_keeps (fun t : State => t.spu) _ (by intro t a; (try dsimp only); (repeat' split) <;> simp) _ _).trans (by simp)
  · exact (foldl_keeps (fun t : State => t.msq) _ (by intro t a; (try dsimp only); (repeat' split) <;> simp) _ _).trans (by simp)
  · exact (foldl_keeps (fun t : State => t.wgc) _ (by intro t a; (try dsimp only); (repeat' split) <;> simp) _ _).trans (by simp)
  · exact (foldl_keeps (fun t : State => t.svl) _ (by intro t a; (try dsimp only); (repeat' split) <;> simp) _ _).trans (by simp)
  · exact (foldl_keeps (fun t : State => t.held) _ (by intro t a; (try dsimp only); (repeat' split) <;> simp) _ _).trans (by simp)
  · exact (foldl_keeps (fun t : State => t.free) _ (by intro t a; (try dsimp only); (repeat' split) <;> simp) _ _).trans (by simp)
  · exact (foldl_keeps (fun t : State => t.pending) _ (by intro t a; (try dsimp only); (repeat' split) <;> simp) _ _).trans (by simp)

@[simp] theorem State.roundEnd_keeps (s : State) :
    (s.roundEnd).fsu = s.fsu ∧ (s.roundEnd).bgv = s.bgv ∧ (s.roundEnd).spu = s.spu ∧ (s.roundEnd).msq = s.msq ∧
    (s.roundEnd).wgc = s.wgc ∧ (s.roundEnd).held = s.held ∧ (s.roundEnd).free = s.free ∧
    (s.roundEnd).pending = s.pending ∧ (s.roundEnd).svl.rx = s.svl.rx ∧
    (s.roundEnd).svl.buffer = s.svl.buffer ∧ (s.roundEnd).svl.bytesDue = s.svl.bytesDue ∧
    (s.roundEnd).svl.gap = s.svl.gap ∧ (s.roundEnd).svl.serving = s.svl.serving ∧
    (s.roundEnd).svl.reply = s.svl.reply ∧ (s.roundEnd).svl.restartCalled = s.svl.restartCalled ∧
    (s.roundEnd).svl.startedUp = s.svl.startedUp ∧ (s.roundEnd).svl.settings = s.svl.settings ∧
    (s.roundEnd).svl.defaulted = s.svl.defaulted ∧ (s.roundEnd).svl.unstored = s.svl.unstored ∧
    (s.roundEnd).svl.store = s.svl.store := by
  unfold State.roundEnd
  and_intros
  · simp only [State.refill_keeps, State.countRounds_keeps, State.stagedRoundEnd_keeps]
    exact (foldl_keeps (fun t : State => t.fsu) _ (by simp) _ _).trans
      ((foldl_keeps (fun t : State => t.fsu) _ (by simp) _ _).trans (by simp))
  · simp only [State.refill_keeps, State.countRounds_keeps, State.stagedRoundEnd_keeps]
    exact (foldl_keeps (fun t : State => t.bgv) _ (by simp) _ _).trans
      ((foldl_keeps (fun t : State => t.bgv) _ (by simp) _ _).trans (by simp))
  · simp only [State.refill_keeps, State.countRounds_keeps, State.stagedRoundEnd_keeps]
    exact (foldl_keeps (fun t : State => t.spu) _ (by simp) _ _).trans
      ((foldl_keeps (fun t : State => t.spu) _ (by simp) _ _).trans (by simp))
  · simp only [State.refill_keeps, State.countRounds_keeps, State.stagedRoundEnd_keeps]
    exact (foldl_keeps (fun t : State => t.msq) _ (by simp) _ _).trans
      ((foldl_keeps (fun t : State => t.msq) _ (by simp) _ _).trans (by simp))
  · simp only [State.refill_keeps, State.countRounds_keeps, State.stagedRoundEnd_keeps]
    exact (foldl_keeps (fun t : State => t.wgc) _ (by simp) _ _).trans
      ((foldl_keeps (fun t : State => t.wgc) _ (by simp) _ _).trans (by simp))
  · simp only [State.refill_keeps, State.countRounds_keeps, State.stagedRoundEnd_keeps]
    exact (foldl_keeps (fun t : State => t.held) _ (by simp) _ _).trans
      ((foldl_keeps (fun t : State => t.held) _ (by simp) _ _).trans (by simp))
  · simp only [State.refill_keeps, State.countRounds_keeps, State.stagedRoundEnd_keeps]
    exact (foldl_keeps (fun t : State => t.free) _ (by simp) _ _).trans
      ((foldl_keeps (fun t : State => t.free) _ (by simp) _ _).trans (by simp))
  · simp only [State.refill_keeps, State.countRounds_keeps, State.stagedRoundEnd_keeps]
    exact (foldl_keeps (fun t : State => t.pending) _ (by simp) _ _).trans
      ((foldl_keeps (fun t : State => t.pending) _ (by simp) _ _).trans (by simp))
  · simp only [State.refill_keeps, State.countRounds_keeps, State.stagedRoundEnd_keeps]
    exact (foldl_keeps (fun t : State => t.svl.rx) _ (by simp) _ _).trans
      ((foldl_keeps (fun t : State => t.svl.rx) _ (by simp) _ _).trans (by simp))
  · simp only [State.refill_keeps, State.countRounds_keeps, State.stagedRoundEnd_keeps]
    exact (foldl_keeps (fun t : State => t.svl.buffer) _ (by simp) _ _).trans
      ((foldl_keeps (fun t : State => t.svl.buffer) _ (by simp) _ _).trans (by simp))
  · simp only [State.refill_keeps, State.countRounds_keeps, State.stagedRoundEnd_keeps]
    exact (foldl_keeps (fun t : State => t.svl.bytesDue) _ (by simp) _ _).trans
      ((foldl_keeps (fun t : State => t.svl.bytesDue) _ (by simp) _ _).trans (by simp))
  · simp only [State.refill_keeps, State.countRounds_keeps, State.stagedRoundEnd_keeps]
    exact (foldl_keeps (fun t : State => t.svl.gap) _ (by simp) _ _).trans
      ((foldl_keeps (fun t : State => t.svl.gap) _ (by simp) _ _).trans (by simp))
  · simp only [State.refill_keeps, State.countRounds_keeps, State.stagedRoundEnd_keeps]
    exact (foldl_keeps (fun t : State => t.svl.serving) _ (by simp) _ _).trans
      ((foldl_keeps (fun t : State => t.svl.serving) _ (by simp) _ _).trans (by simp))
  · simp only [State.refill_keeps, State.countRounds_keeps, State.stagedRoundEnd_keeps]
    exact (foldl_keeps (fun t : State => t.svl.reply) _ (by simp) _ _).trans
      ((foldl_keeps (fun t : State => t.svl.reply) _ (by simp) _ _).trans (by simp))
  · simp only [State.refill_keeps, State.countRounds_keeps, State.stagedRoundEnd_keeps]
    exact (foldl_keeps (fun t : State => t.svl.restartCalled) _ (by simp) _ _).trans
      ((foldl_keeps (fun t : State => t.svl.restartCalled) _ (by simp) _ _).trans (by simp))
  · simp only [State.refill_keeps, State.countRounds_keeps, State.stagedRoundEnd_keeps]
    exact (foldl_keeps (fun t : State => t.svl.startedUp) _ (by simp) _ _).trans
      ((foldl_keeps (fun t : State => t.svl.startedUp) _ (by simp) _ _).trans (by simp))
  · simp only [State.refill_keeps, State.countRounds_keeps, State.stagedRoundEnd_keeps]
    exact (foldl_keeps (fun t : State => t.svl.settings) _ (by simp) _ _).trans
      ((foldl_keeps (fun t : State => t.svl.settings) _ (by simp) _ _).trans (by simp))
  · simp only [State.refill_keeps, State.countRounds_keeps, State.stagedRoundEnd_keeps]
    exact (foldl_keeps (fun t : State => t.svl.defaulted) _ (by simp) _ _).trans
      ((foldl_keeps (fun t : State => t.svl.defaulted) _ (by simp) _ _).trans (by simp))
  · simp only [State.refill_keeps, State.countRounds_keeps, State.stagedRoundEnd_keeps]
    exact (foldl_keeps (fun t : State => t.svl.unstored) _ (by simp) _ _).trans
      ((foldl_keeps (fun t : State => t.svl.unstored) _ (by simp) _ _).trans (by simp))
  · simp only [State.refill_keeps, State.countRounds_keeps, State.stagedRoundEnd_keeps]
    exact (foldl_keeps (fun t : State => t.svl.store) _ (by simp) _ _).trans
      ((foldl_keeps (fun t : State => t.svl.store) _ (by simp) _ _).trans (by simp))

@[simp] theorem State.nextFrame_keeps (s : State) :
    (s.nextFrame).fsu = s.fsu ∧ (s.nextFrame).bgv = s.bgv ∧ (s.nextFrame).spu = s.spu ∧
    (s.nextFrame).msq = s.msq ∧ (s.nextFrame).wgc = s.wgc ∧ (s.nextFrame).held = s.held ∧
    (s.nextFrame).free = s.free ∧ (s.nextFrame).pending = s.pending ∧ (s.nextFrame).svl.rx = s.svl.rx ∧
    (s.nextFrame).svl.buffer = s.svl.buffer ∧ (s.nextFrame).svl.bytesDue = s.svl.bytesDue ∧
    (s.nextFrame).svl.gap = s.svl.gap ∧ (s.nextFrame).svl.serving = s.svl.serving ∧
    (s.nextFrame).svl.reply = s.svl.reply ∧ (s.nextFrame).svl.restartCalled = s.svl.restartCalled ∧
    (s.nextFrame).svl.startedUp = s.svl.startedUp ∧ (s.nextFrame).svl.settings = s.svl.settings ∧
    (s.nextFrame).svl.defaulted = s.svl.defaulted ∧ (s.nextFrame).svl.unstored = s.svl.unstored ∧
    (s.nextFrame).svl.store = s.svl.store := by
  and_intros <;> (unfold State.nextFrame; (try dsimp only); (repeat' split) <;> simp)

@[simp] theorem State.startRound_keeps (s : State) :
    (s.startRound).fsu = s.fsu ∧ (s.startRound).bgv = s.bgv ∧ (s.startRound).spu = s.spu ∧
    (s.startRound).msq = s.msq ∧ (s.startRound).wgc = s.wgc ∧ (s.startRound).held = s.held ∧
    (s.startRound).free = s.free ∧ (s.startRound).pending = s.pending ∧ (s.startRound).svl.rx = s.svl.rx ∧
    (s.startRound).svl.buffer = s.svl.buffer ∧ (s.startRound).svl.bytesDue = s.svl.bytesDue ∧
    (s.startRound).svl.gap = s.svl.gap ∧ (s.startRound).svl.serving = s.svl.serving ∧
    (s.startRound).svl.reply = s.svl.reply ∧ (s.startRound).svl.restartCalled = s.svl.restartCalled ∧
    (s.startRound).svl.startedUp = s.svl.startedUp ∧ (s.startRound).svl.settings = s.svl.settings ∧
    (s.startRound).svl.defaulted = s.svl.defaulted ∧ (s.startRound).svl.unstored = s.svl.unstored ∧
    (s.startRound).svl.store = s.svl.store := by
  and_intros <;> simp [State.startRound]

@[simp] theorem State.roundExpiry_keeps (s : State) :
    (s.roundExpiry).fsu = s.fsu ∧ (s.roundExpiry).bgv = s.bgv ∧ (s.roundExpiry).spu = s.spu ∧
    (s.roundExpiry).msq = s.msq ∧ (s.roundExpiry).wgc = s.wgc ∧ (s.roundExpiry).held = s.held ∧
    (s.roundExpiry).free = s.free ∧ (s.roundExpiry).pending = s.pending ∧ (s.roundExpiry).svl.rx = s.svl.rx ∧
    (s.roundExpiry).svl.buffer = s.svl.buffer ∧ (s.roundExpiry).svl.bytesDue = s.svl.bytesDue ∧
    (s.roundExpiry).svl.gap = s.svl.gap ∧ (s.roundExpiry).svl.serving = s.svl.serving ∧
    (s.roundExpiry).svl.reply = s.svl.reply ∧ (s.roundExpiry).svl.restartCalled = s.svl.restartCalled ∧
    (s.roundExpiry).svl.startedUp = s.svl.startedUp ∧ (s.roundExpiry).svl.settings = s.svl.settings ∧
    (s.roundExpiry).svl.defaulted = s.svl.defaulted ∧ (s.roundExpiry).svl.unstored = s.svl.unstored ∧
    (s.roundExpiry).svl.store = s.svl.store := by
  and_intros <;> (unfold State.roundExpiry; (try dsimp only); (repeat' split) <;> simp)

@[simp] theorem State.sendFrame_keeps (a : NodeNo) (call : Bool) (s : State) :
    (s.sendFrame a call).nva = s.nva ∧ (s.sendFrame a call).atb = s.atb ∧ (s.sendFrame a call).fsu = s.fsu ∧
    (s.sendFrame a call).bgv = s.bgv ∧ (s.sendFrame a call).rsv = s.rsv ∧ (s.sendFrame a call).sld = s.sld ∧
    (s.sendFrame a call).spu = s.spu ∧ (s.sendFrame a call).msq = s.msq ∧ (s.sendFrame a call).wgc = s.wgc ∧
    (s.sendFrame a call).svl = s.svl ∧ (s.sendFrame a call).held = s.held ∧
    (s.sendFrame a call).free = s.free ∧ (s.sendFrame a call).pending = s.pending := by
  and_intros <;> simp [State.sendFrame]

@[simp] theorem State.openWindow_keeps (a : NodeNo) (call : Bool) (s : State) :
    (s.openWindow a call).nva = s.nva ∧ (s.openWindow a call).atb = s.atb ∧ (s.openWindow a call).fsu = s.fsu ∧
    (s.openWindow a call).bgv = s.bgv ∧ (s.openWindow a call).rsv = s.rsv ∧ (s.openWindow a call).sld = s.sld ∧
    (s.openWindow a call).spu = s.spu ∧ (s.openWindow a call).msq = s.msq ∧ (s.openWindow a call).wgc = s.wgc ∧
    (s.openWindow a call).svl = s.svl ∧ (s.openWindow a call).held = s.held ∧
    (s.openWindow a call).free = s.free ∧ (s.openWindow a call).pending = s.pending := by
  and_intros <;> simp [State.openWindow]

@[simp] theorem State.beginReception_keeps (a : NodeNo) (call : Bool) (s : State) :
    (s.beginReception a call).nva = s.nva ∧ (s.beginReception a call).atb = s.atb ∧
    (s.beginReception a call).fsu = s.fsu ∧ (s.beginReception a call).bgv = s.bgv ∧
    (s.beginReception a call).rsv = s.rsv ∧ (s.beginReception a call).sld = s.sld ∧
    (s.beginReception a call).spu = s.spu ∧ (s.beginReception a call).msq = s.msq ∧
    (s.beginReception a call).wgc = s.wgc ∧ (s.beginReception a call).svl = s.svl ∧
    (s.beginReception a call).held = s.held ∧ (s.beginReception a call).free = s.free ∧
    (s.beginReception a call).pending = s.pending := by
  and_intros <;> simp [State.beginReception]

@[simp] theorem State.discardReply_keeps (a : NodeNo) (s : State) :
    (s.discardReply a).nva = s.nva ∧ (s.discardReply a).atb = s.atb ∧ (s.discardReply a).fsu = s.fsu ∧
    (s.discardReply a).bgv = s.bgv ∧ (s.discardReply a).rsv = s.rsv ∧ (s.discardReply a).sld = s.sld ∧
    (s.discardReply a).spu = s.spu ∧ (s.discardReply a).msq = s.msq ∧ (s.discardReply a).wgc = s.wgc ∧
    (s.discardReply a).svl = s.svl ∧ (s.discardReply a).held = s.held ∧ (s.discardReply a).free = s.free ∧
    (s.discardReply a).pending = s.pending := by
  and_intros <;> simp [State.discardReply]

@[simp] theorem State.nodeHeard_keeps (a : NodeNo) (call : Bool) (s : State) :
    (s.nodeHeard a call).nva = s.nva ∧ (s.nodeHeard a call).atb = s.atb ∧ (s.nodeHeard a call).fsu = s.fsu ∧
    (s.nodeHeard a call).bgv = s.bgv ∧ (s.nodeHeard a call).sld = s.sld ∧ (s.nodeHeard a call).spu = s.spu ∧
    (s.nodeHeard a call).msq = s.msq ∧ (s.nodeHeard a call).wgc = s.wgc ∧ (s.nodeHeard a call).held = s.held ∧
    (s.nodeHeard a call).free = s.free ∧ (s.nodeHeard a call).pending = s.pending ∧
    (s.nodeHeard a call).svl.rx = s.svl.rx ∧ (s.nodeHeard a call).svl.buffer = s.svl.buffer ∧
    (s.nodeHeard a call).svl.bytesDue = s.svl.bytesDue ∧ (s.nodeHeard a call).svl.gap = s.svl.gap ∧
    (s.nodeHeard a call).svl.serving = s.svl.serving ∧ (s.nodeHeard a call).svl.reply = s.svl.reply ∧
    (s.nodeHeard a call).svl.restartCalled = s.svl.restartCalled ∧
    (s.nodeHeard a call).svl.startedUp = s.svl.startedUp ∧ (s.nodeHeard a call).svl.settings = s.svl.settings ∧
    (s.nodeHeard a call).svl.defaulted = s.svl.defaulted ∧ (s.nodeHeard a call).svl.unstored = s.svl.unstored ∧
    (s.nodeHeard a call).svl.store = s.svl.store := by
  and_intros <;> (unfold State.nodeHeard; (try dsimp only); (repeat' split) <;> simp)

@[simp] theorem State.validReply_keeps (a : NodeNo) (call : Bool) (l : List Byte) (s : State) :
    (s.validReply a call l).fsu = s.fsu ∧ (s.validReply a call l).bgv = s.bgv ∧
    (s.validReply a call l).spu = s.spu ∧ (s.validReply a call l).msq = s.msq ∧
    (s.validReply a call l).wgc = s.wgc ∧ (s.validReply a call l).held = s.held ∧
    (s.validReply a call l).free = s.free ∧ (s.validReply a call l).pending = s.pending ∧
    (s.validReply a call l).svl.rx = s.svl.rx ∧ (s.validReply a call l).svl.buffer = s.svl.buffer ∧
    (s.validReply a call l).svl.bytesDue = s.svl.bytesDue ∧ (s.validReply a call l).svl.gap = s.svl.gap ∧
    (s.validReply a call l).svl.serving = s.svl.serving ∧ (s.validReply a call l).svl.reply = s.svl.reply ∧
    (s.validReply a call l).svl.restartCalled = s.svl.restartCalled ∧
    (s.validReply a call l).svl.startedUp = s.svl.startedUp ∧
    (s.validReply a call l).svl.settings = s.svl.settings ∧
    (s.validReply a call l).svl.defaulted = s.svl.defaulted ∧
    (s.validReply a call l).svl.unstored = s.svl.unstored ∧ (s.validReply a call l).svl.store = s.svl.store := by
  unfold State.validReply
  and_intros
  · (try dsimp only)
    refine (foldl_keeps (fun t : State => t.fsu) _ (by simp) _ _).trans ?_
    (repeat' split)
    all_goals first | (simp; done) | (refine Eq.trans (foldl_keeps (fun t : State => t.fsu) _ (by simp) _ _) ?_; simp; done) | (refine Eq.trans (show (State.modNode _ _ _).fsu = _ from by simp only [State.modNode_keeps]) ?_; exact (foldl_keeps (fun t : State => t.fsu) _ (by simp) _ _).trans (by simp))
  · (try dsimp only)
    refine (foldl_keeps (fun t : State => t.bgv) _ (by simp) _ _).trans ?_
    (repeat' split)
    all_goals first | (simp; done) | (refine Eq.trans (foldl_keeps (fun t : State => t.bgv) _ (by simp) _ _) ?_; simp; done) | (refine Eq.trans (show (State.modNode _ _ _).bgv = _ from by simp only [State.modNode_keeps]) ?_; exact (foldl_keeps (fun t : State => t.bgv) _ (by simp) _ _).trans (by simp))
  · (try dsimp only)
    refine (foldl_keeps (fun t : State => t.spu) _ (by simp) _ _).trans ?_
    (repeat' split)
    all_goals first | (simp; done) | (refine Eq.trans (foldl_keeps (fun t : State => t.spu) _ (by simp) _ _) ?_; simp; done) | (refine Eq.trans (show (State.modNode _ _ _).spu = _ from by simp only [State.modNode_keeps]) ?_; exact (foldl_keeps (fun t : State => t.spu) _ (by simp) _ _).trans (by simp))
  · (try dsimp only)
    refine (foldl_keeps (fun t : State => t.msq) _ (by simp) _ _).trans ?_
    (repeat' split)
    all_goals first | (simp; done) | (refine Eq.trans (foldl_keeps (fun t : State => t.msq) _ (by simp) _ _) ?_; simp; done) | (refine Eq.trans (show (State.modNode _ _ _).msq = _ from by simp only [State.modNode_keeps]) ?_; exact (foldl_keeps (fun t : State => t.msq) _ (by simp) _ _).trans (by simp))
  · (try dsimp only)
    refine (foldl_keeps (fun t : State => t.wgc) _ (by simp) _ _).trans ?_
    (repeat' split)
    all_goals first | (simp; done) | (refine Eq.trans (foldl_keeps (fun t : State => t.wgc) _ (by simp) _ _) ?_; simp; done) | (refine Eq.trans (show (State.modNode _ _ _).wgc = _ from by simp only [State.modNode_keeps]) ?_; exact (foldl_keeps (fun t : State => t.wgc) _ (by simp) _ _).trans (by simp))
  · (try dsimp only)
    refine (foldl_keeps (fun t : State => t.held) _ (by simp) _ _).trans ?_
    (repeat' split)
    all_goals first | (simp; done) | (refine Eq.trans (foldl_keeps (fun t : State => t.held) _ (by simp) _ _) ?_; simp; done) | (refine Eq.trans (show (State.modNode _ _ _).held = _ from by simp only [State.modNode_keeps]) ?_; exact (foldl_keeps (fun t : State => t.held) _ (by simp) _ _).trans (by simp))
  · (try dsimp only)
    refine (foldl_keeps (fun t : State => t.free) _ (by simp) _ _).trans ?_
    (repeat' split)
    all_goals first | (simp; done) | (refine Eq.trans (foldl_keeps (fun t : State => t.free) _ (by simp) _ _) ?_; simp; done) | (refine Eq.trans (show (State.modNode _ _ _).free = _ from by simp only [State.modNode_keeps]) ?_; exact (foldl_keeps (fun t : State => t.free) _ (by simp) _ _).trans (by simp))
  · (try dsimp only)
    refine (foldl_keeps (fun t : State => t.pending) _ (by simp) _ _).trans ?_
    (repeat' split)
    all_goals first | (simp; done) | (refine Eq.trans (foldl_keeps (fun t : State => t.pending) _ (by simp) _ _) ?_; simp; done) | (refine Eq.trans (show (State.modNode _ _ _).pending = _ from by simp only [State.modNode_keeps]) ?_; exact (foldl_keeps (fun t : State => t.pending) _ (by simp) _ _).trans (by simp))
  · (try dsimp only)
    refine (foldl_keeps (fun t : State => t.svl.rx) _ (by simp) _ _).trans ?_
    (repeat' split)
    all_goals first | (simp; done) | (refine Eq.trans (foldl_keeps (fun t : State => t.svl.rx) _ (by simp) _ _) ?_; simp; done) | (refine Eq.trans (show (State.modNode _ _ _).svl.rx = _ from by simp only [State.modNode_keeps]) ?_; exact (foldl_keeps (fun t : State => t.svl.rx) _ (by simp) _ _).trans (by simp))
  · (try dsimp only)
    refine (foldl_keeps (fun t : State => t.svl.buffer) _ (by simp) _ _).trans ?_
    (repeat' split)
    all_goals first | (simp; done) | (refine Eq.trans (foldl_keeps (fun t : State => t.svl.buffer) _ (by simp) _ _) ?_; simp; done) | (refine Eq.trans (show (State.modNode _ _ _).svl.buffer = _ from by simp only [State.modNode_keeps]) ?_; exact (foldl_keeps (fun t : State => t.svl.buffer) _ (by simp) _ _).trans (by simp))
  · (try dsimp only)
    refine (foldl_keeps (fun t : State => t.svl.bytesDue) _ (by simp) _ _).trans ?_
    (repeat' split)
    all_goals first | (simp; done) | (refine Eq.trans (foldl_keeps (fun t : State => t.svl.bytesDue) _ (by simp) _ _) ?_; simp; done) | (refine Eq.trans (show (State.modNode _ _ _).svl.bytesDue = _ from by simp only [State.modNode_keeps]) ?_; exact (foldl_keeps (fun t : State => t.svl.bytesDue) _ (by simp) _ _).trans (by simp))
  · (try dsimp only)
    refine (foldl_keeps (fun t : State => t.svl.gap) _ (by simp) _ _).trans ?_
    (repeat' split)
    all_goals first | (simp; done) | (refine Eq.trans (foldl_keeps (fun t : State => t.svl.gap) _ (by simp) _ _) ?_; simp; done) | (refine Eq.trans (show (State.modNode _ _ _).svl.gap = _ from by simp only [State.modNode_keeps]) ?_; exact (foldl_keeps (fun t : State => t.svl.gap) _ (by simp) _ _).trans (by simp))
  · (try dsimp only)
    refine (foldl_keeps (fun t : State => t.svl.serving) _ (by simp) _ _).trans ?_
    (repeat' split)
    all_goals first | (simp; done) | (refine Eq.trans (foldl_keeps (fun t : State => t.svl.serving) _ (by simp) _ _) ?_; simp; done) | (refine Eq.trans (show (State.modNode _ _ _).svl.serving = _ from by simp only [State.modNode_keeps]) ?_; exact (foldl_keeps (fun t : State => t.svl.serving) _ (by simp) _ _).trans (by simp))
  · (try dsimp only)
    refine (foldl_keeps (fun t : State => t.svl.reply) _ (by simp) _ _).trans ?_
    (repeat' split)
    all_goals first | (simp; done) | (refine Eq.trans (foldl_keeps (fun t : State => t.svl.reply) _ (by simp) _ _) ?_; simp; done) | (refine Eq.trans (show (State.modNode _ _ _).svl.reply = _ from by simp only [State.modNode_keeps]) ?_; exact (foldl_keeps (fun t : State => t.svl.reply) _ (by simp) _ _).trans (by simp))
  · (try dsimp only)
    refine (foldl_keeps (fun t : State => t.svl.restartCalled) _ (by simp) _ _).trans ?_
    (repeat' split)
    all_goals first | (simp; done) | (refine Eq.trans (foldl_keeps (fun t : State => t.svl.restartCalled) _ (by simp) _ _) ?_; simp; done) | (refine Eq.trans (show (State.modNode _ _ _).svl.restartCalled = _ from by simp only [State.modNode_keeps]) ?_; exact (foldl_keeps (fun t : State => t.svl.restartCalled) _ (by simp) _ _).trans (by simp))
  · (try dsimp only)
    refine (foldl_keeps (fun t : State => t.svl.startedUp) _ (by simp) _ _).trans ?_
    (repeat' split)
    all_goals first | (simp; done) | (refine Eq.trans (foldl_keeps (fun t : State => t.svl.startedUp) _ (by simp) _ _) ?_; simp; done) | (refine Eq.trans (show (State.modNode _ _ _).svl.startedUp = _ from by simp only [State.modNode_keeps]) ?_; exact (foldl_keeps (fun t : State => t.svl.startedUp) _ (by simp) _ _).trans (by simp))
  · (try dsimp only)
    refine (foldl_keeps (fun t : State => t.svl.settings) _ (by simp) _ _).trans ?_
    (repeat' split)
    all_goals first | (simp; done) | (refine Eq.trans (foldl_keeps (fun t : State => t.svl.settings) _ (by simp) _ _) ?_; simp; done) | (refine Eq.trans (show (State.modNode _ _ _).svl.settings = _ from by simp only [State.modNode_keeps]) ?_; exact (foldl_keeps (fun t : State => t.svl.settings) _ (by simp) _ _).trans (by simp))
  · (try dsimp only)
    refine (foldl_keeps (fun t : State => t.svl.defaulted) _ (by simp) _ _).trans ?_
    (repeat' split)
    all_goals first | (simp; done) | (refine Eq.trans (foldl_keeps (fun t : State => t.svl.defaulted) _ (by simp) _ _) ?_; simp; done) | (refine Eq.trans (show (State.modNode _ _ _).svl.defaulted = _ from by simp only [State.modNode_keeps]) ?_; exact (foldl_keeps (fun t : State => t.svl.defaulted) _ (by simp) _ _).trans (by simp))
  · (try dsimp only)
    refine (foldl_keeps (fun t : State => t.svl.unstored) _ (by simp) _ _).trans ?_
    (repeat' split)
    all_goals first | (simp; done) | (refine Eq.trans (foldl_keeps (fun t : State => t.svl.unstored) _ (by simp) _ _) ?_; simp; done) | (refine Eq.trans (show (State.modNode _ _ _).svl.unstored = _ from by simp only [State.modNode_keeps]) ?_; exact (foldl_keeps (fun t : State => t.svl.unstored) _ (by simp) _ _).trans (by simp))
  · (try dsimp only)
    refine (foldl_keeps (fun t : State => t.svl.store) _ (by simp) _ _).trans ?_
    (repeat' split)
    all_goals first | (simp; done) | (refine Eq.trans (foldl_keeps (fun t : State => t.svl.store) _ (by simp) _ _) ?_; simp; done) | (refine Eq.trans (show (State.modNode _ _ _).svl.store = _ from by simp only [State.modNode_keeps]) ?_; exact (foldl_keeps (fun t : State => t.svl.store) _ (by simp) _ _).trans (by simp))

@[simp] theorem State.endSlot_keeps (s : State) :
    (s.endSlot).fsu = s.fsu ∧ (s.endSlot).bgv = s.bgv ∧ (s.endSlot).wgc = s.wgc ∧ (s.endSlot).held = s.held ∧
    (s.endSlot).free = s.free ∧ (s.endSlot).pending = s.pending ∧ (s.endSlot).svl.rx = s.svl.rx ∧
    (s.endSlot).svl.buffer = s.svl.buffer ∧ (s.endSlot).svl.bytesDue = s.svl.bytesDue ∧
    (s.endSlot).svl.gap = s.svl.gap ∧ (s.endSlot).svl.serving = s.svl.serving ∧
    (s.endSlot).svl.reply = s.svl.reply ∧ (s.endSlot).svl.restartCalled = s.svl.restartCalled ∧
    (s.endSlot).svl.startedUp = s.svl.startedUp ∧ (s.endSlot).svl.settings = s.svl.settings ∧
    (s.endSlot).svl.defaulted = s.svl.defaulted ∧ (s.endSlot).svl.unstored = s.svl.unstored ∧
    (s.endSlot).svl.store = s.svl.store := by
  and_intros <;> simp [State.endSlot]

@[simp] theorem State.receiveReply_keeps (a : NodeNo) (call : Bool) (chars : List LineChar) (s : State) :
    (s.receiveReply a call chars).fsu = s.fsu ∧ (s.receiveReply a call chars).bgv = s.bgv ∧
    (s.receiveReply a call chars).spu = s.spu ∧ (s.receiveReply a call chars).msq = s.msq ∧
    (s.receiveReply a call chars).wgc = s.wgc ∧ (s.receiveReply a call chars).held = s.held ∧
    (s.receiveReply a call chars).free = s.free ∧ (s.receiveReply a call chars).pending = s.pending ∧
    (s.receiveReply a call chars).svl.rx = s.svl.rx ∧ (s.receiveReply a call chars).svl.buffer = s.svl.buffer ∧
    (s.receiveReply a call chars).svl.bytesDue = s.svl.bytesDue ∧
    (s.receiveReply a call chars).svl.gap = s.svl.gap ∧
    (s.receiveReply a call chars).svl.serving = s.svl.serving ∧
    (s.receiveReply a call chars).svl.reply = s.svl.reply ∧
    (s.receiveReply a call chars).svl.restartCalled = s.svl.restartCalled ∧
    (s.receiveReply a call chars).svl.startedUp = s.svl.startedUp ∧
    (s.receiveReply a call chars).svl.settings = s.svl.settings ∧
    (s.receiveReply a call chars).svl.defaulted = s.svl.defaulted ∧
    (s.receiveReply a call chars).svl.unstored = s.svl.unstored ∧
    (s.receiveReply a call chars).svl.store = s.svl.store := by
  and_intros <;> (unfold State.receiveReply; (try dsimp only); (repeat' split) <;> simp)

/-! ## The reset loads -/

@[simp] theorem State.activateRecord_keeps (n : RecNo) (s : State) :
    (s.activateRecord n).fsu = s.fsu ∧ (s.activateRecord n).bgv = s.bgv ∧ (s.activateRecord n).spu = s.spu ∧
    (s.activateRecord n).msq = s.msq ∧ (s.activateRecord n).wgc = s.wgc ∧ (s.activateRecord n).svl = s.svl ∧
    (s.activateRecord n).held = s.held ∧ (s.activateRecord n).free = s.free ∧
    (s.activateRecord n).pending = s.pending := by
  and_intros <;> (unfold State.activateRecord; split <;> simp)

@[simp] theorem State.cutStore_keeps (s : State) :
    (s.cutStore).atb = s.atb ∧ (s.cutStore).fcl = s.fcl ∧ (s.cutStore).fsu = s.fsu ∧ (s.cutStore).bgv = s.bgv ∧
    (s.cutStore).rsv = s.rsv ∧ (s.cutStore).sld = s.sld ∧ (s.cutStore).spu = s.spu ∧ (s.cutStore).msq = s.msq ∧
    (s.cutStore).wgc = s.wgc ∧ (s.cutStore).svl = s.svl ∧ (s.cutStore).held = s.held ∧
    (s.cutStore).pending = s.pending ∧ (s.cutStore).nva.slots = s.nva.slots ∧ (s.cutStore).nva.map = s.nva.map ∧
    (s.cutStore).nva.plantRecord = s.nva.plantRecord := by
  and_intros <;> (unfold State.cutStore; split <;> simp)

@[simp] theorem State.useSettings_keeps (x : Settings) (s : State) :
    (s.useSettings x).nva = s.nva ∧ (s.useSettings x).atb = s.atb ∧ (s.useSettings x).fcl = s.fcl ∧
    (s.useSettings x).fsu = s.fsu ∧ (s.useSettings x).bgv = s.bgv ∧ (s.useSettings x).rsv = s.rsv ∧
    (s.useSettings x).sld = s.sld ∧ (s.useSettings x).spu = s.spu ∧ (s.useSettings x).msq = s.msq ∧
    (s.useSettings x).wgc = s.wgc ∧ (s.useSettings x).held = s.held ∧ (s.useSettings x).free = s.free ∧
    (s.useSettings x).pending = s.pending ∧ (s.useSettings x).svl.rx = s.svl.rx ∧
    (s.useSettings x).svl.buffer = s.svl.buffer ∧ (s.useSettings x).svl.bytesDue = s.svl.bytesDue ∧
    (s.useSettings x).svl.gap = s.svl.gap ∧ (s.useSettings x).svl.serving = s.svl.serving ∧
    (s.useSettings x).svl.reply = s.svl.reply ∧ (s.useSettings x).svl.restartCalled = s.svl.restartCalled ∧
    (s.useSettings x).svl.startedUp = s.svl.startedUp ∧ (s.useSettings x).svl.unstored = s.svl.unstored ∧
    (s.useSettings x).svl.store = s.svl.store ∧ (s.useSettings x).svl.flags = s.svl.flags := by
  and_intros <;> simp [State.useSettings]

@[simp] theorem State.useDefaults_keeps (s : State) :
    (s.useDefaults).nva = s.nva ∧ (s.useDefaults).atb = s.atb ∧ (s.useDefaults).fcl = s.fcl ∧
    (s.useDefaults).fsu = s.fsu ∧ (s.useDefaults).bgv = s.bgv ∧ (s.useDefaults).rsv = s.rsv ∧
    (s.useDefaults).sld = s.sld ∧ (s.useDefaults).spu = s.spu ∧ (s.useDefaults).msq = s.msq ∧
    (s.useDefaults).wgc = s.wgc ∧ (s.useDefaults).held = s.held ∧ (s.useDefaults).free = s.free ∧
    (s.useDefaults).pending = s.pending ∧ (s.useDefaults).svl.rx = s.svl.rx ∧
    (s.useDefaults).svl.buffer = s.svl.buffer ∧ (s.useDefaults).svl.bytesDue = s.svl.bytesDue ∧
    (s.useDefaults).svl.gap = s.svl.gap ∧ (s.useDefaults).svl.serving = s.svl.serving ∧
    (s.useDefaults).svl.reply = s.svl.reply ∧ (s.useDefaults).svl.restartCalled = s.svl.restartCalled ∧
    (s.useDefaults).svl.startedUp = s.svl.startedUp ∧ (s.useDefaults).svl.unstored = s.svl.unstored ∧
    (s.useDefaults).svl.store = s.svl.store := by
  and_intros <;> simp [State.useDefaults]

@[simp] theorem State.loadPage_keeps (s : State) :
    (s.loadPage).atb = s.atb ∧ (s.loadPage).fcl = s.fcl ∧ (s.loadPage).fsu = s.fsu ∧ (s.loadPage).bgv = s.bgv ∧
    (s.loadPage).rsv = s.rsv ∧ (s.loadPage).sld = s.sld ∧ (s.loadPage).spu = s.spu ∧ (s.loadPage).msq = s.msq ∧
    (s.loadPage).wgc = s.wgc ∧ (s.loadPage).held = s.held ∧ (s.loadPage).free = s.free ∧
    (s.loadPage).pending = s.pending ∧ (s.loadPage).nva.slots = s.nva.slots ∧ (s.loadPage).nva.map = s.nva.map ∧
    (s.loadPage).nva.plantRecord = s.nva.plantRecord ∧ (s.loadPage).svl.rx = s.svl.rx ∧
    (s.loadPage).svl.buffer = s.svl.buffer ∧ (s.loadPage).svl.bytesDue = s.svl.bytesDue ∧
    (s.loadPage).svl.gap = s.svl.gap ∧ (s.loadPage).svl.serving = s.svl.serving ∧
    (s.loadPage).svl.reply = s.svl.reply ∧ (s.loadPage).svl.restartCalled = s.svl.restartCalled ∧
    (s.loadPage).svl.startedUp = s.svl.startedUp ∧ (s.loadPage).svl.unstored = s.svl.unstored ∧
    (s.loadPage).svl.store = s.svl.store := by
  and_intros <;> (unfold State.loadPage; (try dsimp only); (repeat' split) <;> simp)

end Sys2Proof.Machine
end

