-- ==== Sys2Proof/Laws/Governor.lean ====
section
/-! SUPPORT. The coarse level: the set of banks taken from the heaviest down is the best one (04 R75). -/

namespace Sys2Proof.Machine

/-- The banks taken do not exceed the level asked for. -/
theorem coarseBanks_level_le (h : Healths) (q : Nat) : (coarseBanks h q).level ≤ q := by
  unfold coarseBanks Banks.level
  cases h.fit .a <;> cases h.fit .b <;> cases h.fit .c <;> cases h.fit .d <;>
    simp <;> split <;> (try split) <;> (try split) <;> (try split) <;> omega

/-- One bank of the choice, of weight w, before lighter banks whose sum is below w and whose own choice g is best. -/
theorem greedy_stage (f x : Bool) (w r : Nat) (g : Nat → Nat) (hx : x = true → f = true) (hr : r < w)
    (hg : ∀ q, r ≤ q → r ≤ g q) (q : Nat) (hq : (if x then w else 0) + r ≤ q) :
    (if x then w else 0) + r ≤
      (if f && decide (w ≤ q) then w else 0) + g (if f && decide (w ≤ q) then q - w else q) := by
  have h₁ := hg (q - w)
  have h₂ := hg q
  cases x
  · by_cases hw : w ≤ q <;> cases f <;>
      simp only [hw, Bool.false_and, Bool.true_and, decide_true, decide_false, if_true, if_false,
        Bool.false_eq_true] at * <;> omega
  · rw [hx rfl]
    simp only [if_true, Bool.true_and, decide_eq_true_eq] at *
    rw [if_pos (by omega), if_pos (by omega)]
    omega

/-- No set of fit banks whose level is at most q has a higher level than the banks taken. -/
theorem level_le_coarseBanks (h : Healths) (q : Nat) (x : Banks)
    (ha : x.a = true → h.fit .a = true) (hb : x.b = true → h.fit .b = true)
    (hc : x.c = true → h.fit .c = true) (hd : x.d = true → h.fit .d = true) (hq : x.level ≤ q) :
    x.level ≤ (coarseBanks h q).level := by
  have lt (y : Bool) (w : Nat) : (if y then w else 0) ≤ w := by cases y <;> simp
  have l1 := lt x.d 1
  have l2 := lt x.c 2
  have l4 := lt x.b 4
  have d := greedy_stage (h.fit .d) x.d 1 0 (fun _ => 0) hd (by omega) (fun _ _ => le_rfl)
  have c := greedy_stage (h.fit .c) x.c 2 _ _ hc (by omega) d
  have b := greedy_stage (h.fit .b) x.b 4 _ _ hb (by omega) c
  have a := greedy_stage (h.fit .a) x.a 8 _ _ ha (by omega) b q (by unfold Banks.level at hq; omega)
  unfold coarseBanks Banks.level
  simp only [Nat.add_assoc, Nat.add_zero] at a ⊢
  exact a

end Sys2Proof.Machine
end

