-- ==== Sys2Proof/Laws/PageCode.lean ====
section
/-! SUPPORT. What the check code of the settings page can do (R193): a flipped bit moves the syndrome by its column, the
columns are distinct, and a page is sealed by the code that its syndrome asks for. -/

namespace Sys2Proof.Machine

/-! ## Bits -/

theorem bitsOf_append (l m : List Byte) : bitsOf (l ++ m) = bitsOf l ++ bitsOf m := by
  simp [bitsOf, List.flatMap_append]

theorem bitsOf_cons (b : Byte) (l : List Byte) : bitsOf (b :: l) = bitsOf [b] ++ bitsOf l := bitsOf_append [b] l

@[simp] theorem length_bitsOf (l : List Byte) : (bitsOf l).length = 8 * l.length := by
  induction l with
  | nil => rfl
  | cons b l ih => rw [bitsOf_cons, List.length_append, ih, List.length_cons]; simp [bitsOf]; omega

@[simp] theorem length_flipBit (k : Nat) (page : List Byte) : (flipBit k page).length = page.length := by
  simp [flipBit]

theorem modify_append {α : Type} (f : α → α) (l m : List α) (k : Nat) :
    (l ++ m).modify k f = if k < l.length then l.modify k f ++ m else l ++ m.modify (k - l.length) f := by
  induction l generalizing k with
  | nil => simp
  | cons a l ih =>
    cases k with
    | zero => simp
    | succ k => simp [ih]; split <;> rfl

/-- A bit of a byte flipped by its mask, as a change of the byte's bits. -/
theorem bitsOf_flip_byte (b : Byte) (j : Fin 8) :
    bitsOf [b ^^^ (0x80#8 >>> j.val)] = (bitsOf [b]).modify j.val (! ·) := by
  revert b j; decide +kernel

/-- Flipping a bit of a page flips that bit of its bits and no other. -/
theorem bitsOf_flipBit (k : Nat) (page : List Byte) (h : k < 8 * page.length) :
    bitsOf (flipBit k page) = (bitsOf page).modify k (! ·) := by
  induction page generalizing k with
  | nil => simp at h
  | cons b l ih =>
    rw [bitsOf_cons b l, modify_append, length_bitsOf, List.length_singleton]
    by_cases hk : k < 8
    · have e : flipBit k (b :: l) = (b ^^^ (0x80#8 >>> k)) :: l := by
        simp [flipBit, Nat.div_eq_of_lt hk, Nat.mod_eq_of_lt hk]
      rw [e, bitsOf_cons, bitsOf_flip_byte b ⟨k, hk⟩, if_pos hk]
    · obtain ⟨j, rfl⟩ : ∃ j, k = j + 8 := ⟨k - 8, by omega⟩
      have e : flipBit (j + 8) (b :: l) = b :: flipBit j l := by simp [flipBit]
      rw [e, bitsOf_cons, ih j (by simp at h; omega), if_neg (by omega)]
      rfl

/-- Two flips of one bit undo each other. -/
@[simp] theorem flipBit_flipBit (k : Nat) (page : List Byte) : flipBit k (flipBit k page) = page := by
  simp only [flipBit]
  apply List.ext_getElem?
  intro i
  simp only [List.getElem?_modify]
  cases page[i]? with
  | none => simp
  | some b => by_cases h : k / 8 = i <;> simp [h]

/-! ## The syndrome -/

theorem sumOfSet_append (cols more : List Nat) (a b : List Bool) (h : cols.length = a.length) :
    sumOfSet (cols ++ more) (a ++ b) = sumOfSet cols a ^^^ sumOfSet more b := by
  induction cols generalizing a with
  | nil => cases a with
    | nil => simp [sumOfSet]
    | cons => simp at h
  | cons x cols ih => cases a with
    | nil => simp at h
    | cons y a => simp [sumOfSet, ih a (by simpa using h), Nat.xor_assoc]

theorem sumOfSet_take (cols : List Nat) (a : List Bool) : sumOfSet cols a = sumOfSet (cols.take a.length) a := by
  induction cols generalizing a with
  | nil => simp
  | cons x cols ih => cases a with
    | nil => simp [sumOfSet]
    | cons y a => simp [sumOfSet, ih a]

/-- A flipped bit moves the sum by its column. -/
theorem sumOfSet_modify (cols : List Nat) (a : List Bool) (k : Nat) (hc : k < cols.length) (ha : k < a.length) :
    sumOfSet cols (a.modify k (! ·)) = sumOfSet cols a ^^^ cols[k] := by
  induction cols generalizing a k with
  | nil => simp at hc
  | cons x cols ih => cases a with
    | nil => simp at ha
    | cons y a => cases k with
      | zero =>
        cases y <;> simp [sumOfSet, Nat.xor_comm]
      | succ k => simp [sumOfSet, ih a k (by simpa using hc) (by simpa using ha), Nat.xor_assoc]

theorem length_pageColumns : pageColumns.length = 2264 := by decide +kernel

/-- The columns are distinct. -/
theorem pageColumns_nodup : pageColumns.Nodup := by
  unfold pageColumns pagePlaces
  rw [List.Nodup, List.pairwise_map]
  suffices h : List.Nodup (((List.range 2264).filter fun p => p ≠ 0 && (p &&& (p - 1)) ≠ 0) ++
      [0, 2048, 1024, 512, 256, 128, 64, 32, 16, 8, 4, 2, 1]) from
    h.imp fun h e => h (by omega)
  refine List.nodup_append.2 ⟨List.nodup_range.filter _, by decide, ?_⟩
  intro p hp q hq e
  subst e
  have hp := (List.mem_filter.1 hp).2
  simp only [List.mem_cons, List.not_mem_nil, or_false] at hq
  rcases hq with h | h | h | h | h | h | h | h | h | h | h | h | h <;> subst h <;> revert hp <;> decide

/-- Each column is a place below 4,096 with the parity bit. -/
theorem pageColumns_bound {column : Nat} (h : column ∈ pageColumns) : 4096 ≤ column ∧ column < 8192 := by
  have e : (pageColumns.all fun x => decide (4096 ≤ x) && decide (x < 8192)) = true := by decide +kernel
  simpa using List.all_eq_true.1 e column h

/-- A flipped bit of a page moves the syndrome by its column. -/
theorem syndrome_flipBit (k : Nat) (page : List Byte) (h : k < 8 * page.length) (hk : k < 2264) :
    syndrome (flipBit k page) = syndrome page ^^^ pageColumns[k]'(by rw [length_pageColumns]; exact hk) := by
  unfold syndrome
  rw [bitsOf_flipBit k page h, sumOfSet_modify _ _ _ (by rw [length_pageColumns]; exact hk) (by simpa using h)]

/-- The share of a check code in the syndrome of a page. -/
theorem syndrome_append (data code : List Byte) (h : data.length = 281) :
    syndrome (data ++ code) = syndrome data ^^^ sumOfSet (pageColumns.drop 2248) (bitsOf code) := by
  have t : (pageColumns.take 2248).length = (bitsOf data).length := by simp [length_pageColumns, h]
  unfold syndrome
  rw [bitsOf_append, sumOfSet_take pageColumns (bitsOf data), length_bitsOf, h, show 8 * 281 = 2248 from rfl,
    ← sumOfSet_append _ _ _ _ t, List.take_append_drop]

/-- The syndrome of any bytes is below 8,192. -/
theorem syndrome_lt (page : List Byte) : syndrome page < 8192 := by
  have h (cols : List Nat) (a : List Bool) (hc : ∀ x ∈ cols, x < 8192) : sumOfSet cols a < 2 ^ 13 := by
    induction cols generalizing a with
    | nil => simp [sumOfSet]
    | cons x cols ih => cases a with
      | nil => simp [sumOfSet]
      | cons y a =>
        refine Nat.xor_lt_two_pow ?_ (ih a fun z hz => hc z (by simp [hz]))
        have := hc x (by simp)
        split <;> omega
  exact h _ _ fun x hx => (pageColumns_bound hx).2

/-- The columns of the check code's own bits: the three top bits, the parity bit, and the twelve check bits. -/
theorem codeColumns : pageColumns.drop 2248 = [6357, 6358, 6359, 4096, 6144, 5120, 4608, 4352] ++
    [4224, 4160, 4128, 4112, 4104, 4100, 4098, 4097] := by decide +kernel

/-- What the two bytes of a check code share with the syndrome: the twelve check bits name themselves, and the parity bit
moves the parity alone. -/
theorem codeShare (hi : Fin 16) (lo : Byte) :
    sumOfSet (pageColumns.drop 2248) (bitsOf [BitVec.ofNat 8 hi, lo]) % 4096 = 256 * hi + lo.toNat ∧
    sumOfSet (pageColumns.drop 2248) (bitsOf [BitVec.ofNat 8 (hi + 16), lo]) =
      sumOfSet (pageColumns.drop 2248) (bitsOf [BitVec.ofNat 8 hi, lo]) ^^^ 4096 := by
  have h (h : Fin 16) : sumOfSet [6357, 6358, 6359, 4096, 6144, 5120, 4608, 4352] (bitsOf [BitVec.ofNat 8 h]) % 4096 =
      256 * h ∧ sumOfSet [6357, 6358, 6359, 4096, 6144, 5120, 4608, 4352] (bitsOf [BitVec.ofNat 8 (h + 16)]) =
      sumOfSet [6357, 6358, 6359, 4096, 6144, 5120, 4608, 4352] (bitsOf [BitVec.ofNat 8 h]) ^^^ 4096 := by
    revert h; decide +kernel
  have l : ∀ b : Byte, sumOfSet [4224, 4160, 4128, 4112, 4104, 4100, 4098, 4097] (bitsOf [b]) % 4096 = b.toNat := by
    decide +kernel
  have split (x : Byte) : sumOfSet (pageColumns.drop 2248) (bitsOf [x, lo]) =
      sumOfSet [6357, 6358, 6359, 4096, 6144, 5120, 4608, 4352] (bitsOf [x]) ^^^
        sumOfSet [4224, 4160, 4128, 4112, 4104, 4100, 4098, 4097] (bitsOf [lo]) := by
    rw [codeColumns, bitsOf_cons, sumOfSet_append _ _ _ _ (by simp)]
  rw [split, split, (h hi).2]
  refine ⟨?_, by rw [Nat.xor_assoc, Nat.xor_assoc, Nat.xor_comm 4096]⟩
  rw [show (4096 : Nat) = 2 ^ 12 from rfl, Nat.xor_mod_two_pow, show (2 : Nat) ^ 12 = 4096 from rfl, (h hi).1, l lo]
  have e : ∀ (a : Fin 16) (b : Byte), 256 * a.val ^^^ b.toNat = 256 * a.val + b.toNat := by decide +kernel
  exact e hi lo

end Sys2Proof.Machine
end

