-- ==== Sys2Proof/Tests/Slice0.lean ====
section
/-! SUPPORT. Tests of the model: ill-formed commands, worked values of the spec, one step of commands on small states,
and for every statement of Certificates/Slice0 that has hypotheses a witness that meets them. -/

set_option Elab.async false

namespace Sys2Proof.Tests

open Sys2Proof.Machine

/-! ## Well-formedness -/

theorem test_settingPut_too_short : Instr.wellFormed (.settingPut 1 0 [5]) = false := by decide

theorem test_settingPut_too_long : Instr.wellFormed (.settingPut 28 0 (List.replicate 18 0)) = false := by decide

theorem test_settingPut_shortest : Instr.wellFormed (.settingPut 28 0 [1, 15]) = true := by decide

theorem test_replyReceived_short : Instr.wellFormed (.replyReceived []) = false := by decide

/-! ## Small states -/

/-- After the start-up work of a new installation. -/
def up : State := State.reset.startUp

/-- Outlet 1 of node 1. -/
def first : OutletId := ⟨0, 0⟩

/-- Record 1 in a state, bound to outlet 1 of node 1, the node PRESENT: DOMESTIC, cap 1,000 W, quota 500 Wh. -/
def withRecord (st : RecState) (s : State) : State :=
  (s.createRecord 0 { newTerms 7 first .domestic 3 1000 (some 500) with state := st } first).modNode 0 fun x =>
    { x with state := .present }

/-- The plant in a state. -/
def inPlant (p : PlantState) (s : State) : State := s.modWgc fun w => { w with plant := p }

/-- Station 1 in a state. -/
def withStation (st : SawState) (s : State) : State := s.modStation 0 fun x => { x with state := st }

/-- A valid frequency. -/
def atFreq (f : Nat) (s : State) : State := s.modFsu fun u => { u with freq := f, freqValid := true }

/-- The converter RUNNING and at a conversion. -/
def converting (src : Source) (c : ChannelNo) (s : State) : State :=
  s.modMsq fun m => { m with state := .running, conv := .converting src c }

/-- A channel FRESH with a value. -/
def fresh (c : ChannelNo) (v : Int) (s : State) : State :=
  s.modReading c fun x => { x with raw := some 0, value := some v, state := .fresh, timer := some 1 }

/-- A reply of node 1: its header flags, outlet 1 closed with 300 W, the others open. -/
def replyOfNode1 (flags : Byte) : List LineChar :=
  let body : List Byte := [0xD5, 3, 1, flags, 1, 1, 0x2C, 0, 20] ++ List.replicate 15 0
  (body ++ crcBytes body).map fun b => ⟨b, true⟩

/-- The state a command answers, if it answers one. -/
def result (c : Instr) (s : State) : Option State :=
  match exec c s with
  | .next t => some t
  | _ => none

/-- The state a step answers, if it answers one. -/
def stepped (s : State) : Option State :=
  match step s with
  | .next t => some t
  | _ => none

/-! ## Worked values -/

theorem test_crc_nine_bytes :
    crc16 [0x31, 0x32, 0x33, 0x34, 0x35, 0x36, 0x37, 0x38, 0x39] = 0x29B1#16 := by decide +kernel

theorem test_frequency_ends : frequencyOf 114286 = 70000 ∧ frequencyOf 266667 = 30000 ∧ frequencyOf 160000 = 50000 := by
  decide +kernel

theorem test_scale : scale 0 1024 4095 = 4095 ∧ scale 100 1024 99 = -1 ∧ scale 100 1000 99 = 0 ∧
    scale 0 65535 4095 = 32767 := by decide +kernel

theorem test_integrator_limit : Bgv.reset.health.integLimit = 4095 * 256 + 255 := by decide +kernel

theorem test_power_on_of_a_new_part : result .powerOnReset State.reset = some State.reset := by decide +kernel

theorem test_start_up_latches_restarted :
    result .startUpComplete State.reset = some up ∧ up.attn = true ∧ State.reset.attn = false := by decide +kernel

/-! ## One step of commands -/

theorem test_create_takes_slot_1 :
    (result (.allotCreate 7 1 1 3 3 1000 500) up).map (fun t => (t.recState 0, t.boundTo first, t.svl.reply)) =
      some (.dormant, some 0, some (replyFrame 0x10 ⟨.done, [1]⟩)) := by decide +kernel

theorem test_activate_sheds : (result (.allotActivate 1) (withRecord .dormant up)).map (fun t => t.recState 0) =
    some .shed := by decide +kernel

theorem test_activate_of_spent_record_keeps_its_cause :
    (result (.allotActivate 1) ((withRecord .dormant up).modAccount 0 fun a =>
      { a with today := 500, cause := some .suspended })).map (fun t => (t.recState 0, (t.account 0).cause)) =
      some (.quotaOut, some .suspended) := by decide +kernel

theorem test_activate_of_missing_record : (result (.allotActivate 2) up).map (fun t => t.svl.reply) =
    some (some (replyFrame 0x12 ⟨.noRecord, []⟩)) := by decide +kernel

theorem test_retire_frees_the_slot : (result (.allotRetire 1) (withRecord .dormant up)).map
    (fun t => (t.recState 0, t.boundTo first)) = some (.vacant, none) := by decide +kernel

theorem test_grant_in_one_event :
    (result (.tripClear 1) (inPlant .onLine (atFreq 50000 ((withRecord .tripped up).modBgv fun b =>
      { b with reserve := 5000 })))).map (fun t => (t.recState 0, t.rsv.table, (t.outlet first).closed, t.sld.watch)) =
      some (.restoring, [⟨.allotment 0, 1000⟩], true, [⟨0, 0⟩]) := by decide +kernel

theorem test_no_grant_without_reserve :
    (result (.tripClear 1) (inPlant .onLine (atFreq 50000 (withRecord .tripped up)))).map (fun t => t.recState 0) =
      some .shed := by decide +kernel

theorem test_report_confirms :
    ((withRecord .restoring up).takeReport false first ⟨true, false, 300, 20⟩).recState 0 = .live := by decide +kernel

theorem test_over_cap_needs_three_reports :
    let report (s : State) := s.takeReport false first ⟨true, false, 1001, 20⟩
    let live := (withRecord .live up).closeOutlet first false
    ((report (report live)).recState 0, (report (report (report live))).recState 0) = (.live, .tripped) := by
  decide +kernel

theorem test_plant_start_needs_settings : (result .plantStart up).map (fun t => t.svl.reply) =
    some (some (replyFrame 0x30 ⟨.wrongState, []⟩)) := by decide +kernel

theorem test_trip_in_run_up :
    (result .runupTimerExpiry ((inPlant .runUp up).modWgc fun w => { w with runup := some 0 })).map
      (fun t => (t.plant, t.plantRecord.cause, t.flag .trip)) = some (.tripped, some .runupFail, true) := by
  decide +kernel

theorem test_store_then_complete :
    ((result .settingsStore up).bind (result .settingsStoreComplete)).map
      (fun t => (t.svl.defaulted, t.nva.page.length, t.nva.page.take 4)) =
      some (false, 283, [0x4C, 0x32, 0xC3, 0x50]) := by decide +kernel

theorem test_page_code_corrects_one_bit : pageCorrect (flipBit 100 (pageSeal (pageEncode .defaults))) =
    pageSeal (pageEncode .defaults) ∧ pageVerdict (pageCut (pageEncode .defaults)) = .lost := by decide +kernel

/-- The reply images tile their tables: each field begins where the one before it ends. -/
def tiles (size : Nat) (fields : List (Nat × Nat × Nat)) : Bool :=
  (fields.zip ((fields.drop 1).map (·.1) ++ [size])).all fun p => p.1.1 + p.1.2.1 == p.2

theorem test_image_tables_tile : tiles 40 (up.recordFields 0) = true ∧ tiles 25 up.governorFields = true ∧
    tiles 14 (up.nodeFields 0) = true ∧ tiles 48 up.reserveFields = true ∧ tiles 18 (up.stationFields 0) = true ∧
    tiles 152 (up.readingsFields 0) = true ∧ tiles 64 up.plantFields = true := by decide +kernel

theorem test_stored_page_reads_back : pageDecode (pageEncode Settings.defaults) = some Settings.defaults := by
  decide +kernel

theorem test_level_too_low_runs_down :
    (result (.conversionComplete 600) (converting .routine 0 (inPlant .onLine up))).map (fun t => t.plant) =
      some .runDown := by decide +kernel

theorem test_stage_below_half_is_faulted :
    (result (.conversionComplete 239) ((converting .slot1 5 up).modBgv fun b =>
      { b with switched := { a := true, b := false, c := false, d := false } })).map
      (fun t => (t.bgv.health.a, t.flag .bankFault)) = some (.faulted, true) := by decide +kernel

theorem test_start_in_standstill_is_refused :
    (result (.inputFilterExpiry 0 .start) (up.modStation 0 fun x =>
      { x with rawStart := true, startFilter := some 0 })).map (fun t => (t.station 0).outcome) =
      some .refusedPlant := by decide +kernel

theorem test_command_from_the_queue :
    (stepped { up with pending := [.sawGet, .plantGet] }).map (fun t => (t.pending, t.svl.reply)) =
      some ([.plantGet], some (replyFrame 0x41 ⟨.done, (List.finRange 3).flatMap up.stationImage⟩)) := by decide +kernel

theorem test_empty_queue_counts :
    (stepped up).map (fun t => (t.fsu.captureCount, t.wgc.timeout)) = some (1, some 159999999) := by decide +kernel

theorem test_no_word_spells_a_command : decodeTableWord 8 0x10 = none ∧ up.withFetchWord 8 0x10 = up := by
  decide +kernel

/-! ## Witnesses: states and operands that meet the hypotheses of the statements, clause by clause -/

/-- Every entry of the map reads, from the entries by place. -/
theorem mapReads_of_entries {s : State} (h : ∀ k : Fin 64, s.nva.map[k].verdict = .clean) : ∀ o, s.mapReads o :=
  fun o => h o.index

theorem test_wit_StepTakesFrontCommand : ({ up with pending := [.sawGet] } : State).pending = .sawGet :: [] := by decide

theorem test_wit_EmptyQueuePassesOneCount : up.pending = [] ∧ up.held = false ∧
    ({ up with held := true } : State).pending = [] ∧ up.wgc.timeout = some 160000000 ∧
    (up.modWgc fun w => { w with timeout := none }).wgc.timeout = none := by decide +kernel

/-- The whole seconds of a hold-off, a cool-off and a live timer, and the record states they count in. -/
theorem test_wit_CountsPass : (withRecord .shed up).recState 0 = .shed ∧ (withRecord .tripped up).recState 0 = .tripped ∧
    (withRecord .live up).recState 0 = .live ∧
    (let s := (withRecord .shed up).modWork 0 fun w => { w with holdoff := 10 }
     ((s.advance 7999999).work 0).holdoff = 10 ∧ ((s.advance 8000000).work 0).holdoff = 9) := by decide +kernel

theorem test_wit_CommandsOutsideServiceAreNotTaken :
    ({ up with held := true } : State).held = true ∧ Instr.sawGet ≠ .pinReset ∧ Instr.sawGet ≠ .powerOnReset ∧
    Instr.sawGet ≠ .resetPinAsserted ∧ Instr.sawGet.request = some (.sawGet, []) ∧ up.held = false ∧
    (up.modSvl fun v => { v with serving := true }).svl.serving = true ∧ State.reset.svl.serving = false ∧
    State.reset.svl.startedUp = false := by decide +kernel

/-- Every timer stopped. -/
def still : State := State.reset.modWgc fun w => { w with timeout := none }

theorem test_wit_ExpiriesOfStoppedTimersChangeNothing :
    still.svl.gap = none ∧ still.svl.reply = none ∧ still.svl.store = .idle ∧ still.fcl.roundTimer = none ∧
    still.fsu.gap = none ∧ still.bgv.hold = none ∧ still.fsu.slip = none ∧ still.sld.step = none ∧
    still.sld.pause = none ∧ still.sld.collapse1 = none ∧ still.sld.collapse2 = none ∧ still.recState 63 ≠ .shed ∧
    still.recState 63 ≠ .live ∧ still.recState 63 ≠ .tripped ∧ (still.station 2).startFilter = none ∧
    (still.station 2).stopFilter = none ∧ (still.station 2).wait = none ∧ (still.station 2).engage = none ∧
    (still.station 2).dip = none ∧ (still.station 2).jam = none ∧ (still.station 2).refusal = none ∧
    still.msq.scan = none ∧ (still.reading 15).timer = none ∧ still.calm ∧ still.msq.conv = .free ∧
    (still.modMsq fun m => { m with state := .running }).msq.state ≠ .calibrating ∧
    (still.modFsu fun u => { u with window := none }).fsu.window = none ∧ still.fcl.phase = .idle ∧ still.wgc.sync = none ∧
    still.wgc.runup = none ∧ still.wgc.short = none ∧ still.wgc.recovery = none ∧ still.wgc.level = none ∧
    still.wgc.levelLost = none ∧ still.wgc.freqOver = none ∧ still.wgc.shaftOver = none ∧ still.wgc.timeout = none ∧
    still.wgc.pulse = none := by decide +kernel

/-- The receiver at a byte, with so many due. -/
def collecting (due : Option Nat) (buffer : List Byte) (s : State) : State :=
  s.modSvl fun v => { v with rx := .collecting, bytesDue := due, buffer := buffer, gap := some 40000 }

theorem test_wit_ReceiverTakesEachByte : up.held = false ∧ up.svl.rx = .hunting ∧ (0xA5#8 : Byte) = 0xA5 ∧
    (0xA4#8 : Byte) ≠ 0xA5 ∧ (collecting none [] up).svl.rx = .collecting ∧ (collecting none [] up).svl.bytesDue = none ∧
    64 < (65#8 : Byte).toNat ∧ (64#8 : Byte).toNat ≤ 64 ∧ (collecting (some 2) [0] up).svl.bytesDue = some 2 ∧ 1 < 2 ∧
    (collecting none [] up).svl.gap = some 40000 := by decide +kernel

theorem test_wit_CompleteFramesAreChecked :
    let init := [0x00, 0x41] ++ (crcBytes [0x00, 0x41]).take 1
    let last := (crcBytes [0x00, 0x41]).getD 1 0
    let s := collecting (some 1) init up
    Instr.sawGet.request = some (.sawGet, []) ∧ Instr.sawGet.wellFormed = true ∧
    requestFrame .sawGet [] = init ++ [last] ∧ s.held = false ∧ s.svl.rx = .collecting ∧ s.svl.bytesDue = some 1 ∧
    s.svl.buffer = init ∧ s.svl.serving = false ∧ s.svl.startedUp = true ∧ s.calm ∧
    ([0, 0] : List Byte) ≠ crcBytes (byte1 0 ++ [0x41] ++ []) ∧ (∀ k ∈ Kind.all, k.code ≠ 0x00) ∧
    (0 < Kind.sampleNow.lengths.1 ∨ Kind.sampleNow.lengths.2 < 0) ∧
    (s.modSvl fun v => { v with serving := true }).svl.serving = true ∧
    (s.modSvl fun v => { v with startedUp := false }).svl.startedUp = false := by decide +kernel

theorem test_wit_RepliesAreSentAndEnd :
    let s := up.modSvl fun v => { v with reply := some [0xA5] }
    let r := s.modSvl fun v => { v with restartCalled := true }
    s.held = false ∧ s.svl.reply = some [0xA5] ∧ s.svl.restartCalled = false ∧ r.svl.restartCalled = true ∧
    r.svl.store = .idle ∧ (r.modSvl fun v => { v with store := .storing .defaults }).svl.store = .storing .defaults ∧
    up.ready ∧ up.calm := by decide +kernel

theorem test_wit_Crc16IsTheStatedCrc : ([0, 0] : List Byte) ≠ crcBytes [1] ∧
    replyValid 0 (replyOfNode1 0) = true := by decide +kernel

theorem test_wit_SettingsStoreWritesThePage :
    let s := up.modSvl fun v => { v with store := .storing .defaults }
    up.ready ∧ up.calm ∧ up.svl.store = .idle ∧ s.svl.store = .storing .defaults ∧ s.held = false ∧
    s.svl.restartCalled = false ∧ (s.modSvl fun v => { v with restartCalled := true }).svl.restartCalled = true ∧
    s.svl.reply = none := by decide +kernel

theorem test_wit_StatusGetShowsAndClearsFlags : up.ready ∧ up.calm ∧ (2#8 : Byte) ≠ 0 ∧ (2#8 : Byte) ≠ 1 := by
  decide +kernel

theorem test_wit_AttnFollowsTheFlags : State.reset.held = false ∧ State.reset.svl.startedUp = false ∧ up.ready ∧
    up.calm := by decide +kernel

theorem test_wit_SettingGetReadsTheWorkingValue : up.ready ∧ up.calm ∧ Cell.ofBytes 33 15 = some (.count 15) ∧
    Cell.ofBytes 33 16 = none ∧ Cell.ofBytes 1 1 = none ∧ Cell.ofBytes 50 0 = none := by decide +kernel

theorem test_wit_SettingPutWritesTheWorkingValue :
    let storing := up.modSvl fun v => { v with store := .storing .defaults }
    up.ready ∧ up.calm ∧ storing.ready ∧ storing.svl.store ≠ .idle ∧ Cell.ofBytes 41 0 = some .gateCeiling ∧
    Cell.gateCeiling.inRange (Cell.gateCeiling.ofHalf ((0x03#8 : Byte) ++ (0xE9#8 : Byte))) = false ∧
    Cell.gateCeiling.inRange (Cell.gateCeiling.ofHalf ((0x03#8 : Byte) ++ (0xE8#8 : Byte))) = true ∧
    Cell.gateCeiling.standstillOnly = false ∧ Cell.gateCeiling.crossOk Settings.defaults 149 = false ∧
    Cell.gateCeiling.crossOk Settings.defaults 150 = true ∧ Cell.gateCeiling.get Settings.defaults = 1000 ∧
    Cell.ofBytes 7 0 = some .shaftTeeth ∧ Cell.shaftTeeth.standstillOnly = true ∧
    (inPlant .runUp up).plant ≠ .standstill ∧ Cell.ofBytes 9 0 = some .pickupMode ∧
    Cell.ofBytes 31 0 = some (.low 0) ∧
    ((inPlant .onLine up).modWgc fun w => { w with gateTarget := 500 }).wgc.gateTarget > 150 ∧
    1 ≤ ([3] : List ChannelNo).length ∧ ([3] : List ChannelNo).length ≤ 16 ∧ up.svl.settings.routine ≠ [3] := by
  decide +kernel

theorem test_wit_SettingPutRefusesOtherForms :
    let storing := up.modSvl fun v => { v with store := .storing .defaults }
    up.ready ∧ up.calm ∧ up.svl.store = .idle ∧ storing.ready ∧ storing.calm ∧ storing.svl.store ≠ .idle ∧
    Cell.ofBytes 50 0 = none ∧ Cell.ofBytes 1 1 = none ∧ ([1] : List Byte).length < 2 ∧
    17 < (List.replicate 18 (0 : Byte)).length ∧ ([2, 15] : List Byte).length ≠ (([2, 15] : List Byte).headD 0).toNat + 1 ∧
    ([1, 16] : List Byte).length = (([1, 16] : List Byte).headD 0).toNat + 1 ∧ 16 ≤ (16#8 : Byte).toNat := by
  decide +kernel

theorem test_wit_SettingsPageReadsBack_code : (List.replicate 281 0#8).length = 281 ∧
    (pageSeal (pageEncode .defaults)).length = 283 ∧ pageVerdict (pageSeal (pageEncode .defaults)) = .clean := by
  decide +kernel

theorem test_wit_SettingsPageReadsBack : Settings.valid Settings.defaults := by
  refine ⟨?_, by decide +kernel⟩
  intro c
  cases c <;> first | decide +kernel | (rename_i k; revert k; decide +kernel)

theorem test_wit_ResetGivesTheStatedState :
    let page := flipBit 5 (pageSeal (pageEncode .defaults))
    let s := up.modNva fun v => { v with page := page }
    let r := up.modNva fun v => { v with plantRecord := ⟨v.plantRecord.value, .lost⟩ }
    pageVerdict s.nva.page = .oneFlip ∧ pageDecode ((pageCorrect s.nva.page).take 281) = some .defaults ∧
    s.svl.store = .idle ∧ pageVerdict (pageSeal (pageEncode .defaults)) = .clean ∧
    pageVerdict (flipBit 6 page) = .lost ∧ pageDecode (up.nva.page.take 281) = none ∧
    (up.modSvl fun v => { v with store := .storing .defaults }).svl.store ≠ .idle ∧ up.allRead ∧
    up.nva.plantRecord.verdict = .clean ∧ r.nva.plantRecord.verdict = .lost ∧ State.reset.held = false ∧
    State.reset.svl.startedUp = false ∧ up.svl.startedUp = true := by decide +kernel

theorem test_wit_ResetRewritesTheRecords : (withRecord .live up).allRead ∧ (withRecord .retiring up).allRead ∧
    (withRecord .live up).recState 0 = .live ∧ (withRecord .live up).quotaSpent 0 = false ∧
    ((withRecord .live up).modAccount 0 fun a => { a with today := 500 }).quotaSpent 0 = true ∧
    ((up.modNva fun v => { v with map := v.map.set 3 ⟨none, .lost⟩ }).nva.map[3]).verdict = .lost := by decide +kernel

theorem test_wit_RecordsAreNumberedAndRead :
    let s := withRecord .live up
    let flipped := s.modNva fun v => { v with slots := v.slots.set 0 { v.slots[0] with account := ⟨.zero, .oneFlip⟩ } }
    let lost := s.modNva fun v => { v with slots := v.slots.set 0 { v.slots[0] with account := ⟨.zero, .lost⟩ } }
    s.ready ∧ s.calm ∧ (0#8 : Byte).toNat = 0 ∧ 64 < (65#8 : Byte).toNat ∧ (64#8 : Byte).toNat = (63 : RecNo).val + 1 ∧
    s.reads 63 ∧ s.recState 63 = .vacant ∧ s.recState 0 ≠ .vacant ∧ s.reads 0 ∧
    (∀ k : Fin 64, s.nva.map[k].verdict = .clean) ∧ flipped.ready ∧ ¬ flipped.reads 0 ∧
    flipped.nva.slots[0].terms.verdict ≠ .lost ∧ flipped.nva.slots[0].account.verdict ≠ .lost ∧ lost.ready ∧
    lost.mapOutlet 0 = some first ∧ lost.nva.slots[0].account.verdict = .lost := by decide +kernel

theorem test_wit_AllotCreateMakesARecord :
    up.ready ∧ up.calm ∧ outletId 0 1 = none ∧ outletId 17 1 = none ∧ outletId 16 4 = some ⟨15, 3⟩ ∧ outletId 1 5 = none ∧
    AllotClass.ofCode 5 = none ∧ AllotClass.ofCode 1 = some .essential ∧ up.allRead ∧ up.mapReads first ∧
    up.recState 0 = .vacant ∧ up.boundTo first = none ∧
    (withRecord .live up).recState 1 = .vacant ∧ (∀ m : RecNo, m < 1 → (withRecord .live up).recState m ≠ .vacant) ∧
    (withRecord .live up).boundTo first ≠ none := by decide +kernel

/-- Every slot taken. -/
def full : State := up.modNva fun v => { v with
  slots := Vector.replicate 64 ⟨⟨newTerms 0 first .domestic 0 50 none, .clean⟩, ⟨.zero, .clean⟩⟩ }

theorem test_wit_AllotCreate_no_slot : full.ready ∧ full.calm ∧ full.allRead ∧ ∀ n, full.recState n ≠ .vacant := by
  decide +kernel

/-- The check of an amendment of record 1 in a state: presence bits, cap 1,000 W, quota 600 Wh, class 3, rank 2 and an
outlet. -/
def amendCheck (st : RecState) (presence : Byte) (node outlet : Byte) : Option Status :=
  let s := withRecord st up
  let m := amendment presence 7 1000 600 3 2 node outlet
  m.check (m.inRange && amendOutletOk presence node outlet) (s.moveTaken m (s.outletOf 0) 0) (s.terms 0) (s.outletOf 0)

theorem test_wit_AllotAmendIsCheckedAndTakesEffect :
    (withRecord .live up).ready ∧ (withRecord .live up).calm ∧ (withRecord .live up).reads 0 ∧
    (∀ k : Fin 64, (withRecord .live up).nva.map[k].verdict = .clean) ∧ amendCodesOk 0x80 3 = false ∧
    amendCodesOk 0x0C 3 = false ∧ amendCodesOk 0x10 5 = false ∧ amendCodesOk 0x77 3 = true ∧
    amendCheck .live 0x37 1 1 = none ∧ amendCheck .dormant 0x77 16 4 = none ∧ amendCheck .suspect 0x77 1 1 = none ∧
    amendCheck .retiring 0x01 1 1 = some .wrongState ∧ amendCheck .live 0x40 0 1 = some .badField ∧
    amendCheck .suspect 0x01 1 1 = some .wrongState ∧ amendCheck .live 0x40 1 2 = some .wrongState := by
  decide +kernel

theorem test_wit_ActivateAndTripClearShedTheRecord :
    (withRecord .dormant up).ready ∧ (withRecord .dormant up).calm ∧ (1#8 : Byte).toNat = (0 : RecNo).val + 1 ∧
    (withRecord .dormant up).reads 0 ∧ (withRecord .dormant up).recState 0 = .dormant ∧
    (withRecord .tripped up).ready ∧ (withRecord .tripped up).recState 0 = .tripped ∧
    (withRecord .tripped up).recState 0 ≠ .dormant ∧ (withRecord .dormant up).recState 0 ≠ .tripped ∧
    (withRecord .dormant up).quotaSpent 0 = false ∧
    ((withRecord .dormant up).modAccount 0 fun a => { a with today := 500 }).quotaSpent 0 = true := by decide +kernel

theorem test_wit_SuspendAndRetireTakeTheRecordOut :
    (withRecord .restoring up).ready ∧ (withRecord .restoring up).calm ∧ (withRecord .restoring up).reads 0 ∧
    (withRecord .restoring up).recState 0 = .restoring ∧ (withRecord .retiring up).recState 0 = .retiring ∧
    (withRecord .suspect up).recState 0 = .suspect ∧ (withRecord .dormant up).recState 0 = .dormant ∧
    (∀ k : Fin 64, (withRecord .suspect up).nva.map[k].verdict = .clean) ∧
    (withRecord .live up).nodeStateOf 0 = some .present := by decide +kernel

theorem test_wit_DayTurnClearsTheTallies : (withRecord .quotaOut up).ready ∧ (withRecord .quotaOut up).calm ∧
    (withRecord .quotaOut up).allRead ∧ (withRecord .quotaOut up).recState 0 = .quotaOut ∧
    (withRecord .quotaOut up).recState 1 = .vacant := by decide +kernel

/-- The map entry of outlet 1 of node 1 as its check code finds it. -/
def mapFound (v : Verdict) (s : State) : State :=
  s.modNva fun a => { a with map := a.map.set 0 ⟨a.map[0].value, v⟩ }

theorem test_wit_FindAndList_codes : outletId 1 1 = some first ∧ first.index = 0 ∧
    (mapFound .oneFlip (withRecord .live up)).nva.map[first.index].verdict = .oneFlip ∧
    (mapFound .lost (withRecord .live up)).nva.map[first.index].verdict = .lost ∧
    (withRecord .live up).nva.slots[0].terms.verdict ≠ .lost ∧ (withRecord .live up).recState 0 ≠ .vacant ∧
    ((withRecord .live up).terms 0).outlet = some first ∧ (∀ n, up.recState n = .vacant) ∧
    (mapFound .lost up).ready ∧ (mapFound .lost up).calm := by decide +kernel

theorem test_wit_FindAndListAnswerTheNumbers : up.ready ∧ up.calm ∧ up.allRead ∧
    (∀ k : Fin 64, up.nva.map[k].verdict = .clean) ∧ outletId 16 4 = some ⟨15, 3⟩ ∧ outletId 0 1 = none ∧
    BitVec.ofNat 8 RecState.suspect.code = (8#8 : Byte) ∧ 8 < (9#8 : Byte).toNat := by decide +kernel

theorem test_wit_GetRequestsAnswerTheirImages : up.ready ∧ up.calm ∧ up.allRead ∧
    (∀ k : Fin 64, up.nva.map[k].verdict = .clean) ∧ (16#8 : Byte).toNat = (15 : NodeNo).val + 1 ∧
    16 < (17#8 : Byte).toNat ∧ up.msq.state = .calibrating ∧ (converting .slot4 2 up).msq.state ≠ .calibrating := by
  decide +kernel

/-- A plant that may start. -/
def startable : State := (fresh 0 1000 (converting .routine 1 up)).modSvl fun v => { v with defaulted := false }

theorem test_wit_PlantStartEntersRunUp : startable.ready ∧ startable.calm ∧ startable.startAllowed = true ∧
    (fresh 0 999 startable).startAllowed = false ∧ (startable.reading 10).alarm = false ∧
    (startable.reading 11).alarm = false ∧
    ((startable.modReading 11 fun x => { x with alarm := true }).reading 11).alarm = true := by decide +kernel

theorem test_wit_RunDownCausesRunThePlantDown :
    let lost := (inPlant .waterShort up).modWgc fun w => { w with levelLost := some 0 }
    (inPlant .runUp up).ready ∧ (inPlant .runUp up).calm ∧ (inPlant .tripped up).ready ∧ (inPlant .runDown up).ready ∧
    lost.held = false ∧ lost.wgc.levelLost.isSome = true ∧ lost.plant = .waterShort ∧
    (inPlant .standstill lost).wgc.levelLost.isSome = true := by decide +kernel

theorem test_wit_TripTimersTripThePlant :
    let s := (inPlant .runUp up).modWgc fun w =>
      { w with runup := some 0, freqOver := some 0, shaftOver := some 0, timeout := some 0 }
    let h := (inPlant .runDown up).modBgv fun b => { b with state := .holding, hold := some 0 }
    s.held = false ∧ s.calm ∧ s.wgc.runup.isSome = true ∧ s.wgc.freqOver.isSome = true ∧
    s.wgc.shaftOver.isSome = true ∧ s.wgc.timeout.isSome = true ∧ h.bgv.hold.isSome = true ∧ h.bgv.state = .holding ∧
    h.plant = .runDown ∧ (inPlant .tripped s).plant = .tripped ∧ (inPlant .standstill s).plant = .standstill := by
  decide +kernel

theorem test_wit_PlantClearReturnsToStandstill :
    let s := (inPlant .tripped up).modPlantRecord fun r => { r with cause := some .gateFault }
    let idle := s.modWgc fun w => { w with move := .idle }
    s.ready ∧ s.calm ∧ s.plant = .tripped ∧ s.causeGone = false ∧ idle.causeGone = true ∧ idle.atRest = true ∧
    (s.modFsu fun u => { u with shaftSpeed := 50 }).atRest = false ∧
    ((inPlant .tripped up).modWgc fun w => { w with move := .faulted }).causeGone = true := by decide +kernel

theorem test_wit_SupplyTimersChangeThePlantState :
    let a := (inPlant .runUp up).modWgc fun w => { w with sync := some 0 }
    let b := (inPlant .waterShort up).modWgc fun w => { w with recovery := some 0 }
    let c := (inPlant .onLine (withRecord .live up)).modWgc fun w => { w with short := some 0 }
    a.held = false ∧ a.plant = .runUp ∧ a.wgc.sync.isSome = true ∧ a.wgc.short = none ∧ b.plant = .waterShort ∧
    b.wgc.recovery.isSome = true ∧ b.wgc.short = none ∧ c.plant = .onLine ∧ c.wgc.short.isSome = true := by
  decide +kernel

theorem test_wit_GateFollowsTheReadings :
    let s := (inPlant .onLine (converting .slot2 3 up)).modWgc fun w =>
      { w with level := some 0, pulse := some 0, gateTarget := 400, move := .checking }
    let v := (converting .routine 0 s).modWgc fun w => { w with evalPending := true }
    s.held = false ∧ s.wgc.level.isSome = true ∧ s.wgc.pulse.isSome = true ∧ s.msq.conv = .converting .slot2 3 ∧
    s.wgc.move = .checking ∧ (s.scaled 3 405 - (s.wgc.gateTarget : Int)).natAbs ≤ 5 ∧
    ¬ (s.scaled 3 406 - (s.wgc.gateTarget : Int)).natAbs ≤ 5 ∧ v.wgc.evalPending = true ∧ v.plant = .onLine ∧
    (v.svl.settings.stopLevel : Int) ≤ v.scaled 0 700 ∧ v.freshValue 2 = none ∧
    (s.modWgc fun w => { w with move := .stepping }).wgc.move = .stepping := by decide +kernel

theorem test_wit_GateFollows_plant :
    let at' (c : ChannelNo) (p : PlantState) := inPlant p (fresh 0 2000 (converting .routine c up))
    let rest := (at' 3 .runDown).modFsu fun u => { u with shaftSpeed := 49 }
    (result (.conversionComplete 600) (at' 0 .runUp)).map (fun t => t.plant) = some .runDown ∧
    (result (.conversionComplete 1300) (at' 0 .waterShort)).map (fun t => t.plant) = some .onLine ∧
    (result (.conversionComplete 100) (at' 1 .onLine)).map (fun t => t.plant) = some .runDown ∧
    (result (.conversionComplete 4000) (at' 2 .onLine)).map (fun t => t.plant) = some .runDown ∧
    (result (.conversionComplete 100) (at' 2 .onLine)).map (fun t => (t.plant, t.wgc.netHead)) =
      some (.onLine, some 1900) ∧
    (result (.conversionComplete 1950) (at' 1 .standstill)).map (fun t => t.wgc.rackDiff) = some (some 50) ∧
    (result (.conversionComplete 0) rest).map (fun t => t.plant) = some .standstill ∧
    (converting .slot3 4 up).msq.conv = .converting .slot3 4 ∧ (at' 0 .onLine).held = false := by decide +kernel

theorem test_wit_StationInputsAreFilteredAndTaken :
    let s := up.modStation 0 fun x =>
      { x with rawStart := true, startFilter := some 0, rawStop := true, stopFilter := some 0 }
    s.held = false ∧ s.calm ∧ (s.station 0).startFilter.isSome = true ∧ (s.station 0).rawStart = true ∧
    (s.station 0).startPressed = false ∧ (s.station 0).state = .idle ∧ (s.station 0).stopOpen = false ∧
    s.plant ≠ .onLine ∧ (inPlant .onLine s).plant = .onLine ∧ (s.station 0).stopFilter.isSome = true ∧
    (s.station 0).rawStop = true ∧ ((withStation .waiting s).station 0).state = .waiting ∧
    ((withStation .engaging s).station 0).state = .engaging ∧ ((withStation .running s).station 0).state = .running ∧
    ((s.modStation 0 fun x => { x with stopOpen := true }).station 0).stopOpen = true := by decide +kernel

theorem test_wit_StationTimersAndSawClear :
    let s := up.modStation 0 fun x => { x with wait := some 0, engage := some 0, dip := some 0, jam := some 0 }
    s.held = false ∧ s.calm ∧ s.ready ∧ ((withStation .waiting s).station 0).state = .waiting ∧
    ((withStation .engaging s).station 0).engage.isSome = true ∧
    ((withStation .engaging s).station 0).dip.isSome = true ∧
    ((withStation .running s).station 0).jam.isSome = true ∧ 3 < (4#8 : Byte).toNat ∧
    (3#8 : Byte).toNat = (2 : StationNo).val + 1 ∧ ((withStation .lockedOut s).station 0).state = .lockedOut ∧
    (s.modRsv fun r => { r with table := [⟨.station 0, 500⟩] }).holds (.station 0) = true := by decide +kernel

theorem test_wit_CompletionScalesTheRawValue : (converting .routine 15 up).held = false ∧
    (converting .routine 15 up).msq.conv = .converting .routine 15 ∧ up.msq.state = .calibrating ∧
    up.msq.conv = .free ∧ 1900 ≤ (1900#12 : BitVec 12).toNat ∧ (2200#12 : BitVec 12).toNat ≤ 2200 := by decide +kernel

theorem test_wit_WindowWatchRaisesAndClearsTheAlarm :
    let s := (inPlant .runUp (converting .routine 10 up)).modReading 10 fun x => { x with outside := 2 }
    s.held = false ∧ s.msq.conv = .converting .routine 10 ∧ (850 : Int) = s.svl.settings.high[10] ∧
    s.svl.settings.high[10] < s.scaled 10 851 ∧ s.svl.settings.low[10] ≤ s.scaled 10 850 ∧
    (s.reading 10).alarm = false ∧ s.running = true ∧
    (result (.conversionComplete 851) s).map (fun t => ((t.reading 10).alarm, t.plant)) = some (true, .tripped) := by
  decide +kernel

theorem test_wit_SlotResultsAreJudged :
    let s := (converting .slot1 9 up).modBgv fun b => { b with trim := 128 }
    let f := up.modBgv fun b => { b with health := b.health.put .faulted .trim }
    s.held = false ∧ s.msq.conv = .converting .slot1 Stage.trim.channel ∧ s.bgv.on .trim = true ∧
    (converting .slot1 9 up).bgv.on .trim = false ∧ (s.stageAmps .trim : Int) ≤ 2 * s.scaled 9 30 ∧
    ¬ (s.stageAmps .trim : Int) ≤ 2 * s.scaled 9 29 ∧ up.ready ∧ up.calm ∧ 5 < (6#8 : Byte).toNat ∧
    (5#8 : Byte).toNat = Stage.trim.channel.val - 4 ∧ f.ready ∧ f.bgv.health.get .trim = .faulted ∧
    up.bgv.health.get .trim ≠ .faulted ∧ (converting .slot3 4 up).msq.conv = .converting .slot3 4 := by decide +kernel

theorem test_wit_SamplesScansAndCalibration :
    let s := (up.modMsq fun m => { m with state := .running, scan := some 0 }).modReading 0 fun x =>
      { x with timer := some 0 }
    s.held = false ∧ s.calm ∧ s.ready ∧ 15 < (16#8 : Byte).toNat ∧ (15#8 : Byte).toNat = (15 : ChannelNo).val ∧
    up.msq.state = .calibrating ∧ (up.modMsq fun m => { m with state := .failed }).msq.state = .failed ∧
    (s.modMsq fun m => { m with slot4 := some 3 }).msq.slot4.isSome = true ∧ s.msq.conv = .free ∧
    s.msq.slot1.lowest.isNone = true ∧ s.msq.slot2 = false ∧ s.msq.slot3 = false ∧ s.msq.slot4 = none ∧
    (converting .slot1 5 s).msq.convertingFor .routine = false ∧ (converting .slot1 5 s).msq.conv ≠ .free ∧
    s.msq.scan.isSome = true ∧ s.msq.runCount = 0 ∧ s.svl.settings.runLength = 0 ∧
    0 < s.svl.settings.routine.length ∧ (s.reading 0).timer.isSome = true ∧ up.msq.conv = .free ∧
    (1899#12 : BitVec 12).toNat < 1900 ∧ 2200 < (2201#12 : BitVec 12).toNat := by decide +kernel

/-- A crossing behind, and the reference at 0. -/
def crossed : State := up.modFsu fun u => { u with lastCrossing := some 0, reference := some 0 }

theorem test_wit_FrequencyIsTheRoundedQuotient : crossed.held = false ∧ crossed.fsu.lastCrossing = some 0 ∧
    96000 ≤ ((114286#32) - (0#32)).toNat ∧ crossed.fsu.reference = some 0 ∧ 114286 ≤ ((114286#32) - (0#32)).toNat ∧
    ((266667#32) - (0#32)).toNat ≤ 266667 ∧ ((114285#32) - (0#32)).toNat < 114286 ∧
    266667 < ((266668#32) - (0#32)).toNat ∧ crossed.svl.restartCalled = false ∧
    (result (.crossingEdge 160000) crossed).map (fun t => t.fsu.freq) = some 50000 := by decide +kernel

theorem test_wit_CrossingsAndGapsAreJudged :
    let lost := (atFreq 50000 (inPlant .onLine crossed)).modFsu fun u => { u with rejections := 2, gap := some 0 }
    crossed.held = false ∧ crossed.calm ∧ ((95999#32) - (0#32)).toNat < 96000 ∧ up.fsu.reference = none ∧
    crossed.fsu.reference = some 0 ∧ lost.fsu.gap.isSome = true ∧ lost.fsu.freqValid = true ∧ 2 ≤ lost.fsu.rejections ∧
    lost.plant = .onLine ∧ lost.allRead ∧ (lost.modFsu fun u => { u with rejections := 1 }).fsu.rejections = 1 ∧
    (lost.modBgv fun b => { b with state := .active }).bgv.state = .active := by decide +kernel

theorem test_wit_lost_frequency_aborts :
    let s := (withStation .engaging (atFreq 50000 (inPlant .onLine crossed))).modFsu fun u =>
      { u with rejections := 2, gap := some 0 }
    (result .gapTimerExpiry s).map (fun t => ((t.station 0).state, (t.station 0).outcome)) =
      some (.idle, .abortCollapse) ∧
    (result (.crossingEdge 300000) s).map (fun t => ((t.station 0).state, (t.station 0).outcome)) =
      some (.idle, .abortCollapse) := by decide +kernel

/-- The plant in RUN-DOWN with the shaft slow and the gate shut. -/
def slow : State := inPlant .runDown (fresh 3 5 (atFreq 50000 crossed))

theorem test_wit_rest_test :
    let lost := slow.modFsu fun u => { u with rejections := 2, gap := some 0 }
    let governed := lost.modBgv fun b => { b with state := .active }
    let speedless := slow.modFsu fun u => { u with window := some 0, pickupFault := true }
    slow.held = false ∧ slow.calm ∧ slow.bgv.state ≠ .active ∧ governed.bgv.state = .active ∧
    slow.freshValue 3 = some 5 ∧
    (result .gapTimerExpiry governed).map (fun t => t.plant) = some .standstill ∧
    (result .gapTimerExpiry lost).map (fun t => t.plant) = some .runDown ∧
    (result .speedWindowEnd slow).map (fun t => t.plant) = some .standstill ∧
    (result .speedWindowEnd speedless).map (fun t => t.plant) = some .standstill ∧
    (result (.crossingEdge 160000) slow).map (fun t => t.plant) = some .standstill ∧
    (result (.crossingEdge 160000) (fresh 3 6 slow)).map (fun t => t.plant) = some .runDown := by decide +kernel

theorem test_wit_PulsesAndIndexAreCounted :
    let s := (atFreq 50000 up).modFsu fun u => { u with revolution := 121, armed := true }
    up.held = false ∧ up.calm ∧ (up.fsu.revolution + 1).natAbs < 2 * up.svl.settings.shaftTeeth + 2 ∧
    2 * s.svl.settings.shaftTeeth + 2 ≤ (s.fsu.revolution + 1).natAbs ∧ s.judging = true ∧ up.judging = false ∧
    s.fsu.armed = true ∧ up.fsu.armed = false := by decide +kernel

theorem test_wit_SpeedWindowPublishesTheSpeeds :
    let s := (inPlant .onLine up).modFsu fun u => { u with slip := some 0, reverse := 13 }
    s.held = false ∧ s.calm ∧ s.fsu.slip.isSome = true ∧ s.fsu.window.isSome = true ∧ s.running = true ∧
    (result .speedWindowEnd s).map (fun t => (t.plant, t.fsu.shaftSpeed)) = some (.tripped, 21) ∧
    (result .speedWindowEnd (up.modFsu fun u => { u with reverse := 12 })).map (fun t => t.fsu.shaftSpeed) = some 20 ∧
    (result .speedWindowEnd (inPlant .onLine (atFreq 50000 up))).map (fun t => t.fsu.slip) = some (some 16000000) ∧
    (result .speedWindowEnd ((inPlant .onLine up).modFsu fun u => { u with forward := 800 })).map
      (fun t => t.wgc.shaftOver) = some (some 1600000) := by
  decide +kernel

theorem test_wit_GovernorComputesOnThePeriod : (inPlant .runUp crossed).held = false ∧ (inPlant .runUp crossed).calm ∧
    (inPlant .runUp crossed).plant ≠ .standstill ∧
    (result (.crossingEdge 175000) (inPlant .waterShort crossed)).map (fun t => (t.sld.step.isSome, t.sld.collapse1.isSome)) =
      some (true, true) ∧
    crossed.plant = .standstill ∧ crossed.bgv.state = .inactive ∧ crossed.bgv.hold = none ∧
    (result (.crossingEdge 150000) (inPlant .runUp crossed)).map
      (fun t => (t.fsu.freq, t.bgv.err, t.bgv.integ, t.bgv.demand, t.bgv.coarse, t.bgv.trim)) =
      some (53333, 2000, 80000, 2656, 10, 96) := by decide +kernel

theorem test_wit_HoldoffGrowsWithRecentSheds : (withRecord .live up).quotaSpent 0 = false ∧ up.calm ∧
    (result (.settingPut 16 0 [0, 60]) up).isSome = true := by decide +kernel

theorem test_wit_StepShedsTheLeastImportant :
    let s := (withRecord .live up).modSld fun l => { l with step := some 0, pause := some 0 }
    let r := (withRecord .restoring up).modSld fun l => { l with step := some 0 }
    s.held = false ∧ s.allRead ∧ s.sld.step.isSome = true ∧ (∀ n, s.recState n ≠ .restoring) ∧
    s.ladder = [.allotment 0] ∧ r.allRead ∧ r.recState 0 = .restoring ∧
    (∀ k : RecNo, r.recState k = .restoring → k = 0) ∧ up.ladder = [] ∧ s.sld.pause.isSome = true := by decide +kernel

theorem test_wit_CollapseShedsTheLoads :
    let s := (withRecord .live up).modSld fun l => { l with collapse1 := some 0, collapse2 := some 0 }
    s.held = false ∧ s.allRead ∧ s.sld.collapse1.isSome = true ∧ s.sld.collapse2.isSome = true ∧
    s.recordOnLadder 0 = true := by decide +kernel

theorem test_wit_RecordTimersEnd :
    let s := (withRecord .shed up).modWork 0 fun w => { w with holdoff := 1 }
    let l := (withRecord .live up).modWork 0 fun w => { w with liveTimer := 299 }
    s.held = false ∧ s.recState 0 = .shed ∧ (s.work 0).holdoff ≠ 0 ∧ l.recState 0 = .live ∧ (l.work 0).liveTimer < 300 ∧
    300 ≤ ((l.modWork 0 fun w => { w with liveTimer := 300 }).work 0).liveTimer ∧
    (withRecord .tripped up).recState 0 = .tripped := by decide +kernel

theorem test_wit_RoundSendsItsFrames :
    let s := withRecord .live up
    let at' (p : LinePhase) := s.modFcl fun l => { l with phase := p, toPoll := [2] }
    s.held = false ∧ s.calm ∧ s.fcl.roundTimer.isSome = true ∧ s.fcl.phase = .idle ∧
    (List.finRange 16).filter (fun k => s.fcl.nodes[k].state != .absent) = 0 :: [] ∧
    (List.finRange 16).filter (fun k => up.fcl.nodes[k].state != .absent) = [] ∧
    (at' (.turnaround 0 true 5)).fcl.phase = .turnaround 0 true 5 ∧
    (at' (.sending 0 false [])).fcl.phase = .sending 0 false [] ∧
    (at' (.window 0 false 5)).fcl.phase = .window 0 false 5 ∧ (at' (.window 0 false 5)).fcl.toPoll = 2 :: [] ∧
    (up.modFcl fun l => { l with phase := .window 3 false 0 }).fcl.callDone = false ∧
    up.fcl.nodes[up.fcl.callPointer].state = .absent ∧
    (at' (.receiving 0 false 5)).fcl.phase = .receiving 0 false 5 ∧ replyValid 0 [] = false := by decide +kernel

theorem test_wit_ValidReplyIsTaken :
    let s := up.modFcl fun l => { l with phase := .receiving 0 true 0 }
    s.held = false ∧ s.fcl.phase = .receiving 0 true 0 ∧ replyValid 0 (replyOfNode1 3) = true ∧
    (s.node 0).state = .absent ∧ (result (.replyReceived (replyOfNode1 3)) s).map (fun t => (t.node 0).state) =
      some .joining ∧ (⟨0, false⟩ : LineChar).stopOk = false := by decide +kernel

theorem test_wit_OutletReportIsTaken :
    let s := (withRecord .live up).closeOutlet first false
    let o := s.modWork 0 fun w => { w with openRun := 1, overRun := 2, closedRun := 2 }
    s.mapReads first ∧ s.boundTo first = some 0 ∧ s.reads 0 ∧ s.recState 0 ≠ .vacant ∧
    (∀ n : RecNo, (s.terms n).quota ≠ some 0) ∧ s.quotaSpent 0 = false ∧ (s.outlet first).answered = false ∧
    (s.terms 0).outlet = some first ∧ s.recState 0 ≠ .suspect ∧ (s.outlet first).closed = true ∧
    1 ≤ (o.work 0).openRun ∧ o.svl.settings.tripCount ≤ (o.work 0).overRun + 1 ∧
    (o.takeReport false first ⟨false, false, 300, 65535⟩).recState 0 = .shed ∧
    (withRecord .retiring up).recState 0 = .retiring ∧ (withRecord .restoring up).recState 0 = .restoring ∧
    (o.work 0).closedRun = 2 ∧ (withRecord .tripped up).recState 0 = .tripped ∧
    ((withRecord .tripped up).work 0).cooloff = 0 := by decide +kernel

theorem test_wit_RoundEndDoesItsFiveParts :
    let s := (withRecord .live up).modFcl fun l =>
      { l with phase := .window 0 false 0, toPoll := [], callDone := true, pollList := [0] }
    s.held = false ∧ s.allRead ∧ (∀ k : Fin 64, s.nva.map[k].verdict = .clean) ∧ s.fcl.phase = .window 0 false 0 ∧
    s.fcl.toPoll = [] ∧ s.fcl.callDone = true ∧ s.fcl.pollList.Nodup ∧ s.boundTo first = some 0 ∧
    (s.node 0).replied = false ∧ s.recState 0 = .live := by decide +kernel

/-- The last window of a round that polls node 1, in WATER-SHORT, a LIVE record's class staged to DEFERRABLE. -/
def turning : State := inPlant .waterShort (((withRecord .live up).modTerms 0 fun x =>
  { x with stagedClass := some .deferrable }).modFcl fun l =>
    { l with phase := .window 0 false 0, toPoll := [], callDone := true, pollList := [0] })

theorem test_wit_RoundEnd_sheds : turning.held = false ∧ turning.allRead ∧ turning.plant = .waterShort ∧
    turning.supplied 0 = true ∧ turning.quotaSpent 0 = false ∧
    (result .replyWindowExpiry turning).map (fun t => (t.recState 0, (t.account 0).cause)) =
      some (.shed, some .waterShort) := by decide +kernel

theorem test_wit_RoundEnd_essential :
    let s := inPlant .onLine (turning.modTerms 0 fun x => { x with stagedClass := some .essential })
    (s.terms 0).outlet = some first ∧ s.supplied 0 = true ∧ (s.terms 0).stagedClass = some .essential ∧
    (result .replyWindowExpiry s).map (fun t => ((t.outlet first).essential, t.recState 0)) = some (true, .live) ∧
    (∀ m : RecNo, (up.terms m).outlet ≠ some first) := by decide +kernel

theorem test_wit_RoundEnd_retiring :
    let s := ((withRecord .retiring up).modNode 0 fun x => { x with missed := 2 }).modFcl fun l =>
      { l with phase := .window 0 false 0, toPoll := [], callDone := true, pollList := [0] }
    s.boundTo first = some 0 ∧ (s.node 0).replied = false ∧ (s.node 0).state = .present ∧ s.recState 0 = .retiring ∧
    (result .replyWindowExpiry s).map (fun t => (t.recState 0, t.boundTo first, t.flag .nodeSilent)) =
      some (.vacant, none, true) := by decide +kernel

theorem test_wit_RoundEnd_reserveLaw : State.reserveLaw ((withRecord .live up).modFcl fun l =>
      { l with phase := .window 0 false 0, toPoll := [], callDone := true, pollList := [0] }) := by
  unfold State.reserveLaw
  decide +kernel

theorem test_wit_ImportanceKeyOrdersClaims :
    let s := inPlant .onLine (withStation .waiting (withRecord .shed up))
    (s.terms 0).cls = some .domestic ∧ s.claims = [.allotment 0, .station 0] ∧ s.head = some (.allotment 0) ∧
    (withStation .running (withRecord .live up)).leastImportant (withStation .running (withRecord .live up)).ladder =
      some (.station 0) := by decide +kernel

theorem test_wit_EvaluationsGrantTheHeadAndEnd :
    let s := (inPlant .onLine (atFreq 50300 (withRecord .shed up))).modBgv fun b => { b with reserve := 1300 }
    s.allRead ∧ s.head = some (.allotment 0) ∧ s.need (.allotment 0) = 1300 ∧ s.wait (.allotment 0) = .none ∧
    up.head = none ∧ (atFreq 50301 s).wait (.allotment 0) = .pausedBand ∧
    (s.modBgv fun b => { b with reserve := 1299 }).wait (.allotment 0) = .shortOfReserve ∧ s.calm := by decide +kernel

/-- The laws hold of a small state, and a step from it answers a next state. -/
theorem test_wit_laws : up.governorLaw ∧ up.frequencyLaw ∧ (stepped up).isSome = true := by
  unfold State.governorLaw State.frequencyLaw
  decide +kernel

theorem test_wit_laws_of_records : up.reserveLaw ∧ up.quotaLaw := by
  unfold State.reserveLaw State.quotaLaw
  decide +kernel

theorem test_wit_supplyLaw : up.supplyLaw := by
  unfold State.supplyLaw
  refine ⟨fun o => ?_, by decide +kernel⟩
  have h : ∀ k : Fin 64, up.fcl.outlets[k].closed = false := by decide +kernel
  intro hc
  have := h o.index
  simp only [State.outlet] at hc
  exact absurd hc (by simp_all)

theorem test_wit_converterLaw : up.converterLaw := by
  unfold State.converterLaw
  decide +kernel

theorem test_wit_settingsLaw : up.settingsLaw := by
  refine ⟨test_wit_SettingsPageReadsBack, ?_, by decide +kernel⟩
  intro x h
  have idle : up.svl.store = .idle := by decide +kernel
  rw [idle] at h
  cases h

end Sys2Proof.Tests
end

/-! # What the shared operations do to one record

For each operation of Machine/Ops.lean that touches the record array, the working fields, the outlets, the reservations
or the restoration watch: one equation for each of these views. The proofs of the statements use these equations and do
not open the operations again. -/

namespace Sys2Proof.Machine

/-! ## Slots under the elementary writes -/

section Slots

variable (s : State) (n m : RecNo)

theorem State.terms_eq : s.terms n = s.nva.slots[n].terms.value := rfl
theorem State.account_eq : s.account n = s.nva.slots[n].account.value := rfl

theorem State.slots_modTerms (f : Terms → Terms) :
    (s.modTerms n f).nva.slots[m] =
      if m = n then ⟨⟨f (s.terms n), .clean⟩, s.nva.slots[n].account⟩ else s.nva.slots[m] := by
  simp only [State.modTerms, State.terms, State.modNva, Fin.getElem_fin, Vector.getElem_set, Fin.ext_iff, eq_comm]

theorem State.slots_modAccount (f : Account → Account) :
    (s.modAccount n f).nva.slots[m] =
      if m = n then ⟨s.nva.slots[n].terms, ⟨f (s.account n), .clean⟩⟩ else s.nva.slots[m] := by
  simp only [State.modAccount, State.account, State.modNva, Fin.getElem_fin, Vector.getElem_set, Fin.ext_iff, eq_comm]

theorem State.slots_setSlot (x : Slot) :
    (s.setSlot n x).nva.slots[m] = if m = n then x else s.nva.slots[m] := by
  simp only [State.setSlot, State.modNva, Fin.getElem_fin, Vector.getElem_set, Fin.ext_iff, eq_comm]

@[simp] theorem State.map_modTerms (f : Terms → Terms) : (s.modTerms n f).nva.map = s.nva.map := rfl
@[simp] theorem State.map_modAccount (f : Account → Account) : (s.modAccount n f).nva.map = s.nva.map := rfl
@[simp] theorem State.map_setSlot (x : Slot) : (s.setSlot n x).nva.map = s.nva.map := rfl
@[simp] theorem State.slots_setBinding (o : OutletId) (r : Option RecNo) :
    (s.setBinding o r).nva.slots = s.nva.slots := rfl
@[simp] theorem State.slots_unbind : (s.unbind n).nva.slots = s.nva.slots := rfl

end Slots

/-! ## The accessors look at their own block -/

section Congruence

variable {s t : State}

theorem State.terms_congr (h : t.nva.slots = s.nva.slots) (n : RecNo) : t.terms n = s.terms n := by
  simp only [State.terms, h]
theorem State.account_congr (h : t.nva.slots = s.nva.slots) (n : RecNo) : t.account n = s.account n := by
  simp only [State.account, h]
theorem State.recState_congr (h : t.nva.slots = s.nva.slots) (n : RecNo) : t.recState n = s.recState n := by
  simp only [State.recState, State.terms_congr h]
theorem State.quotaSpent_congr (h : t.nva.slots = s.nva.slots) (n : RecNo) : t.quotaSpent n = s.quotaSpent n := by
  simp only [State.quotaSpent, State.terms_congr h, State.account_congr h]
theorem State.work_congr (h : t.atb = s.atb) (n : RecNo) : t.work n = s.work n := by
  simp only [State.work, h]
theorem State.outlet_congr (h : t.fcl.outlets = s.fcl.outlets) (o : OutletId) : t.outlet o = s.outlet o := by
  simp only [State.outlet, h]
theorem State.boundTo_congr (h : t.nva.map = s.nva.map) (o : OutletId) : t.boundTo o = s.boundTo o := by
  simp only [State.boundTo, h]
theorem State.mapOutlet_congr (h : t.nva.map = s.nva.map) (n : RecNo) : t.mapOutlet n = s.mapOutlet n := by
  simp only [State.mapOutlet, State.boundTo_congr h]
theorem State.outletOf_congr (h : t.nva = s.nva) (n : RecNo) : t.outletOf n = s.outletOf n := by
  rw [State.outletOf, State.outletOf, State.recState_congr (congrArg Nva.slots h), State.terms_congr (congrArg Nva.slots h),
    State.mapOutlet_congr (congrArg Nva.map h)]
theorem State.holds_congr (h : t.rsv.table = s.rsv.table) (x : Holder) : t.holds x = s.holds x := by
  simp only [State.holds, h]
theorem State.node_congr (h : t.fcl.nodes = s.fcl.nodes) (a : NodeNo) : t.node a = s.node a := by
  simp only [State.node, h]

end Congruence

/-! ## Leaving a record state -/

/-- The working fields of a record after it leaves a state. -/
def Working.left (st : RecState) (w : Working) : Working :=
  match st with
  | .live => { w with liveTimer := 0, liveFrac := 0, overRun := 0, openRun := 0 }
  | .shed => { w with holdoff := 0, holdoffFrac := 0 }
  | .tripped => { w with cooloff := 0, cooloffFrac := 0 }
  | _ => w

section Leave

variable (s : State) (n m : RecNo)

theorem State.rsv_dropReservation (h : Holder) :
    (s.dropReservation h).rsv = { s.rsv with
      table := s.rsv.table.filter fun e => e.holder ≠ h
      due := s.rsv.due || s.holds h } := by
  unfold State.dropReservation
  split
  case isTrue hh => simp [hh]
  case isFalse hh =>
    have keep : s.rsv.table.filter (fun e => decide (e.holder ≠ h)) = s.rsv.table := by
      refine List.filter_eq_self.2 fun e he => ?_
      simp only [State.holds, List.any_eq_true, not_exists, not_and] at hh
      simpa using hh e he
    rw [keep]
    simp [hh]

@[simp] theorem State.watch_dropRestoration :
    (s.dropRestoration n).sld.watch = s.sld.watch.filter fun e => e.record ≠ n := rfl

theorem State.work_leave :
    (s.leave n).work m = if m = n then (s.work n).left (s.recState n) else s.work m := by
  unfold State.leave Working.left
  split
  case h_1 e => rw [e, State.work_modWork]
  case h_2 e => rw [e, State.work_congr (State.promptEvaluation_keeps _).2.1, State.work_modWork]
  case h_3 e => rw [e, State.work_modWork]
  case h_4 e =>
    rw [e, State.work_congr (s := s) (by simp)]
    split <;> simp_all
  case h_5 => cases e : s.recState n <;> simp_all

theorem State.rsv_leave :
    (s.leave n).rsv =
      match s.recState n with
      | .shed => { s.rsv with due := true }
      | .restoring => { s.rsv with
          table := s.rsv.table.filter fun e => e.holder ≠ .allotment n
          due := s.rsv.due || s.holds (.allotment n) }
      | _ => s.rsv := by
  unfold State.leave
  cases s.recState n <;> simp [State.promptEvaluation, State.rsv_dropReservation]
  rfl

theorem State.sld_leave :
    (s.leave n).sld = { s.sld with
      watch := if s.recState n = .restoring then s.sld.watch.filter fun e => e.record ≠ n else s.sld.watch } := by
  unfold State.leave
  cases s.recState n <;> simp [State.dropRestoration]

end Leave

/-! ## Outlets -/

section Outlets

variable (s : State) (n : RecNo) (o p : OutletId)

theorem State.outlet_openOutlet :
    (s.openOutlet p).outlet o =
      if o = p then { s.outlet o with closed := false, essential := false } else s.outlet o := by
  rw [State.openOutlet, State.outlet_modOutlet]
  split <;> simp_all

theorem State.outlet_openRecord :
    (s.openRecord n).outlet o =
      if s.outletOf n = some o then { s.outlet o with closed := false, essential := false } else s.outlet o := by
  unfold State.openRecord
  split
  case h_1 q e => simp only [e, State.outlet_openOutlet, Option.some.injEq, eq_comm]
  case h_2 e => simp [e]

theorem State.outletOf_of_not_suspect (h : s.recState n ≠ .suspect) : s.outletOf n = (s.terms n).outlet := if_neg h

end Outlets

/-! ## A change to a state that keeps the outlet open -/

section Become

variable (s : State) (n m : RecNo) (st : RecState)

@[simp] theorem State.nva_become :
    (s.become n st).nva = (s.modTerms n fun x => { x with state := st }).nva := by
  unfold State.become
  dsimp only
  split <;> simp [State.modTerms]

theorem State.slots_become :
    (s.become n st).nva.slots[m] =
      if m = n then ⟨⟨{ s.terms n with state := st }, .clean⟩, s.nva.slots[n].account⟩ else s.nva.slots[m] := by
  rw [State.nva_become, State.slots_modTerms]

theorem State.terms_become :
    (s.become n st).terms m = if m = n then { s.terms n with state := st } else s.terms m := by
  rw [State.terms_congr (congrArg Nva.slots (s.nva_become n st)), State.terms_modTerms]

@[simp] theorem State.account_become : (s.become n st).account m = s.account m := by
  rw [State.account_congr (congrArg Nva.slots (s.nva_become n st)), State.account_modTerms]

theorem State.recState_become : (s.become n st).recState m = if m = n then st else s.recState m := by
  simp only [State.recState, State.terms_become]
  split <;> rfl

@[simp] theorem State.quotaSpent_become : (s.become n st).quotaSpent m = s.quotaSpent m := by
  simp only [State.quotaSpent, State.terms_become, State.account_become]
  by_cases e : m = n
  · subst e; simp
  · simp [e]

@[simp] theorem State.map_become : (s.become n st).nva.map = s.nva.map := by simp

/-- The working fields of a record that becomes of a state. -/
def Working.became (before after : RecState) (w : Working) : Working :=
  if after = .shed then { w.left before with holdoff := 0, holdoffFrac := 0 } else w.left before

theorem State.work_become :
    (s.become n st).work m = if m = n then (s.work n).became (s.recState n) st else s.work m := by
  have base : ((((s.leave n).modTerms n fun x => { x with state := st }).openRecord n).work m) =
      if m = n then (s.work n).left (s.recState n) else s.work m := by
    rw [State.work_congr (s := s.leave n) (by simp), State.work_leave]
  unfold State.become Working.became
  dsimp only
  split
  case isTrue =>
    rw [State.work_congr (State.promptEvaluation_keeps _).2.1, State.work_modWork]
    split
    case isTrue e => rw [e] at base; rw [base, if_pos rfl]
    case isFalse e => rw [base, if_neg e]
  case isFalse => exact base

theorem State.outlet_become (o : OutletId) (h : st ≠ .suspect) :
    (s.become n st).outlet o =
      if (s.terms n).outlet = some o then { s.outlet o with closed := false, essential := false } else s.outlet o := by
  have base : (((s.leave n).modTerms n fun x => { x with state := st }).openRecord n).outlet o =
      if (s.terms n).outlet = some o then { s.outlet o with closed := false, essential := false } else s.outlet o := by
    rw [State.outlet_openRecord, State.outletOf_of_not_suspect _ _ (by simpa using h), State.terms_modTerms_same,
      State.outlet_congr (s := s) (by simp), State.terms_congr (s := s) (by simp)]
  unfold State.become
  dsimp only
  split
  case isTrue => rw [← base]; exact State.outlet_congr (by simp) o
  case isFalse => exact base

theorem State.rsv_become :
    (s.become n st).rsv = { (s.leave n).rsv with due := (s.leave n).rsv.due || decide (st = .shed) } := by
  unfold State.become
  dsimp only
  split <;> simp_all [State.promptEvaluation]

@[simp] theorem State.sld_become : (s.become n st).sld = (s.leave n).sld := by
  unfold State.become
  dsimp only
  split <;> simp

end Become

/-! ## The shed -/

section Shed

variable (s : State) (n m : RecNo) (k : ShedKind) (cause : ShedCause) (draw : Option Nat)

/-- A slot after a shed of a kind, whose quota is not spent. -/
def Slot.shedSlot (k : ShedKind) (cause : ShedCause) (x : Slot) : Slot :=
  ⟨⟨{ x.terms.value with state := .shed }, .clean⟩,
    ⟨{ x.account.value with cause := some cause, recent := k.recent x.account.value.recent }, .clean⟩⟩

theorem State.shedWith_of_spent (h : s.quotaSpent n = true) : s.shedWith k cause draw n = s.become n .quotaOut :=
  if_pos h

theorem State.nva_shedWith_of_unspent (h : s.quotaSpent n = false) :
    (s.shedWith k cause draw n).nva = ((s.become n .shed).modAccount n fun a =>
      { a with cause := some cause, recent := k.recent (s.account n).recent }).nva := by
  simp [State.shedWith, h]

theorem State.slots_shedWith_of_unspent (h : s.quotaSpent n = false) :
    (s.shedWith k cause draw n).nva.slots[m] =
      if m = n then s.nva.slots[n].shedSlot k cause else s.nva.slots[m] := by
  rw [State.nva_shedWith_of_unspent s n k cause draw h, State.slots_modAccount, State.slots_become, State.slots_become,
    State.account_become]
  by_cases e : m = n
  · simp only [e, if_true]; rfl
  · simp [e]

end Shed

/-! ## A slot that becomes VACANT -/

section Vacate

variable (s : State) (n m : RecNo)

theorem State.slots_vacate : (s.vacate n).nva.slots[m] = if m = n then Slot.vacant else s.nva.slots[m] := by
  rw [State.vacate, (State.modWork_keeps _ _ _).1, State.slots_setSlot, State.slots_unbind, (State.leave_keeps _ _).1]

end Vacate

/-! ## Reads under the check codes -/

section Reads

variable (s : State) (n m : RecNo)

@[simp] theorem State.slots_readBinding (o : OutletId) : (s.readBinding o).nva.slots = s.nva.slots := by
  unfold State.readBinding
  split <;> simp

@[simp] theorem State.slots_readMap : s.readMap.nva.slots = s.nva.slots := by
  unfold State.readMap
  exact foldl_keeps (fun t : State => t.nva.slots) _ (fun t o => t.slots_readBinding o) _ _

@[simp] theorem State.slots_readPlace : (s.readPlace n).nva.slots = s.nva.slots := by
  unfold State.readPlace
  split <;> simp

theorem State.slots_correctRecord :
    (s.correctRecord n).nva.slots[m] =
      if m = n then ⟨⟨s.terms n, .clean⟩,
        ⟨if s.recState n = .vacant then s.account n else (s.account n).countCorrection, .clean⟩⟩
      else s.nva.slots[m] := by
  rw [State.correctRecord, (State.latch_keeps _ _).1, State.slots_modAccount, State.slots_modTerms, State.slots_modTerms,
    State.account_modTerms]
  by_cases e : m = n
  · subst e; simp
  · simp [e]

/-- The account section that a read leaves of a record it makes SUSPECT (R29). -/
def Slot.suspectAccount (x : Slot) : Account :=
  if x.account.verdict = .lost then .zero
  else if x.account.verdict = .oneFlip ∨ x.terms.verdict = .oneFlip then x.account.value.countCorrection
  else x.account.value

theorem State.slots_suspectRecord (o : OutletId) :
    (s.suspectRecord n o).nva.slots[m] =
      if m = n then
        ⟨⟨{ s.terms n with state := .suspect, outlet := some o, stagedClass := none, stagedRank := none }, .clean⟩,
          ⟨s.nva.slots[n].suspectAccount, .clean⟩⟩
      else s.nva.slots[m] := by
  have nva : (s.suspectRecord n o).nva = ((s.modTerms n fun x =>
      { x with state := .suspect, outlet := some o, stagedClass := none, stagedRank := none }).modAccount n fun a =>
        if s.nva.slots[n].account.verdict = .lost then .zero
        else if s.nva.slots[n].account.verdict = .oneFlip ∨ s.nva.slots[n].terms.verdict = .oneFlip then
          a.countCorrection
        else a).nva := by
    by_cases shed : s.recState n = .shed <;>
      by_cases flipped : s.nva.slots[n].account.verdict = .oneFlip ∨ s.nva.slots[n].terms.verdict = .oneFlip <;>
      simp only [State.suspectRecord, shed, flipped, if_true, if_false] <;> simp [State.modAccount, State.modTerms]
  rw [nva, State.slots_modAccount, State.slots_modTerms, State.slots_modTerms, State.account_modTerms]
  by_cases e : m = n
  · simp only [e, if_true]; rfl
  · simp [e]

theorem State.slots_vacateLost :
    (s.vacateLost n).nva.slots[m] = if m = n then Slot.vacant else s.nva.slots[m] := by
  rw [State.vacateLost, (State.latch_keeps _ _).1, State.slots_vacate, (State.dropReservation_keeps _ _).1,
    (State.dropRestoration_keeps _ _).1]

/-- What a read does, by what the check codes of the two sections find (R28, R29). -/
theorem State.readRecord_cases :
    (s.readRecord n = s ∧ s.reads n) ∨
    (s.readRecord n = s.correctRecord n ∧ ¬ s.reads n ∧
      s.nva.slots[n].terms.verdict ≠ .lost ∧ s.nva.slots[n].account.verdict ≠ .lost) ∨
    ((s.nva.slots[n].terms.verdict = .lost ∨ s.nva.slots[n].account.verdict = .lost) ∧
      ((∃ o, s.readMap.mapOutlet n = some o ∧ s.readRecord n = s.readMap.suspectRecord n o) ∨
        (s.readMap.mapOutlet n = none ∧ s.readRecord n = s.readMap.vacateLost n))) := by
  unfold State.readRecord
  dsimp only
  by_cases lost : s.nva.slots[n].terms.verdict = .lost ∨ s.nva.slots[n].account.verdict = .lost
  · refine .inr (.inr ⟨lost, ?_⟩)
    rw [if_pos lost]
    cases s.readMap.mapOutlet n with
    | some o => exact .inl ⟨o, rfl, rfl⟩
    | none => exact .inr ⟨rfl, rfl⟩
  · rw [if_neg lost]
    obtain ⟨terms, account⟩ := not_or.1 lost
    by_cases flip : s.nva.slots[n].terms.verdict = .oneFlip ∨ s.nva.slots[n].account.verdict = .oneFlip
    · refine .inr (.inl ⟨if_pos flip, fun r => ?_, terms, account⟩)
      obtain e | e := flip
      · exact absurd (r.1.symm.trans e) (by decide)
      · exact absurd (r.2.symm.trans e) (by decide)
    · refine .inl ⟨if_neg flip, ?_, ?_⟩
      · cases e : s.nva.slots[n].terms.verdict <;> simp_all
      · cases e : s.nva.slots[n].account.verdict <;> simp_all

variable {s n m}

theorem State.readRecord_of_reads (h : s.reads n) : s.readRecord n = s := by
  obtain ⟨e, -⟩ | ⟨-, hn, -⟩ | ⟨lost, -⟩ := s.readRecord_cases n
  · exact e
  · exact absurd h hn
  · obtain e | e := lost
    · exact absurd (h.1.symm.trans e) (by decide)
    · exact absurd (h.2.symm.trans e) (by decide)

theorem State.slots_readRecord_of_ne (h : m ≠ n) : (s.readRecord n).nva.slots[m] = s.nva.slots[m] := by
  obtain ⟨e, -⟩ | ⟨e, -⟩ | ⟨-, ⟨o, -, e⟩ | ⟨-, e⟩⟩ := s.readRecord_cases n
  · rw [e]
  · rw [e, State.slots_correctRecord, if_neg h]
  · rw [e, State.slots_suspectRecord, if_neg h, State.slots_readMap]
  · rw [e, State.slots_vacateLost, if_neg h, State.slots_readMap]

theorem State.readEach_of_allRead (p : State → RecNo → Bool) (h : s.allRead) : s.readEach p = s := by
  unfold State.readEach
  refine foldl_inv (fun t => t = s) _ (fun t n e => ?_) _ _ rfl
  subst e
  split
  · exact State.readRecord_of_reads (h n)
  · rfl

end Reads
end Sys2Proof.Machine

/-! # The quota law (R5)

The law speaks of each slot of the record array by itself, so a change of one record keeps it when the new contents of that
slot meet it. Every operation gets one lemma, `State.quotaLaw.<operation>`, in the order of the model's files. -/

namespace Sys2Proof.Machine

/-- Whether the record of a slot has a quota that its today tally has reached. -/
def Slot.spent (x : Slot) : Bool :=
  match x.terms.value.quota with
  | some q => q ≤ x.account.value.today
  | none => false

/-- The quota law of one slot. -/
def Slot.keepsQuota (x : Slot) : Prop :=
  x.terms.value.quota ≠ some 0 ∧
    (x.terms.value.state = .live ∨ x.terms.value.state = .restoring ∨ x.terms.value.state = .shed → x.spent = false)

section Slots

variable {s t : State} {x : Slot}

theorem State.quotaSpent_eq (n : RecNo) : s.quotaSpent n = s.nva.slots[n].spent := rfl

theorem State.quotaLaw_iff : s.quotaLaw ↔ ∀ n : RecNo, s.nva.slots[n].keepsQuota := Iff.rfl

/-- A state outside LIVE, RESTORING and SHED asks nothing of the tally. -/
theorem Slot.keepsQuota_of_idle (q : x.terms.value.quota ≠ some 0) (live : x.terms.value.state ≠ .live)
    (restoring : x.terms.value.state ≠ .restoring) (shed : x.terms.value.state ≠ .shed) : x.keepsQuota :=
  ⟨q, by simp [live, restoring, shed]⟩

theorem Slot.keepsQuota_of_unspent (q : x.terms.value.quota ≠ some 0) (h : x.spent = false) : x.keepsQuota :=
  ⟨q, fun _ => h⟩

theorem Slot.spent_of_zero (q : x.terms.value.quota ≠ some 0) (h : x.account.value.today = 0) : x.spent = false := by
  unfold Slot.spent
  split
  case h_1 k e => simp only [h, decide_eq_false_iff_not, nonpos_iff_eq_zero]; rintro rfl; exact q e
  case h_2 => rfl

theorem Slot.keepsQuota_vacant : Slot.vacant.keepsQuota :=
  Slot.keepsQuota_of_idle (by decide) (by decide) (by decide) (by decide)

/-- The law looks at state, quota and today tally alone. -/
theorem Slot.keepsQuota.congr {y : Slot} (h : x.keepsQuota) (state : y.terms.value.state = x.terms.value.state)
    (quota : y.terms.value.quota = x.terms.value.quota) (today : y.account.value.today = x.account.value.today) :
    y.keepsQuota := by
  simp only [Slot.keepsQuota, Slot.spent, state, quota, today]
  exact h

theorem State.quotaLaw.of_slots (h : s.quotaLaw) (e : t.nva.slots = s.nva.slots) : t.quotaLaw := by
  rw [State.quotaLaw_iff, e]
  exact h

theorem State.quotaLaw.change_slot (h : s.quotaLaw) {n : RecNo}
    (others : ∀ m, m ≠ n → t.nva.slots[m] = s.nva.slots[m]) (own : t.nva.slots[n].keepsQuota) : t.quotaLaw := by
  refine State.quotaLaw_iff.2 fun m => ?_
  by_cases e : m = n
  · exact e ▸ own
  · rw [others m e]
    exact h m

end Slots

/-! ## The shared operations -/

section Ops

variable {s : State}

theorem State.quotaLaw.modTerms (h : s.quotaLaw) (n : RecNo) (f : Terms → Terms)
    (own : Slot.keepsQuota ⟨⟨f (s.terms n), .clean⟩, s.nva.slots[n].account⟩) : (s.modTerms n f).quotaLaw :=
  h.change_slot (fun m e => by rw [State.slots_modTerms, if_neg e]) (by rwa [State.slots_modTerms, if_pos rfl])

theorem State.quotaLaw.modAccount (h : s.quotaLaw) (n : RecNo) (f : Account → Account)
    (own : Slot.keepsQuota ⟨s.nva.slots[n].terms, ⟨f (s.account n), .clean⟩⟩) : (s.modAccount n f).quotaLaw :=
  h.change_slot (fun m e => by rw [State.slots_modAccount, if_neg e]) (by rwa [State.slots_modAccount, if_pos rfl])

/-- A change of the terms that keeps state and quota. -/
theorem State.quotaLaw.modTerms_same (h : s.quotaLaw) (n : RecNo) (f : Terms → Terms)
    (state : (f (s.terms n)).state = (s.terms n).state) (quota : (f (s.terms n)).quota = (s.terms n).quota) :
    (s.modTerms n f).quotaLaw :=
  h.modTerms n f ((State.quotaLaw_iff.1 h n).congr state quota rfl)

/-- A change of the account that keeps the today tally. -/
theorem State.quotaLaw.modAccount_same (h : s.quotaLaw) (n : RecNo) (f : Account → Account)
    (today : (f (s.account n)).today = (s.account n).today) : (s.modAccount n f).quotaLaw :=
  h.modAccount n f ((State.quotaLaw_iff.1 h n).congr rfl rfl today)

theorem State.quotaLaw.modWork (h : s.quotaLaw) (n : RecNo) (f : Working → Working) : (s.modWork n f).quotaLaw :=
  h.of_slots rfl

/-- The law at every record but one, whose quota is not 0: what stands between a change of a record's tally, quota or state
and the test that follows it. -/
def State.quotaLawBut (n : RecNo) (s : State) : Prop :=
  (∀ m : RecNo, m ≠ n → s.nva.slots[m].keepsQuota) ∧ (s.terms n).quota ≠ some 0

theorem State.quotaLaw.but (h : s.quotaLaw) (n : RecNo) : s.quotaLawBut n := ⟨fun m _ => h m, (h n).1⟩

theorem State.quotaLawBut.quotaLaw {n : RecNo} (h : s.quotaLawBut n) (own : s.nva.slots[n].keepsQuota) : s.quotaLaw := by
  refine State.quotaLaw_iff.2 fun m => ?_
  by_cases e : m = n
  · exact e ▸ own
  · exact h.1 m e

theorem State.quotaLawBut.become_idle {n : RecNo} (h : s.quotaLawBut n) (st : RecState) (live : st ≠ .live)
    (restoring : st ≠ .restoring) (shed : st ≠ .shed) : (s.become n st).quotaLaw :=
  State.quotaLawBut.quotaLaw
    ⟨fun m e => by rw [State.slots_become, if_neg e]; exact h.1 m e, by rw [State.terms_become, if_pos rfl]; exact h.2⟩
    (by rw [State.slots_become, if_pos rfl]; exact Slot.keepsQuota_of_idle h.2 live restoring shed)

theorem State.quotaLawBut.become_unspent {n : RecNo} (h : s.quotaLawBut n) (st : RecState)
    (unspent : s.quotaSpent n = false) : (s.become n st).quotaLaw :=
  State.quotaLawBut.quotaLaw
    ⟨fun m e => by rw [State.slots_become, if_neg e]; exact h.1 m e, by rw [State.terms_become, if_pos rfl]; exact h.2⟩
    (by rw [State.slots_become, if_pos rfl]; exact Slot.keepsQuota_of_unspent h.2 unspent)

theorem State.quotaLaw.become_idle (h : s.quotaLaw) (n : RecNo) (st : RecState) (live : st ≠ .live)
    (restoring : st ≠ .restoring) (shed : st ≠ .shed) : (s.become n st).quotaLaw :=
  (h.but n).become_idle st live restoring shed

theorem State.quotaLaw.become_unspent (h : s.quotaLaw) (n : RecNo) (st : RecState) (unspent : s.quotaSpent n = false) :
    (s.become n st).quotaLaw := (h.but n).become_unspent st unspent

/-- The quota test of R5 restores the law at its record. -/
theorem State.quotaLawBut.quotaTest {n : RecNo} (h : s.quotaLawBut n) : (s.quotaTest n).quotaLaw := by
  have spent_out : (if s.quotaSpent n then s.become n .quotaOut else s).quotaLaw := by
    split
    case isTrue => exact h.become_idle _ (by decide) (by decide) (by decide)
    case isFalse unspent => exact h.quotaLaw (Slot.keepsQuota_of_unspent h.2 (Bool.eq_false_of_not_eq_true unspent))
  have idle (live : s.recState n ≠ .live) (restoring : s.recState n ≠ .restoring) (shed : s.recState n ≠ .shed) :
      s.quotaLaw := h.quotaLaw (Slot.keepsQuota_of_idle h.2 live restoring shed)
  unfold State.quotaTest
  split
  case h_1 => exact spent_out
  case h_2 => exact spent_out
  case h_3 => exact spent_out
  case h_4 e =>
    split
    case isTrue => exact idle (by simp [e]) (by simp [e]) (by simp [e])
    case isFalse unspent => exact h.become_unspent _ (Bool.eq_false_of_not_eq_true unspent)
  case h_5 live restoring shed _ => exact idle live restoring shed

theorem State.quotaLaw.vacate (h : s.quotaLaw) (n : RecNo) : (s.vacate n).quotaLaw :=
  h.change_slot (fun m e => by rw [State.slots_vacate, if_neg e])
    (by rw [State.slots_vacate, if_pos rfl]; exact Slot.keepsQuota_vacant)

theorem State.quotaLaw.enterShed (h : s.quotaLaw) (n : RecNo) : (s.enterShed n).quotaLaw := by
  unfold State.enterShed
  split
  case isTrue => exact h.become_idle n _ (by decide) (by decide) (by decide)
  case isFalse unspent => exact h.become_unspent n _ (Bool.eq_false_of_not_eq_true unspent)

theorem State.quotaLaw.shedWith (h : s.quotaLaw) (k : ShedKind) (cause : ShedCause) (draw : Option Nat) (n : RecNo) :
    (s.shedWith k cause draw n).quotaLaw := by
  cases spent : s.quotaSpent n
  case true =>
    rw [State.shedWith_of_spent _ _ _ _ _ spent]
    exact h.become_idle n _ (by decide) (by decide) (by decide)
  case false =>
    refine ((h.become_unspent n .shed spent).modAccount_same n (fun a =>
      { a with cause := some cause, recent := k.recent (s.account n).recent }) rfl).of_slots ?_
    rw [State.nva_shedWith_of_unspent _ _ _ _ _ spent]

theorem State.quotaLaw.shed (h : s.quotaLaw) (k : ShedKind) (cause : ShedCause) (n : RecNo) :
    (s.shed k cause n).quotaLaw := h.shedWith k cause _ n

theorem State.quotaLaw.cancel (h : s.quotaLaw) (n : RecNo) : (s.cancel n).quotaLaw := h.shed _ _ n

theorem State.quotaLaw.correctRecord (h : s.quotaLaw) (n : RecNo) : (s.correctRecord n).quotaLaw :=
  h.change_slot (fun m e => by rw [State.slots_correctRecord, if_neg e])
    (by
      rw [State.slots_correctRecord, if_pos rfl]
      refine (State.quotaLaw_iff.1 h n).congr rfl rfl ?_
      dsimp only
      split <;> rfl)

theorem State.quotaLaw.suspectRecord (h : s.quotaLaw) (n : RecNo) (o : OutletId) : (s.suspectRecord n o).quotaLaw :=
  h.change_slot (fun m e => by rw [State.slots_suspectRecord, if_neg e])
    (by
      rw [State.slots_suspectRecord, if_pos rfl]
      exact Slot.keepsQuota_of_idle (h n).1 (by simp) (by simp) (by simp))

theorem State.quotaLaw.readRecord (h : s.quotaLaw) (n : RecNo) : (s.readRecord n).quotaLaw := by
  obtain ⟨e, -⟩ | ⟨e, -⟩ | ⟨-, ⟨o, -, e⟩ | ⟨-, e⟩⟩ := s.readRecord_cases n
  · rwa [e]
  · rw [e]
    exact h.correctRecord n
  · rw [e]
    exact (h.of_slots s.slots_readMap).suspectRecord n o
  · rw [e]
    exact h.change_slot (n := n) (fun m ne => by rw [State.slots_vacateLost, if_neg ne, State.slots_readMap])
      (by rw [State.slots_vacateLost, if_pos rfl]; exact Slot.keepsQuota_vacant)

theorem State.quotaLaw.readEach (h : s.quotaLaw) (p : State → RecNo → Bool) : (s.readEach p).quotaLaw :=
  foldl_inv State.quotaLaw _ (fun t n ht => by split; exacts [ht.readRecord n, ht]) _ _ h

theorem State.quotaLaw.frame {t : State} (h : s.quotaLaw) (e : t.nva = s.nva) : t.quotaLaw :=
  h.of_slots (congrArg Nva.slots e)

/-! An update of another block, a flag or an evaluation asked for leaves the record array as it is. -/

theorem State.quotaLaw.modAtb (h : s.quotaLaw) (f : Vector Working 64 → Vector Working 64) : (s.modAtb f).quotaLaw := h.frame rfl
theorem State.quotaLaw.modFcl (h : s.quotaLaw) (f : Fcl → Fcl) : (s.modFcl f).quotaLaw := h.frame rfl
theorem State.quotaLaw.modFsu (h : s.quotaLaw) (f : Fsu → Fsu) : (s.modFsu f).quotaLaw := h.frame rfl
theorem State.quotaLaw.modBgv (h : s.quotaLaw) (f : Bgv → Bgv) : (s.modBgv f).quotaLaw := h.frame rfl
theorem State.quotaLaw.modRsv (h : s.quotaLaw) (f : Rsv → Rsv) : (s.modRsv f).quotaLaw := h.frame rfl
theorem State.quotaLaw.modSld (h : s.quotaLaw) (f : Sld → Sld) : (s.modSld f).quotaLaw := h.frame rfl
theorem State.quotaLaw.modSpu (h : s.quotaLaw) (f : Vector Station 3 → Vector Station 3) : (s.modSpu f).quotaLaw := h.frame rfl
theorem State.quotaLaw.modMsq (h : s.quotaLaw) (f : Msq → Msq) : (s.modMsq f).quotaLaw := h.frame rfl
theorem State.quotaLaw.modWgc (h : s.quotaLaw) (f : Wgc → Wgc) : (s.modWgc f).quotaLaw := h.frame rfl
theorem State.quotaLaw.modSvl (h : s.quotaLaw) (f : Svl → Svl) : (s.modSvl f).quotaLaw := h.frame rfl
theorem State.quotaLaw.latch (h : s.quotaLaw) (f : Flag) : (s.latch f).quotaLaw := h.frame rfl
theorem State.quotaLaw.promptEvaluation (h : s.quotaLaw) : s.promptEvaluation.quotaLaw := h.frame rfl

theorem State.quotaLaw.readBinding (h : s.quotaLaw) (o : OutletId) : (s.readBinding o).quotaLaw :=
  h.of_slots (s.slots_readBinding o)

theorem State.quotaLaw.ite {c : Prop} [Decidable c] {a b : State} (ha : a.quotaLaw) (hb : b.quotaLaw) :
    (if c then a else b).quotaLaw := by split; exacts [ha, hb]

theorem State.quotaLaw.eachRecord (h : s.quotaLaw) {f : RecNo → State → State}
    (step : ∀ n t, t.quotaLaw → (f n t).quotaLaw) : (s.eachRecord f).quotaLaw := State.eachRecord_inv _ f step s h

theorem State.quotaLaw.eachStation (h : s.quotaLaw) {f : StationNo → State → State}
    (step : ∀ i t, t.quotaLaw → (f i t).quotaLaw) : (s.eachStation f).quotaLaw := State.eachStation_inv _ f step s h

end Ops

/-! ## The ladder -/

section Ladder

variable {s : State}

theorem State.quotaLaw.shedEntry (h : s.quotaLaw) (cause : ShedCause) (x : Holder) : (s.shedEntry cause x).quotaLaw := by
  cases x with
  | allotment n => exact h.shed _ _ n
  | station i => exact h.frame (by simp [State.shedEntry])

theorem State.quotaLaw.takeStep (h : s.quotaLaw) : s.takeStep.quotaLaw := by
  have first := h.readEach State.isRestoring
  unfold State.takeStep
  dsimp only
  split
  case h_1 n _ => exact first.cancel n
  case h_2 => exact first
  case h_3 =>
    have second := first.readEach State.recordOnLadder
    split
    case h_1 x _ => exact second.shedEntry _ x
    case h_2 => exact second

theorem State.quotaLaw.collapseFirst (h : s.quotaLaw) : s.collapseFirst.quotaLaw := by
  refine State.quotaLaw.frame ?_ (State.abortEngaging_keeps _ _).1
  refine State.quotaLaw.eachRecord (State.quotaLaw.eachStation (h.eachRecord fun n t ht => ?_) fun i t ht =>
    ht.frame (State.windDown_keeps i t).1) fun n t ht => ?_
  · dsimp only
    split
    · split
      · exact (ht.readRecord n).shed _ _ n
      · exact ht.readRecord n
    · exact ht
  · dsimp only
    split
    · split
      · exact (ht.readRecord n).cancel n
      · exact ht.readRecord n
    · exact ht

theorem State.quotaLaw.collapseSecond (h : s.quotaLaw) : s.collapseSecond.quotaLaw := by
  refine h.collapseFirst.eachRecord fun n t ht => ?_
  dsimp only
  split
  · split
    · exact (ht.readRecord n).shed _ _ n
    · exact ht.readRecord n
  · exact ht

theorem State.quotaLaw.waterShortShed (h : s.quotaLaw) : s.waterShortShed.quotaLaw := by
  refine State.quotaLaw.frame (h.eachRecord fun n t ht => ?_) (State.abortEngaging_keeps _ _).1
  split
  · exact ht.shed _ _ n
  · exact ht

theorem State.quotaLaw.plantShed (h : s.quotaLaw) : s.plantShed.quotaLaw := by
  have shed : (s.eachRecord fun n t => if t.supplied n then t.shed .zero .plant n else t).quotaLaw :=
    h.eachRecord fun n t ht => by
      split
      · exact ht.shed _ _ n
      · exact ht
  unfold State.plantShed
  exact shed.frame (by simp only [State.modSld_nva, State.openEveryOutlet_keeps])

end Ladder

/-! ## The Reserve Unit -/

section Reserve

variable {s : State}

/-- The most important entry of a list is one of its entries. -/
theorem State.mem_of_mostImportant {l : List Holder} {x : Holder} (e : s.mostImportant l = some x) : x ∈ l := by
  cases l with
  | nil => cases e
  | cons a l =>
    have pick (l : List Holder) (a : Holder) : l.foldl s.moreImportant a ∈ a :: l := by
      induction l generalizing a with
      | nil => simp
      | cons b l ih =>
        have either : s.moreImportant a b = a ∨ s.moreImportant a b = b := by
          unfold State.moreImportant
          split <;> simp
        have := ih (s.moreImportant a b)
        simp only [List.foldl_cons, List.mem_cons] at this ⊢
        obtain e | e := either <;> rw [e] at this ⊢ <;> tauto
    cases e
    exact pick l a

/-- A record at the head of the claim list is SHED (R89). -/
theorem State.recState_of_head {n : RecNo} (e : s.head = some (.allotment n)) : s.recState n = .shed := by
  have mem := State.mem_of_mostImportant e
  simp only [State.claims, List.mem_append, List.mem_map, List.mem_filter, Holder.allotment.injEq, reduceCtorEq,
    and_false, exists_false, or_false, exists_eq_right, State.claimsRecord, Bool.and_eq_true, decide_eq_true_eq] at mem
  exact mem.2.1.1.1

theorem State.quotaLaw.beginRestoration (h : s.quotaLaw) {n : RecNo} (shed : s.recState n = .shed) :
    (s.beginRestoration n).quotaLaw := by
  have restoring : ((s.leave n).modTerms n fun x => { x with state := .restoring }).quotaLaw := by
    refine (h.frame (State.leave_keeps n s).1).modTerms n _ ?_
    rw [State.terms_congr (congrArg Nva.slots (State.leave_keeps n s).1), (State.leave_keeps n s).1]
    exact Slot.keepsQuota_of_unspent (h n).1 ((h n).2 (.inr (.inr shed)))
  refine restoring.frame ?_
  unfold State.beginRestoration
  dsimp only
  split <;> simp

theorem State.quotaLaw.grant (h : s.quotaLaw) {x : Holder} (e : s.head = some x) : (s.grant x).quotaLaw := by
  cases x with
  | allotment n =>
    exact State.quotaLaw.beginRestoration (s := s.modRsv _) (h.frame rfl) (State.recState_of_head e)
  | station i => exact h.frame (by simp [State.grant])

theorem State.quotaLaw.readForList (h : s.quotaLaw) : s.readForList.quotaLaw := by
  unfold State.readForList
  exact h.readEach _

theorem State.quotaLaw.evaluate (h : s.quotaLaw) : s.evaluate.quotaLaw := by
  have listed := h.readForList
  unfold State.evaluate
  dsimp only
  split
  case h_1 x e =>
    split
    · exact listed.grant e
    · exact listed
  case h_2 => exact listed

theorem State.quotaLaw.settleWith (h : s.quotaLaw) (fuel : Nat) : (s.settleWith fuel).quotaLaw := by
  induction fuel generalizing s with
  | zero => exact h
  | succ fuel ih =>
    unfold State.settleWith
    split
    · exact ih (State.quotaLaw.evaluate (s := s.modRsv _) (h.frame rfl))
    · exact h

theorem State.quotaLaw.settle (h : s.quotaLaw) : s.settle.quotaLaw := h.settleWith 10

end Reserve

/-! ## Outlet reports -/

/-- Steps 4 to 8 of a report at a record (R22): the reading, the node restart, the over-cap test and the two watches. -/
def State.watchReport (n : RecNo) (o : OutletId) (restart : Bool) (r : Report) (draw : Option Nat) (s : State) : State :=
  ((((s.storePower n r.power).restartStep n restart draw).overCapStep n r.power).openWatch n o r.closed draw).closedWatch
    n o r.closed

/-- The end of a report: the retirement that ends and the confirmation (R16, R113). -/
def State.endReport (n : RecNo) (closed : Bool) (s : State) : State :=
  (if s.recState n = .retiring ∧ closed = false then s.vacate n else s).confirm n closed

/-- The last reading of a record if it is fresh. -/
def State.freshDraw (n : RecNo) (s : State) : Option Nat := if (s.work n).fresh then (s.work n).reading else none

theorem State.workReport_eq (s : State) (n : RecNo) (o : OutletId) (restart : Bool) (r : Report) :
    s.workReport n o restart r =
      ((((s.tallyEnergy n restart r.energy).quotaTest n).watchReport n o restart r
        (((s.tallyEnergy n restart r.energy).quotaTest n).freshDraw n)).answerReset o (some n) r.reset).endReport n
          r.closed := rfl

section Reports

variable {s : State} {n : RecNo}

theorem State.quotaLaw.tallyEnergy (h : s.quotaLaw) (n : RecNo) (restart : Bool) (counter : Nat) :
    (s.tallyEnergy n restart counter).quotaLawBut n := by
  have but : (if energyStep (s.work n).baseline restart counter = 0 then s
      else s.modAccount n fun a => a.addEnergy (energyStep (s.work n).baseline restart counter)).quotaLawBut n := by
    split
    · exact h.but n
    · exact ⟨fun m e => by rw [State.slots_modAccount, if_neg e]; exact h m,
        by rw [State.terms_modAccount]; exact (h n).1⟩
  exact but

theorem State.quotaLaw.restartStep (h : s.quotaLaw) (n : RecNo) (restart : Bool) (draw : Option Nat) :
    (s.restartStep n restart draw).quotaLaw := by
  unfold State.restartStep
  split
  · exact h.shedWith _ _ _ n
  · exact h

theorem State.quotaLaw.overCapStep (h : s.quotaLaw) (n : RecNo) (power : Nat) : (s.overCapStep n power).quotaLaw := by
  unfold State.overCapStep
  split
  · split
    · dsimp only
      split
      · exact (h.become_idle n .tripped (by decide) (by decide) (by decide)).modWork n _
      · exact h.modWork n _
    · exact h.modWork n _
  · exact h

theorem State.quotaLaw.openWatch (h : s.quotaLaw) (n : RecNo) (o : OutletId) (closed : Bool) (draw : Option Nat) :
    (s.openWatch n o closed draw).quotaLaw := by
  unfold State.openWatch
  split
  · split
    · exact h.modWork n _
    · split
      · exact h.shedWith _ _ _ n
      · exact h.modWork n _
  · exact h

theorem State.quotaLaw.closedWatch (h : s.quotaLaw) (n : RecNo) (o : OutletId) (closed : Bool) :
    (s.closedWatch n o closed).quotaLaw := by
  refine h.frame ?_
  unfold State.closedWatch
  dsimp only
  (repeat' split) <;> simp

theorem State.quotaLaw.takeReset (h : s.quotaLaw) (n : RecNo) : (s.takeReset n).quotaLaw := by
  unfold State.takeReset
  split
  · exact h.enterShed n
  · exact h

theorem State.quotaLaw.answerReset (h : s.quotaLaw) (o : OutletId) (bound : Option RecNo) (flag : Bool) :
    (s.answerReset o bound flag).quotaLaw := by
  unfold State.answerReset
  split
  · dsimp only
    split
    case h_1 n => exact State.quotaLaw.takeReset (s := s.modOutlet o _) (h.frame rfl) n
    case h_2 => exact h.frame rfl
  · exact h.frame rfl
  · exact h

theorem State.quotaLaw.confirm (h : s.quotaLaw) (n : RecNo) (closed : Bool) : (s.confirm n closed).quotaLaw := by
  unfold State.confirm
  split
  case isTrue c =>
    refine State.quotaLaw.modWork ((h.frame (State.leave_keeps n s).1).modTerms n _ ?_) n _
    rw [State.terms_congr (congrArg Nva.slots (State.leave_keeps n s).1), (State.leave_keeps n s).1]
    exact Slot.keepsQuota_of_unspent (h n).1 ((h n).2 (.inr (.inl c.2)))
  case isFalse => exact h

theorem State.quotaLaw.watchReport (h : s.quotaLaw) (n : RecNo) (o : OutletId) (restart : Bool) (r : Report)
    (draw : Option Nat) : (s.watchReport n o restart r draw).quotaLaw :=
  ((((State.quotaLaw.restartStep (s := s.storePower n r.power) (h.modWork n _) n restart draw).overCapStep n
    r.power).openWatch n o r.closed draw).closedWatch n o r.closed)

theorem State.quotaLaw.endReport (h : s.quotaLaw) (n : RecNo) (closed : Bool) : (s.endReport n closed).quotaLaw := by
  unfold State.endReport
  split
  · exact (h.vacate n).confirm n closed
  · exact h.confirm n closed

theorem State.quotaLaw.workReport (h : s.quotaLaw) (n : RecNo) (o : OutletId) (restart : Bool) (r : Report) :
    (s.workReport n o restart r).quotaLaw := by
  rw [State.workReport_eq]
  exact ((((h.tallyEnergy n restart r.energy).quotaTest).watchReport n o restart r _).answerReset o _ _).endReport n _

theorem State.quotaLaw.takeReport (h : s.quotaLaw) (restart : Bool) (o : OutletId) (r : Report) :
    (s.takeReport restart o r).quotaLaw := by
  have bound := h.readBinding o
  unfold State.takeReport
  dsimp only
  split
  case h_1 => exact bound.answerReset o none _
  case h_2 n _ =>
    split
    · exact bound.readRecord n
    · exact (bound.readRecord n).workReport n o restart r

end Reports
end Sys2Proof.Machine

namespace Sys2Proof.Machine

/-! ## The Feeder Chain -/

section Chain

variable {s : State}

theorem State.quotaLaw.foldl {γ : Type} (h : s.quotaLaw) {f : State → γ → State}
    (step : ∀ t a, t.quotaLaw → (f t a).quotaLaw) (l : List γ) : (l.foldl f s).quotaLaw :=
  foldl_inv State.quotaLaw f step l s h

theorem State.quotaLaw.enterSilent (h : s.quotaLaw) (a : NodeNo) : (s.enterSilent a).quotaLaw := by
  have start : ((s.modNode a fun x => { x with state := .silent }).latch .nodeSilent).quotaLaw :=
    State.quotaLaw.latch (h.modFcl _) _
  refine State.quotaLaw.promptEvaluation (start.foldl (fun t o ht => ?_) (outletsOf a))
  dsimp only
  split
  · split
    · exact (ht.readBinding o).vacate _
    · exact ht.readBinding o
  · exact ht.readBinding o

theorem State.quotaLaw.nodeRoundEnd (h : s.quotaLaw) (a : NodeNo) : (s.nodeRoundEnd a).quotaLaw := by
  unfold State.nodeRoundEnd
  dsimp only
  split
  · exact h
  · split
    · exact h.frame (by simp)
    · have missed : (s.modNode a fun x => { x with missed := min 3 (x.missed + 1) }).quotaLaw := h.frame (by simp)
      split
      · exact missed.enterSilent a
      · exact missed
    · exact h
    · exact h

theorem State.quotaLaw.clearFresh (h : s.quotaLaw) (a : NodeNo) : (s.clearFresh a).quotaLaw := by
  unfold State.clearFresh
  split
  · exact h
  · refine h.foldl (fun t o ht => ?_) (outletsOf a)
    dsimp only
    split
    · exact (ht.readBinding o).modWork _ _
    · exact ht.readBinding o

theorem State.quotaLaw.applyStaged (h : s.quotaLaw) (n : RecNo) : (s.applyStaged n).quotaLaw := by
  have applied : (s.modTerms n Terms.applyStaged).quotaLaw := h.modTerms_same n _ rfl rfl
  unfold State.applyStaged
  dsimp only
  split
  · exact h
  · split
    · exact h.modTerms_same n _ rfl rfl
    · refine applied.frame ?_
      (repeat' split) <;> simp

theorem State.quotaLaw.stagedRoundEnd (h : s.quotaLaw) : s.stagedRoundEnd.quotaLaw := by
  have applied : (s.eachRecord State.applyStaged).quotaLaw := h.eachRecord fun n t ht => ht.applyStaged n
  unfold State.stagedRoundEnd
  dsimp only
  split
  · exact applied.foldl (fun t n ht => by split; exacts [ht.shed _ _ n, ht]) _
  · exact applied

theorem State.quotaLaw.countRounds (h : s.quotaLaw) : s.countRounds.quotaLaw := by
  unfold State.countRounds
  refine (h.modSld _).foldl (fun t n ht => ?_) _
  split
  · exact ht.cancel n
  · exact ht.frame (by simp)

theorem State.quotaLaw.roundEnd (h : s.quotaLaw) : s.roundEnd.quotaLaw := by
  have nodes : (s.fcl.pollList.foldl (fun t a => t.nodeRoundEnd a)
      (s.modFcl fun l => { l with phase := .idle, pollList := [], toPoll := [] })).quotaLaw :=
    (h.modFcl _).foldl (fun t a ht => ht.nodeRoundEnd a) _
  unfold State.roundEnd State.refill
  exact ((nodes.foldl (fun t a ht => ht.clearFresh a) allNodes).stagedRoundEnd.countRounds).modRsv _

theorem State.quotaLaw.nextFrame (h : s.quotaLaw) : s.nextFrame.quotaLaw := by
  unfold State.nextFrame
  split
  · exact h.frame rfl
  · split
    · exact h.roundEnd
    · split
      · exact h.frame rfl
      · exact h.roundEnd

theorem State.quotaLaw.roundExpiry (h : s.quotaLaw) : s.roundExpiry.quotaLaw := by
  unfold State.roundExpiry
  dsimp only
  split
  · exact State.quotaLaw.nextFrame (h.frame rfl)
  · exact h.frame rfl

theorem State.quotaLaw.validReply (h : s.quotaLaw) (a : NodeNo) (call : Bool) (l : List Byte) :
    (s.validReply a call l).quotaLaw := by
  unfold State.validReply
  refine State.quotaLaw.foldl ?_ (fun t k ht => ht.takeReport _ _ _) allOutletNos
  refine h.frame ?_
  have answers (t : State) : ((outletsOf a).foldl
      (fun t o => t.modOutlet o fun x => { x with answered := false }) t).nva = t.nva :=
    foldl_keeps (fun t : State => t.nva) _ (fun t o => (State.modOutlet_keeps _ _ _).1) _ _
  (repeat' split) <;> simp [answers]

theorem State.quotaLaw.receiveReply (h : s.quotaLaw) (a : NodeNo) (call : Bool) (chars : List LineChar) :
    (s.receiveReply a call chars).quotaLaw := by
  unfold State.receiveReply
  split
  · exact h.validReply a call _
  · exact h.frame (by simp)

theorem State.quotaLaw.endSlot (h : s.quotaLaw) : s.endSlot.quotaLaw := h.settle.nextFrame

end Chain

/-! ## The record requests -/

/-- What an owner's answer keeps: the law, whatever the reply says. -/
def Owner.keepsQuotaLaw (owner : Owner) : Prop := ∀ s : State, s.quotaLaw → (owner s).1.quotaLaw

section Requests

variable {s : State}

theorem keepsQuotaLaw_refuse (st : Status) : (refuse st).keepsQuotaLaw := fun _ h => h

theorem keepsQuotaLaw_onRecord (number : Byte) {act : RecNo → Owner} (step : ∀ n, (act n).keepsQuotaLaw) :
    (onRecord number act).keepsQuotaLaw := fun s h => by
  unfold onRecord
  dsimp only
  split
  case h_1 => exact h
  case h_2 n _ =>
    split
    · exact h.readRecord n
    · exact step n _ (h.readRecord n)

theorem keepsQuotaLaw_allotCreate (holder : Half) (node outlet cls rank : Byte) (cap quota : Half) :
    (allotCreate holder node outlet cls rank cap quota).keepsQuotaLaw := fun s h => by
  unfold allotCreate
  dsimp only
  split
  case h_2 => exact h
  case h_1 o c _ _ =>
    split
    · split
      · exact h
      · split
        · exact h.readBinding o
        · rename_i n _ _
          refine (h.readBinding o).change_slot (n := n) (fun m e => ?_) ?_ <;>
            simp only [State.createRecord, State.slots_setBinding, State.modWork_keeps, State.slots_setSlot]
          · rw [if_neg e]
          · rw [if_pos trivial]
            refine Slot.keepsQuota_of_idle ?_ (by simp [newTerms]) (by simp [newTerms]) (by simp [newTerms])
            simp only [newTerms, quotaField]
            split <;> simp_all
    · exact h

theorem State.slots_moveOutlet (s : State) (n m : RecNo) (o : OutletId) :
    (s.moveOutlet n o).nva.slots[m] =
      if m = n then ⟨⟨{ s.terms n with outlet := some o }, .clean⟩, s.nva.slots[n].account⟩ else s.nva.slots[m] := by
  rw [State.moveOutlet, (State.modWork_keeps _ _ _).1, State.slots_modTerms]
  simp only [State.slots_setBinding, State.slots_unbind, State.terms_eq]

/-- An amendment whose ranges are in order asks for no quota of 0. -/
theorem Amendment.quota_ne_zero {m : Amendment} (h : m.inRange = true) {quota : Option Nat} (q : quota ≠ some 0) :
    m.quota.getD quota ≠ some 0 := by
  cases e : m.quota with
  | none => exact q
  | some new =>
    simp only [Amendment.inRange, e, Option.all_some, quotaFieldOk, Bool.and_eq_true] at h
    rintro rfl
    exact absurd h.1.2 (by decide)

theorem Amendment.ranges_of_checkFields {m : Amendment} {ranges : Bool} {x : Terms}
    (h : m.checkFields ranges x = none) : ranges = true := by
  unfold Amendment.checkFields at h
  split at h
  · cases h
  · split at h
    · cases h
    · simp_all

theorem State.quotaLaw.amendRecord (h : s.quotaLaw) (n : RecNo) {m : Amendment} (ranges : m.inRange = true) :
    (s.amendRecord n m).quotaLaw := by
  have quota : m.quota.getD (s.terms n).quota ≠ some 0 := Amendment.quota_ne_zero ranges (h n).1
  have rewritten (f : Terms → Terms) (q : (f (s.terms n)).quota ≠ some 0) : (s.modTerms n f).quotaLawBut n :=
    ⟨fun k e => by rw [State.slots_modTerms, if_neg e]; exact h k, by rwa [State.terms_modTerms_same]⟩
  have moved (t : State) (ht : t.quotaLawBut n) : (match m.move (s.outletOf n) with
      | some o => t.moveOutlet n o
      | none => t).quotaLawBut n ∧ (match m.move (s.outletOf n) with
      | some o => t.moveOutlet n o
      | none => t).recState n = t.recState n := by
    split
    · refine ⟨⟨fun k e => ?_, ?_⟩, ?_⟩
      · rw [State.slots_moveOutlet, if_neg e]
        exact ht.1 k e
      · rw [State.terms_eq, State.slots_moveOutlet, if_pos rfl]
        exact ht.2
      · rw [State.recState, State.terms_eq, State.slots_moveOutlet, if_pos rfl]
        rfl
    · exact ⟨ht, rfl⟩
  unfold State.amendRecord
  by_cases suspect : s.recState n = .suspect
  · simp only [suspect, if_true]
    obtain ⟨law, state⟩ := moved _ (rewritten m.rewrite quota)
    rw [State.recState_modTerms_same] at state
    refine law.quotaLaw (Slot.keepsQuota_of_idle law.2 ?_ ?_ ?_) <;>
      · intro e
        exact absurd (state.symm.trans e) (by simp [Amendment.rewrite])
  · simp only [suspect, if_false]
    exact (moved _ (rewritten m.amend quota)).1.quotaTest

theorem keepsQuotaLaw_allotAmend (number presence : Byte) (holder cap quota : Half) (cls rank node outlet : Byte) :
    (allotAmend number presence holder cap quota cls rank node outlet).keepsQuotaLaw := by
  unfold allotAmend
  split
  · refine keepsQuotaLaw_onRecord number fun n s h => ?_
    dsimp only
    split
    case h_1 => exact h
    case h_2 checked =>
      have ranges : (amendment presence holder cap quota cls rank node outlet).inRange = true :=
        (Bool.and_eq_true_iff.1 (Amendment.ranges_of_checkFields checked)).1
      have read : (s.readMove n (amendment presence holder cap quota cls rank node outlet)).quotaLaw := by
        refine h.of_slots ?_
        unfold State.readMove
        dsimp only
        (repeat' split) <;> simp
      split
      · exact read
      · exact read.amendRecord n ranges
  · exact keepsQuotaLaw_refuse _

theorem keepsQuotaLaw_allotActivate (number : Byte) : (allotActivate number).keepsQuotaLaw :=
  keepsQuotaLaw_onRecord number fun n s h => by
    split
    · show (s.activateRecord n).quotaLaw
      unfold State.activateRecord
      split
      case isTrue => exact h.become_idle n _ (by decide) (by decide) (by decide)
      case isFalse unspent =>
        refine State.quotaLaw.become_unspent (h.modAccount_same n _ rfl) n _ ?_
        rw [State.quotaSpent, State.terms_modAccount, State.account_modAccount_same]
        exact Bool.eq_false_of_not_eq_true unspent
    · exact h

theorem keepsQuotaLaw_allotSuspend (number : Byte) : (allotSuspend number).keepsQuotaLaw :=
  keepsQuotaLaw_onRecord number fun n s h => by
    split
    · exact State.quotaLaw.modWork (State.quotaLaw.modAccount_same
        (h.become_idle n .dormant (by decide) (by decide) (by decide)) n _ rfl) n _
    · exact h

theorem State.quotaLaw.openRecord (h : s.quotaLaw) (n : RecNo) : (s.openRecord n).quotaLaw :=
  h.frame (State.openRecord_keeps n s).1

theorem State.quotaLaw.retireRecord (h : s.quotaLaw) (n : RecNo) : (s.retireRecord n).quotaLaw := by
  have vacated : ((s.openRecord n).vacate n).quotaLaw := (h.openRecord n).vacate n
  have retiring : (if s.nodeStateOf n = some .present ∨ s.nodeStateOf n = some .joining then s.become n .retiring
      else (s.openRecord n).vacate n).quotaLaw := by
    split
    · exact h.become_idle n _ (by decide) (by decide) (by decide)
    · exact vacated
  unfold State.retireRecord
  cases s.recState n with
  | vacant | retiring => exact h
  | live | restoring => exact retiring
  | dormant | shed | tripped | quotaOut | suspect => exact vacated

theorem keepsQuotaLaw_allotRetire (number : Byte) : (allotRetire number).keepsQuotaLaw :=
  keepsQuotaLaw_onRecord number fun n s h => (h.of_slots (s.slots_readPlace n)).retireRecord n

theorem keepsQuotaLaw_tripClear (number : Byte) : (tripClear number).keepsQuotaLaw :=
  keepsQuotaLaw_onRecord number fun n s h => by
    split
    · exact h.enterShed n
    · exact h

theorem keepsQuotaLaw_allotLookup (number : Byte) : (allotLookup number).keepsQuotaLaw :=
  keepsQuotaLaw_onRecord number fun n s h => h.of_slots (s.slots_readPlace n)

theorem keepsQuotaLaw_allotFind (key : Byte) (tag : Half) (start node outlet : Byte) :
    (allotFind key tag start node outlet).keepsQuotaLaw := fun s h => by
  unfold allotFind
  dsimp only
  split
  · split
    · exact h.readEach _
    · exact h
  · split
    · exact h.readBinding _
    · exact h
  · exact h

theorem keepsQuotaLaw_allotList (state start : Byte) : (allotList state start).keepsQuotaLaw := fun s h => by
  unfold allotList
  dsimp only
  split
  · exact h.readEach _
  · exact h

/-- A tally that becomes 0 reaches no quota. -/
theorem State.quotaLaw.turnRecord (h : s.quotaLaw) (n : RecNo) : (s.turnRecord n).quotaLaw := by
  have unspent : Slot.spent ⟨s.nva.slots[n].terms, ⟨{ s.account n with today := 0, recent := 0 }, .clean⟩⟩ = false :=
    Slot.spent_of_zero (h n).1 rfl
  have cleared : (s.modAccount n fun a => { a with today := 0, recent := 0 }).quotaLaw :=
    h.modAccount n _ (Slot.keepsQuota_of_unspent (h n).1 unspent)
  unfold State.turnRecord
  dsimp only
  split
  · exact h
  · split
    · refine cleared.become_unspent n _ ?_
      rw [State.quotaSpent_eq, State.slots_modAccount, if_pos rfl]
      exact unspent
    · exact cleared

theorem keepsQuotaLaw_dayTurn : dayTurn.keepsQuotaLaw := fun s h => by
  dsimp only [dayTurn]
  refine State.quotaLaw.eachRecord h fun n t ht => ?_
  · split
    · exact (ht.readRecord n).turnRecord n
    · exact ht

end Requests

end Sys2Proof.Machine

namespace Sys2Proof.Machine

/-! ## The plant -/

section Plant

variable {s : State}

theorem State.quotaLaw.ladderTakesPlant (h : s.quotaLaw) : s.ladderTakesPlant.quotaLaw := by
  unfold State.ladderTakesPlant
  cases s.plant with
  | waterShort => exact h.waterShortShed
  | runDown | tripped => exact h.plantShed
  | runUp => exact h.frame (State.openEveryOutlet_keeps s).1
  | standstill | onLine => exact h

theorem State.quotaLaw.plantChanged (h : s.quotaLaw) : s.plantChanged.quotaLaw := by
  have ladder : s.governorTakesPlant.ladderTakesPlant.quotaLaw :=
    State.quotaLaw.ladderTakesPlant (h.frame (State.governorTakesPlant_keeps s).1)
  exact ladder.frame (by simp [State.plantChanged])

theorem State.quotaLaw.setTarget (h : s.quotaLaw) (target : Nat) : (s.setTarget target).quotaLaw := h.frame (by simp)

theorem State.quotaLaw.startMove (h : s.quotaLaw) : s.startMove.quotaLaw := h.frame (by simp)

theorem State.quotaLaw.modPlantRecord (h : s.quotaLaw) (f : PlantRecord → PlantRecord) : (s.modPlantRecord f).quotaLaw :=
  h.of_slots rfl

theorem State.quotaLaw.trip (h : s.quotaLaw) (cause : TripCause) : (s.trip cause).quotaLaw := by
  have tripped (f : PlantRecord → PlantRecord) (g : Wgc → Wgc) :
      (((((s.modPlantRecord f).modWgc g).setTarget 0).latch .trip).plantChanged).quotaLaw :=
    ((((h.modPlantRecord f).modWgc g).setTarget 0).latch .trip).plantChanged
  unfold State.trip
  cases s.plant with
  | standstill => exact h
  | tripped =>
    dsimp only
    split
    · exact h.startMove
    · exact h
  | runUp | onLine | waterShort | runDown => exact tripped _ _

theorem State.quotaLaw.runDown (h : s.quotaLaw) : s.runDown.quotaLaw := by
  unfold State.runDown
  split
  case h_4 => exact h
  all_goals exact (((h.modWgc _).setTarget 0).latch .runDown).plantChanged

theorem State.quotaLaw.enterStandstill (h : s.quotaLaw) : s.enterStandstill.quotaLaw := (h.modWgc _).plantChanged

theorem State.quotaLaw.clearTrip (h : s.quotaLaw) : s.clearTrip.quotaLaw := by
  unfold State.clearTrip
  refine State.quotaLaw.plantChanged ?_
  split
  · exact ((h.modPlantRecord _).modWgc _).startMove
  · exact (h.modPlantRecord _).modWgc _

theorem State.quotaLaw.enterRunUp (h : s.quotaLaw) : s.enterRunUp.quotaLaw := by
  unfold State.enterRunUp
  dsimp only
  split
  · exact ((h.modWgc _).setTarget _).plantChanged.trip _
  · exact ((h.modWgc _).setTarget _).plantChanged

theorem State.quotaLaw.shortTest (h : s.quotaLaw) : s.shortTest.quotaLaw := h.frame (State.shortTest_keeps s).1

theorem State.quotaLaw.goOnLine (h : s.quotaLaw) : s.goOnLine.quotaLaw := (h.modWgc _).shortTest.plantChanged

theorem State.quotaLaw.enterWaterShort (h : s.quotaLaw) : s.enterWaterShort.quotaLaw :=
  ((h.modWgc _).latch _).plantChanged

theorem State.quotaLaw.leaveWaterShort (h : s.quotaLaw) : s.leaveWaterShort.quotaLaw :=
  ((h.modWgc _).latch _).shortTest.plantChanged

theorem State.quotaLaw.restTest (h : s.quotaLaw) : s.restTest.quotaLaw := by
  unfold State.restTest
  split
  · exact h.enterStandstill
  · exact h

theorem State.quotaLaw.reverseTest (h : s.quotaLaw) : s.reverseTest.quotaLaw := by
  unfold State.reverseTest
  split
  · exact h.trip _
  · exact h

theorem State.quotaLaw.changeTarget (h : s.quotaLaw) (target : Nat) : (s.changeTarget target).quotaLaw := by
  unfold State.changeTarget
  split
  · exact h
  · exact (h.setTarget target).shortTest

theorem State.quotaLaw.levelEvaluation (h : s.quotaLaw) (v : Int) : (s.levelEvaluation v).quotaLaw := by
  unfold State.levelEvaluation
  dsimp only
  refine State.quotaLaw.changeTarget (State.quotaLaw.modWgc ?_ _) _
  split
  · exact h.latch _
  · exact h

theorem State.quotaLaw.rackCheck (h : s.quotaLaw) : s.rackCheck.quotaLaw := by
  unfold State.rackCheck
  split
  case h_1 level forebay _ _ =>
    have alarmed (c : Prop) [Decidable c] (f : Wgc → Wgc) : ((if c then s.latch .rackAlarm else s).modWgc f).quotaLaw :=
      ((h.latch _).ite h).modWgc f
    exact (alarmed _ _).runDown.ite (alarmed _ _)
  case h_2 => exact h

theorem State.quotaLaw.headCheck (h : s.quotaLaw) : s.headCheck.quotaLaw := by
  unfold State.headCheck
  split
  · dsimp only
    split
    · exact (h.modWgc _).runDown
    · exact h.modWgc _
  · exact h

theorem State.quotaLaw.levelReading (h : s.quotaLaw) (v : Int) : (s.levelReading v).quotaLaw := by
  unfold State.levelReading
  have start := h.modWgc fun w => { w with levelLost := none }
  have head : (if v < s.set.stopLevel then (s.modWgc fun w => { w with levelLost := none }).runDown
      else s.modWgc fun w => { w with levelLost := none }).headCheck.quotaLaw := (start.runDown.ite start).headCheck
  have returned (t : State) (ht : t.quotaLaw) (c : Prop) [Decidable c] :
      (if c then t.leaveWaterShort else t).quotaLaw := ht.leaveWaterShort.ite ht
  exact State.quotaLaw.shortTest (((returned _ head _).levelEvaluation v).ite (returned _ head _))

theorem State.quotaLaw.waterReading (h : s.quotaLaw) (c : ChannelNo) (v : Int) (fromSlot2 : Bool) :
    (s.waterReading c v fromSlot2).quotaLaw := by
  unfold State.waterReading
  split
  · exact h.levelReading v
  · exact h.rackCheck
  · exact h.headCheck
  · exact State.quotaLaw.restTest (h.frame (State.gateReading_keeps v fromSlot2 s).1)
  · exact h

theorem State.quotaLaw.levelLostExpiry (h : s.quotaLaw) : s.levelLostExpiry.quotaLaw := ((h.modWgc _).latch _).runDown

theorem State.quotaLaw.gateTimeout (h : s.quotaLaw) : s.gateTimeout.quotaLaw := (h.modWgc _).trip _

end Plant

/-! ## The governor, the frequency and the shaft -/

section Frequency

variable {s : State}

theorem State.quotaLaw.stepTest (h : s.quotaLaw) : s.stepTest.quotaLaw := h.frame s.stepTest_keeps.1
theorem State.quotaLaw.collapseTests (h : s.quotaLaw) : s.collapseTests.quotaLaw := h.frame s.collapseTests_keeps.1
theorem State.quotaLaw.dipTest (h : s.quotaLaw) : s.dipTest.quotaLaw := h.frame s.dipTest_keeps.1
theorem State.quotaLaw.slipTest (h : s.quotaLaw) : s.slipTest.quotaLaw := h.frame s.slipTest_keeps.1
theorem State.quotaLaw.waterTakesFrequency (h : s.quotaLaw) : s.waterTakesFrequency.quotaLaw := h.frame (by simp)

theorem State.quotaLaw.holdExpiry (h : s.quotaLaw) : s.holdExpiry.quotaLaw := by
  unfold State.holdExpiry
  cases s.plant with
  | runUp | onLine | waterShort => exact (h.modBgv _).trip _
  | runDown | tripped => exact State.quotaLaw.restTest (h.frame (by simp))
  | standstill => exact h

theorem State.quotaLaw.frequencyLost (h : s.quotaLaw) : s.frequencyLost.quotaLaw := by
  have tested : (((s.modFsu fun u => { u with freqValid := false }).governorLosesFrequency).stepTest.collapseTests).quotaLaw :=
    h.frame (by simp)
  have collapsed (t : State) (ht : t.quotaLaw) :
      (if t.plant = .onLine then t.collapseFirst else t).dipTest.waterTakesFrequency.slipTest.quotaLaw :=
    (ht.collapseFirst.ite ht).dipTest.waterTakesFrequency.slipTest
  have law := collapsed _ tested
  unfold State.frequencyLost
  exact law.ite law.restTest

theorem State.quotaLaw.reject (h : s.quotaLaw) : s.reject.quotaLaw := by
  unfold State.reject
  dsimp only
  split
  · exact (h.modFsu _).frequencyLost
  · exact h.modFsu _

theorem State.quotaLaw.periodEvent (h : s.quotaLaw) (p : Nat) : (s.periodEvent p).quotaLaw := by
  have computed : (s.modFsu fun u => { u with freq := frequencyOf p, freqValid := true, rejections := 0 }).governorPeriod.quotaLaw :=
    (h.modFsu _).frame (State.governorPeriod_keeps _).1
  have stepped (t : State) (ht : t.quotaLaw) :
      (if s.fsu.freqValid then t else t.stepTest).collapseTests.dipTest.waterTakesFrequency.quotaLaw :=
    (ht.ite ht.stepTest).collapseTests.dipTest.waterTakesFrequency
  have slipped (t : State) (ht : t.quotaLaw) : (if s.fsu.freqValid then t else t.slipTest).quotaLaw :=
    ht.ite ht.slipTest
  have law := slipped _ (stepped _ computed)
  unfold State.periodEvent
  exact law.ite law.restTest

theorem State.quotaLaw.judgeCapture (h : s.quotaLaw) (c : BitVec 32) : (s.judgeCapture c).quotaLaw := by
  unfold State.judgeCapture
  split
  · exact h.modFsu _
  · dsimp only
    split
    · exact (h.modFsu _).reject
    · split
      · exact (h.modFsu _).periodEvent _
      · exact (h.modFsu _).reject

theorem State.quotaLaw.crossing (h : s.quotaLaw) (c : BitVec 32) : (s.crossing c).quotaLaw := by
  unfold State.crossing
  split
  · exact h
  · exact State.quotaLaw.judgeCapture (h.frame (by simp)) c

theorem State.quotaLaw.gapExpiry (h : s.quotaLaw) : s.gapExpiry.quotaLaw := (h.modFsu _).reject

theorem State.quotaLaw.shaftValidityChanged (h : s.quotaLaw) : s.shaftValidityChanged.quotaLaw :=
  State.quotaLaw.restTest (h.frame (by simp))

theorem State.quotaLaw.goodRevolution (h : s.quotaLaw) : s.goodRevolution.quotaLaw := by
  unfold State.goodRevolution
  dsimp only
  split
  · exact ((h.modFsu _).modFsu _).shaftValidityChanged
  · exact h.modFsu _

theorem State.quotaLaw.badRevolution (h : s.quotaLaw) : s.badRevolution.quotaLaw := by
  unfold State.badRevolution
  dsimp only
  split
  · exact (((h.modFsu _).modFsu _).latch _).shaftValidityChanged
  · exact h.modFsu _

theorem State.quotaLaw.lostIndexTest (h : s.quotaLaw) : s.lostIndexTest.quotaLaw := by
  unfold State.lostIndexTest
  split
  · dsimp only
    split
    · exact (h.modFsu _).badRevolution
    · exact h.modFsu _
  · exact h

theorem State.quotaLaw.shaftPulse (h : s.quotaLaw) (trackB : Bool) : (s.shaftPulse trackB).quotaLaw := by
  unfold State.shaftPulse
  refine State.quotaLaw.lostIndexTest ?_
  split
  · exact h.modFsu _
  · exact h.modFsu _

theorem State.quotaLaw.indexEdge (h : s.quotaLaw) : s.indexEdge.quotaLaw := by
  unfold State.indexEdge
  dsimp only
  split
  · split
    · exact (h.modFsu _).goodRevolution
    · exact (h.modFsu _).badRevolution
  · exact h.modFsu _

theorem State.quotaLaw.windowEnd (h : s.quotaLaw) : s.windowEnd.quotaLaw := by
  have stations : (((s.modFsu fun u => u.endWindow s.set).slipTest).eachStation State.stationWindow).quotaLaw :=
    State.quotaLaw.eachStation (h.frame (by simp)) fun i t ht => ht.frame (by simp)
  exact State.quotaLaw.restTest (stations.reverseTest.frame (by simp))

end Frequency

/-! ## The sequencer -/

section Sequencer

variable {s : State}

theorem State.quotaLaw.judgeVoltage (h : s.quotaLaw) (v : Int) : (s.judgeVoltage v).quotaLaw := h.frame (by simp)

theorem State.quotaLaw.raiseAlarm (h : s.quotaLaw) (c : ChannelNo) : (s.raiseAlarm c).quotaLaw := by
  have window : (s.latchWindow c).quotaLaw := h.frame (by simp)
  unfold State.raiseAlarm
  dsimp only
  split
  · exact window.trip _
  · exact window.trip _
  · exact window.latch _
  · exact window.latch _
  · exact window

theorem State.quotaLaw.watchWindow (h : s.quotaLaw) (c : ChannelNo) (v : Int) : (s.watchWindow c v).quotaLaw := by
  unfold State.watchWindow
  dsimp only
  split
  · exact State.quotaLaw.raiseAlarm (h.frame (by simp)) c
  · exact h.frame (by simp)

theorem State.quotaLaw.handOn (h : s.quotaLaw) (c : ChannelNo) (v : Int) (src : Source) :
    (s.handOn c v src).quotaLaw := by
  unfold State.handOn
  refine State.quotaLaw.waterReading ?_ c v _
  split
  · split
    · exact h.frame (by simp)
    · exact h
  · exact h.judgeVoltage v
  · exact h

theorem State.quotaLaw.takeReading (h : s.quotaLaw) (c : ChannelNo) (raw : Nat) (src : Source) :
    (s.takeReading c raw src).quotaLaw :=
  (State.quotaLaw.watchWindow (s := s.enterReading c raw _ src) (h.frame (by simp)) c _).handOn c _ src

theorem State.quotaLaw.freeConverter (h : s.quotaLaw) : s.freeConverter.quotaLaw := h.modMsq _

theorem State.quotaLaw.completeConversion (h : s.quotaLaw) (raw : BitVec 12) : (s.completeConversion raw).quotaLaw := by
  unfold State.completeConversion
  split
  · exact ((h.modMsq _).takeReading _ _ _).freeConverter
  · exact h

theorem State.quotaLaw.calibrate (h : s.quotaLaw) (raw : BitVec 12) : (s.calibrate raw).quotaLaw := by
  unfold State.calibrate
  split
  · split
    · exact ((h.modMsq _).takeReading _ _ _).freeConverter
    · split
      · exact (h.modMsq _).latch _
      · exact (h.modMsq _).latch _
  · exact h

end Sequencer
end Sys2Proof.Machine

namespace Sys2Proof.Machine

/-! ## The owners that a frame can name -/
/-- The owners a frame can name: what holds of the owner of each of the 27 kinds and of the refusal of a length holds of
the owner of every kind and payload. -/
theorem ownerOf_induction {P : Owner → Prop} (refused : P (refuse .badLength))
    (allotCreate : ∀ h1 h0 node outlet cls rank c1 c0 q1 q0 : Byte,
      P (allotCreate (half h1 h0) node outlet cls rank (half c1 c0) (half q1 q0)))
    (allotAmend : ∀ number presence h1 h0 c1 c0 q1 q0 cls rank node outlet : Byte,
      P (allotAmend number presence (half h1 h0) (half c1 c0) (half q1 q0) cls rank node outlet))
    (allotActivate : ∀ n : Byte, P (allotActivate n))
    (allotSuspend : ∀ n : Byte, P (allotSuspend n))
    (allotRetire : ∀ n : Byte, P (allotRetire n))
    (allotLookup : ∀ n : Byte, P (allotLookup n))
    (allotFind : ∀ key t1 t0 start node outlet : Byte, P (allotFind key (half t1 t0) start node outlet))
    (allotList : ∀ state start : Byte, P (allotList state start))
    (tripClear : ∀ n : Byte, P (tripClear n))
    (dayTurn : P dayTurn)
    (settingGet : ∀ id index : Byte, P (settingGet id index))
    (settingPut : ∀ (id index : Byte) (rest : List Byte), P (settingPut id index rest))
    (settingsStore : P settingsStore)
    (statusGet : ∀ ack : Byte, P (statusGet ack))
    (restart : P restart)
    (plantStart : P plantStart)
    (plantStop : P plantStop)
    (plantClear : P plantClear)
    (plantGet : P plantGet)
    (sawClear : ∀ i : Byte, P (sawClear i))
    (sawGet : P sawGet)
    (nodeGet : ∀ a : Byte, P (nodeGet a))
    (readingsGet : P readingsGet)
    (sampleNow : ∀ c : Byte, P (sampleNow c))
    (governorGet : P governorGet)
    (stageRetest : ∀ g : Byte, P (stageRetest g))
    (reserveGet : P reserveGet) (k : Kind) (payload : List Byte) :
    P (ownerOf k payload) := by
  cases k with
  | allotCreate =>
    obtain _ | ⟨h1, _ | ⟨h0, _ | ⟨node, _ | ⟨outlet, _ | ⟨cls, _ | ⟨rank, _ | ⟨c1, _ | ⟨c0, _ | ⟨q1, _ |
      ⟨q0, _ | ⟨more, rest⟩⟩⟩⟩⟩⟩⟩⟩⟩⟩⟩ := payload
    case cons.cons.cons.cons.cons.cons.cons.cons.cons.cons.nil =>
      exact allotCreate h1 h0 node outlet cls rank c1 c0 q1 q0
    all_goals exact refused
  | allotAmend =>
    obtain _ | ⟨number, _ | ⟨presence, _ | ⟨h1, _ | ⟨h0, _ | ⟨c1, _ | ⟨c0, _ | ⟨q1, _ | ⟨q0, _ | ⟨cls, _ |
      ⟨rank, _ | ⟨node, _ | ⟨outlet, _ | ⟨more, rest⟩⟩⟩⟩⟩⟩⟩⟩⟩⟩⟩⟩⟩ := payload
    case cons.cons.cons.cons.cons.cons.cons.cons.cons.cons.cons.cons.nil =>
      exact allotAmend number presence h1 h0 c1 c0 q1 q0 cls rank node outlet
    all_goals exact refused
  | allotActivate =>
    obtain _ | ⟨n, _ | ⟨more, rest⟩⟩ := payload
    case cons.nil => exact allotActivate n
    all_goals exact refused
  | allotSuspend =>
    obtain _ | ⟨n, _ | ⟨more, rest⟩⟩ := payload
    case cons.nil => exact allotSuspend n
    all_goals exact refused
  | allotRetire =>
    obtain _ | ⟨n, _ | ⟨more, rest⟩⟩ := payload
    case cons.nil => exact allotRetire n
    all_goals exact refused
  | allotLookup =>
    obtain _ | ⟨n, _ | ⟨more, rest⟩⟩ := payload
    case cons.nil => exact allotLookup n
    all_goals exact refused
  | allotFind =>
    obtain _ | ⟨key, _ | ⟨t1, _ | ⟨t0, _ | ⟨start, _ | ⟨node, _ | ⟨outlet, _ | ⟨more, rest⟩⟩⟩⟩⟩⟩⟩ := payload
    case cons.cons.cons.cons.cons.cons.nil => exact allotFind key t1 t0 start node outlet
    all_goals exact refused
  | allotList =>
    obtain _ | ⟨state, _ | ⟨start, _ | ⟨more, rest⟩⟩⟩ := payload
    case cons.cons.nil => exact allotList state start
    all_goals exact refused
  | tripClear =>
    obtain _ | ⟨n, _ | ⟨more, rest⟩⟩ := payload
    case cons.nil => exact tripClear n
    all_goals exact refused
  | dayTurn =>
    cases payload with
    | nil => exact dayTurn
    | cons _ _ => exact refused
  | settingGet =>
    obtain _ | ⟨id, _ | ⟨index, _ | ⟨more, rest⟩⟩⟩ := payload
    case cons.cons.nil => exact settingGet id index
    all_goals exact refused
  | settingPut =>
    obtain _ | ⟨id, _ | ⟨index, rest⟩⟩ := payload
    case cons.cons => exact settingPut id index rest
    all_goals exact refused
  | settingsStore =>
    cases payload with
    | nil => exact settingsStore
    | cons _ _ => exact refused
  | statusGet =>
    obtain _ | ⟨ack, _ | ⟨more, rest⟩⟩ := payload
    case cons.nil => exact statusGet ack
    all_goals exact refused
  | restart =>
    cases payload with
    | nil => exact restart
    | cons _ _ => exact refused
  | plantStart =>
    cases payload with
    | nil => exact plantStart
    | cons _ _ => exact refused
  | plantStop =>
    cases payload with
    | nil => exact plantStop
    | cons _ _ => exact refused
  | plantClear =>
    cases payload with
    | nil => exact plantClear
    | cons _ _ => exact refused
  | plantGet =>
    cases payload with
    | nil => exact plantGet
    | cons _ _ => exact refused
  | sawClear =>
    obtain _ | ⟨i, _ | ⟨more, rest⟩⟩ := payload
    case cons.nil => exact sawClear i
    all_goals exact refused
  | sawGet =>
    cases payload with
    | nil => exact sawGet
    | cons _ _ => exact refused
  | nodeGet =>
    obtain _ | ⟨a, _ | ⟨more, rest⟩⟩ := payload
    case cons.nil => exact nodeGet a
    all_goals exact refused
  | readingsGet =>
    cases payload with
    | nil => exact readingsGet
    | cons _ _ => exact refused
  | sampleNow =>
    obtain _ | ⟨c, _ | ⟨more, rest⟩⟩ := payload
    case cons.nil => exact sampleNow c
    all_goals exact refused
  | governorGet =>
    cases payload with
    | nil => exact governorGet
    | cons _ _ => exact refused
  | stageRetest =>
    obtain _ | ⟨g, _ | ⟨more, rest⟩⟩ := payload
    case cons.nil => exact stageRetest g
    all_goals exact refused
  | reserveGet =>
    cases payload with
    | nil => exact reserveGet
    | cons _ _ => exact refused

/-! ## The other requests -/

section OtherRequests

theorem keepsQuotaLaw_plantStart : plantStart.keepsQuotaLaw := fun s h => by
  unfold plantStart
  split
  · exact h.enterRunUp
  · exact h

theorem keepsQuotaLaw_plantStop : plantStop.keepsQuotaLaw := fun s h => by
  unfold plantStop
  cases s.plant with
  | runUp | onLine | waterShort => exact h.runDown
  | runDown | standstill | tripped => exact h

theorem keepsQuotaLaw_plantClear : plantClear.keepsQuotaLaw := fun s h => by
  unfold plantClear
  split
  · exact h.clearTrip
  · exact h

theorem keepsQuotaLaw_sawClear (station : Byte) : (sawClear station).keepsQuotaLaw := fun s h => by
  unfold sawClear
  split
  · exact h
  · split
    · exact State.quotaLaw.modPlantRecord (h.frame (by simp)) _
    · exact h

theorem keepsQuotaLaw_nodeGet (node : Byte) : (nodeGet node).keepsQuotaLaw := fun s h => by
  unfold nodeGet
  split
  · exact h
  · exact (h.foldl (fun t o ht => ht.readBinding o) (outletsOf _)).modFcl _

theorem keepsQuotaLaw_readingsGet : readingsGet.keepsQuotaLaw := fun _ h =>
  State.quotaLaw.ite (h.of_slots rfl) h

theorem keepsQuotaLaw_sampleNow (channel : Byte) : (sampleNow channel).keepsQuotaLaw := fun s h => by
  unfold sampleNow
  split
  · exact h
  · cases s.msq.state with
    | calibrating | failed => exact h
    | running =>
      dsimp only
      split
      · exact h
      · exact h.frame (by simp)

theorem keepsQuotaLaw_stageRetest (stage : Byte) : (stageRetest stage).keepsQuotaLaw := fun s h => by
  unfold stageRetest
  split
  · exact h
  · split
    · exact h.modBgv _
    · exact h

theorem keepsQuotaLaw_reserveGet : reserveGet.keepsQuotaLaw := fun _ h => by
  dsimp only [reserveGet]
  exact h.readForList

variable {s : State}

theorem State.quotaLaw.settingChanged (h : s.quotaLaw) (c : Cell) : (s.settingChanged c).quotaLaw := by
  unfold State.settingChanged
  split
  · exact (h.changeTarget _).ite h
  · exact (h.modFsu _).modFsu _
  · exact h.modFsu _
  · exact h.modFsu _
  · exact h.modMsq _
  · exact h.modMsq _
  · exact h.modMsq _
  · exact h

theorem State.quotaLaw.writeCell (h : s.quotaLaw) (c : Cell) (v : Int) : (s.writeCell c v).quotaLaw :=
  (h.modSvl _).ite ((h.modSvl _).settingChanged c)

theorem State.quotaLaw.writeRoutine (h : s.quotaLaw) (l : List ChannelNo) : (s.writeRoutine l).quotaLaw :=
  (h.modSvl _).ite ((h.modSvl _).modMsq _)

theorem keepsQuotaLaw_putCell (c : Cell) (v : Int) : (putCell c v).keepsQuotaLaw := fun s h => by
  unfold putCell
  (repeat' split)
  case isFalse => exact h.writeCell c v
  all_goals exact h

theorem keepsQuotaLaw_putRoutine (entries : List Byte) : (putRoutine entries).keepsQuotaLaw := fun s h => by
  unfold putRoutine
  split
  · exact h
  · split
    · split
      · exact h.writeRoutine _
      · exact h
    · exact h

theorem keepsQuotaLaw_settingGet (id index : Byte) : (settingGet id index).keepsQuotaLaw := fun s h => by
  unfold settingGet
  (repeat' split) <;> exact h

theorem keepsQuotaLaw_settingPut (id index : Byte) (rest : List Byte) :
    (settingPut id index rest).keepsQuotaLaw := by
  unfold settingPut
  split
  · split
    · split
      · exact keepsQuotaLaw_putRoutine _
      · exact keepsQuotaLaw_refuse _
    · exact keepsQuotaLaw_refuse _
  · split
    · exact keepsQuotaLaw_putCell _ _
    · exact keepsQuotaLaw_refuse _

theorem keepsQuotaLaw_settingsStore : settingsStore.keepsQuotaLaw := fun s h => by
  unfold settingsStore
  split
  · exact h.modSvl _
  · exact h

theorem keepsQuotaLaw_statusGet (acknowledge : Byte) : (statusGet acknowledge).keepsQuotaLaw := fun s h => by
  unfold statusGet
  split
  · exact h
  · exact h.modSvl _
  · exact h

theorem keepsQuotaLaw_restart : restart.keepsQuotaLaw := fun _ h => h.modSvl _

/-- An owner that leaves the state as it is. -/
theorem keepsQuotaLaw_of_same {owner : Owner} (e : ∀ s, (owner s).1 = s) : owner.keepsQuotaLaw := fun s h =>
  h.of_slots (by rw [e s])

/-- Every owner of a request that a frame can name keeps the law. -/
theorem keepsQuotaLaw_ownerOf (k : Kind) (payload : List Byte) : (ownerOf k payload).keepsQuotaLaw :=
  ownerOf_induction (P := Owner.keepsQuotaLaw)
    (refused := keepsQuotaLaw_refuse _)
    (allotCreate := fun h1 h0 node outlet cls rank c1 c0 q1 q0 =>
      keepsQuotaLaw_allotCreate (half h1 h0) node outlet cls rank (half c1 c0) (half q1 q0))
    (allotAmend := fun number presence h1 h0 c1 c0 q1 q0 cls rank node outlet =>
      keepsQuotaLaw_allotAmend number presence (half h1 h0) (half c1 c0) (half q1 q0) cls rank node outlet)
    (allotActivate := keepsQuotaLaw_allotActivate)
    (allotSuspend := keepsQuotaLaw_allotSuspend)
    (allotRetire := keepsQuotaLaw_allotRetire)
    (allotLookup := keepsQuotaLaw_allotLookup)
    (allotFind := fun key t1 t0 start node outlet => keepsQuotaLaw_allotFind key (half t1 t0) start node outlet)
    (allotList := keepsQuotaLaw_allotList)
    (tripClear := keepsQuotaLaw_tripClear)
    (dayTurn := keepsQuotaLaw_dayTurn)
    (settingGet := keepsQuotaLaw_settingGet)
    (settingPut := keepsQuotaLaw_settingPut)
    (settingsStore := keepsQuotaLaw_settingsStore)
    (statusGet := keepsQuotaLaw_statusGet)
    (restart := keepsQuotaLaw_restart)
    (plantStart := keepsQuotaLaw_plantStart)
    (plantStop := keepsQuotaLaw_plantStop)
    (plantClear := keepsQuotaLaw_plantClear)
    (plantGet := keepsQuotaLaw_of_same fun _ => rfl)
    (sawClear := keepsQuotaLaw_sawClear)
    (sawGet := keepsQuotaLaw_of_same fun _ => rfl)
    (nodeGet := keepsQuotaLaw_nodeGet)
    (readingsGet := keepsQuotaLaw_readingsGet)
    (sampleNow := keepsQuotaLaw_sampleNow)
    (governorGet := keepsQuotaLaw_of_same fun _ => rfl)
    (stageRetest := keepsQuotaLaw_stageRetest)
    (reserveGet := keepsQuotaLaw_reserveGet) k payload

theorem keepsQuotaLaw_dispatch (kind : Byte) (payload : List Byte) : (dispatch kind payload).keepsQuotaLaw := by
  unfold dispatch
  split
  · exact keepsQuotaLaw_refuse _
  · split
    · exact keepsQuotaLaw_ownerOf _ _
    · exact keepsQuotaLaw_refuse _

theorem State.quotaLaw.serve (h : s.quotaLaw) (kind : Byte) {owner : Owner} (ho : owner.keepsQuotaLaw) :
    (s.serve kind owner).quotaLaw := by
  unfold State.serve
  split
  · exact h
  · split
    · exact h.modSvl _
    · exact ((ho s h).modSvl _).settle

end OtherRequests

/-! ## Resets and time -/

section Resets

variable {s : State}

theorem State.quotaLaw.useDefaults (h : s.quotaLaw) : s.useDefaults.quotaLaw := (h.modSvl _).latch _

theorem State.quotaLaw.modPage (h : s.quotaLaw) (f : Nva → List Byte) :
    (s.modNva fun v => { v with page := f v }).quotaLaw := h.of_slots rfl

theorem State.quotaLaw.loadPage (h : s.quotaLaw) : s.loadPage.quotaLaw := by
  unfold State.loadPage
  split
  · split
    · exact h.modSvl _
    · exact h.useDefaults
  · dsimp only
    split
    · exact State.quotaLaw.latch ((h.modSvl _).modPage _) _
    · exact h.useDefaults
  · exact h.useDefaults

theorem State.quotaLaw.loadPlantRecord (h : s.quotaLaw) : s.loadPlantRecord.quotaLaw := by
  unfold State.loadPlantRecord
  split
  · exact h
  · exact (h.modPlantRecord _).latch _
  · exact (h.modPlantRecord _).latch _

theorem State.quotaLaw.resetStaged (h : s.quotaLaw) (n : RecNo) : (s.resetStaged n).quotaLaw := by
  unfold State.resetStaged
  split
  · split
    · exact h.modTerms_same n _ rfl rfl
    · exact h.modTerms_same n _ rfl rfl
  · exact h

theorem State.quotaLaw.resetState (h : s.quotaLaw) (n : RecNo) : (s.resetState n).quotaLaw := by
  have dark : (if s.quotaSpent n then s.modTerms n fun x => { x with state := .quotaOut }
      else (s.modTerms n fun x => { x with state := .shed }).modAccount n fun a =>
        { a with cause := some .plant }).quotaLaw := by
    split
    case isTrue => exact h.modTerms n _ (Slot.keepsQuota_of_idle (h n).1 (by simp) (by simp) (by simp))
    case isFalse unspent =>
      have shed : (s.modTerms n fun x => { x with state := .shed }).quotaLaw :=
        h.modTerms n _ (Slot.keepsQuota_of_unspent (h n).1 (Bool.eq_false_of_not_eq_true unspent))
      exact shed.modAccount_same n _ rfl
  unfold State.resetState
  cases s.recState n with
  | live | restoring => exact dark
  | retiring => exact h.vacate n
  | vacant | dormant | shed | tripped | quotaOut | suspect => exact h

theorem State.quotaLaw.resetRecord (h : s.quotaLaw) (n : RecNo) : (s.resetRecord n).quotaLaw :=
  ((h.resetStaged n).resetState n).modWork n _

@[simp] theorem State.nva_resetBlocks (s : State) : s.resetBlocks.nva = s.nva := rfl

theorem State.quotaLaw.resetAll (h : s.quotaLaw) : s.resetAll.quotaLaw := by
  have cut : s.cutStore.quotaLaw := h.ite (h.of_slots rfl)
  have blocks : (s.cutStore.modSvl Svl.reset).loadPage.loadPlantRecord.resetBlocks.quotaLaw :=
    (cut.modSvl _).loadPage.loadPlantRecord.frame (State.nva_resetBlocks _)
  have scanned (t : State) (ht : t.quotaLaw) : (t.startUpScan.eachRecord State.resetRecord).quotaLaw := by
    unfold State.startUpScan
    exact (ht.readEach _).eachRecord fun n t ht => ht.resetRecord n
  unfold State.resetAll
  exact (scanned _ blocks).modRsv _

theorem State.quotaLaw.advance (h : s.quotaLaw) (k : Nat) : (s.advance k).quotaLaw := h.of_slots rfl

end Resets

/-! ## The Service Link -/

section Link

variable {s : State}

theorem State.quotaLaw.frameComplete (h : s.quotaLaw) (bytes : List Byte) : (s.frameComplete bytes).quotaLaw := by
  unfold State.frameComplete
  dsimp only
  split
  · exact (h.serve _ (keepsQuotaLaw_dispatch _ _)).ite h
  · exact h

theorem State.quotaLaw.collect (h : s.quotaLaw) (b : Byte) : (s.collect b).quotaLaw := by
  unfold State.collect
  split
  · exact (h.modSvl _).ite (h.modSvl _)
  · exact (State.quotaLaw.frameComplete (h.modSvl _) _).ite (h.modSvl _)

theorem State.quotaLaw.linkByte (h : s.quotaLaw) (b : Byte) (stopOk : Bool) : (s.linkByte b stopOk).quotaLaw := by
  unfold State.linkByte
  split
  · exact (h.modSvl _).ite h
  · exact (h.collect b).ite (h.modSvl _)

theorem State.quotaLaw.replyEnds (h : s.quotaLaw) : s.replyEnds.quotaLaw :=
  ((h.modSvl _).resetAll.ite (h.modSvl _)).ite ((h.modSvl _).modSvl _)

theorem State.quotaLaw.storeEnds (h : s.quotaLaw) (fixed : Settings) : (s.storeEnds fixed).quotaLaw := by
  have stored : (s.storeComplete fixed).quotaLaw := (h.modPage _).modSvl _
  exact stored.resetAll.ite stored

end Link

/-! ## Every command -/

section Commands

variable {s : State}

/-- What a command may do to the law: whatever state it leaves has the law. -/
def leavesQuotaLaw (r : Host.Outcome State Fault Refusal) : Prop := ∀ t, r = .next t → t.quotaLaw

theorem leavesQuotaLaw_next {t : State} (h : t.quotaLaw) : leavesQuotaLaw (.next t) := by
  rintro _ ⟨⟩
  exact h

theorem State.quotaLaw.unlessHeld (h : s.quotaLaw) {f : State → State} (hf : (f s).quotaLaw) :
    leavesQuotaLaw (unlessHeld f s) := leavesQuotaLaw_next (h.ite hf)

theorem State.quotaLaw.request (h : s.quotaLaw) (k : Kind) {owner : Owner} (ho : owner.keepsQuotaLaw) :
    leavesQuotaLaw (request k owner s) := h.unlessHeld (h.serve _ ho)

theorem keepsQuotaLaw_settingPutChecked (id index : Byte) (rest : List Byte) :
    (settingPutChecked id index rest).keepsQuotaLaw := by
  unfold settingPutChecked
  split
  · exact keepsQuotaLaw_settingPut _ _ _
  · exact keepsQuotaLaw_refuse _

theorem State.quotaLaw.storeCompletion (h : s.quotaLaw) : leavesQuotaLaw (execSettingsStoreComplete s) := by
  refine h.unlessHeld ?_
  split
  · exact h.storeEnds _
  · exact h

theorem State.quotaLaw.turnaroundEnd (h : s.quotaLaw) : leavesQuotaLaw (execLineTurnaroundEnd s) := by
  refine h.unlessHeld ?_
  split
  · exact h.modFcl _
  · exact h

theorem State.quotaLaw.frameSent (h : s.quotaLaw) : leavesQuotaLaw (execFrameSent s) := by
  refine h.unlessHeld ?_
  split
  · exact h.modFcl _
  · exact h

theorem State.quotaLaw.replyBegins (h : s.quotaLaw) : leavesQuotaLaw (execReplyBegins s) := by
  refine h.unlessHeld ?_
  split
  · exact h.modFcl _
  · exact h

theorem State.quotaLaw.windowExpiry (h : s.quotaLaw) : leavesQuotaLaw (execReplyWindowExpiry s) := by
  refine h.unlessHeld ?_
  split
  · exact h.nextFrame.settle
  · exact h

theorem State.quotaLaw.replyReceived (h : s.quotaLaw) (chars : List LineChar) :
    leavesQuotaLaw (execReplyReceived chars s) := by
  refine h.unlessHeld ?_
  split
  · exact (h.receiveReply _ _ _).endSlot.settle
  · exact h

theorem State.quotaLaw.receptionTimeout (h : s.quotaLaw) : leavesQuotaLaw (execReceptionTimeout s) := by
  refine h.unlessHeld ?_
  split
  · exact (h.modFcl _).endSlot.settle
  · exact h

theorem State.quotaLaw.setHeld (h : s.quotaLaw) (b : Bool) : ({ s with held := b } : State).quotaLaw := h.of_slots rfl

theorem State.quotaLaw.startUp (h : s.quotaLaw) : s.startUp.quotaLaw := ((h.modSvl _).latch _).modFcl _

theorem State.quotaLaw.clearRecent (h : s.quotaLaw) (n : RecNo) :
    (s.modAccount n fun a => { a with recent := 0 }).quotaLaw := h.modAccount_same n _ rfl

theorem State.quotaLaw.stepExpiry (h : s.quotaLaw) : s.stepExpiry.quotaLaw := by
  unfold State.stepExpiry
  exact h.takeStep.modSld _

theorem State.quotaLaw.jamExpiry (h : s.quotaLaw) (i : StationNo) : (s.jamExpiry i).quotaLaw :=
  State.quotaLaw.modPlantRecord (h.frame (by simp)) _

/-- Every command keeps the quota law, whatever it carries. -/
theorem State.quotaLaw.exec (h : s.quotaLaw) (i : Instr) : leavesQuotaLaw (exec i s) := by
  cases i with
  | allotCreate => exact h.request _ (keepsQuotaLaw_allotCreate _ _ _ _ _ _ _)
  | allotAmend => exact h.request _ (keepsQuotaLaw_allotAmend _ _ _ _ _ _ _ _ _)
  | allotActivate => exact h.request _ (keepsQuotaLaw_allotActivate _)
  | allotSuspend => exact h.request _ (keepsQuotaLaw_allotSuspend _)
  | allotRetire => exact h.request _ (keepsQuotaLaw_allotRetire _)
  | allotLookup => exact h.request _ (keepsQuotaLaw_allotLookup _)
  | allotFind => exact h.request _ (keepsQuotaLaw_allotFind _ _ _ _ _)
  | allotList => exact h.request _ (keepsQuotaLaw_allotList _ _)
  | tripClear => exact h.request _ (keepsQuotaLaw_tripClear _)
  | dayTurn => exact h.request _ keepsQuotaLaw_dayTurn
  | plantStart => exact h.request _ keepsQuotaLaw_plantStart
  | plantStop => exact h.request _ keepsQuotaLaw_plantStop
  | plantClear => exact h.request _ keepsQuotaLaw_plantClear
  | plantGet => exact h.request _ (keepsQuotaLaw_of_same fun _ => rfl)
  | sawClear => exact h.request _ (keepsQuotaLaw_sawClear _)
  | sawGet => exact h.request _ (keepsQuotaLaw_of_same fun _ => rfl)
  | nodeGet => exact h.request _ (keepsQuotaLaw_nodeGet _)
  | readingsGet => exact h.request _ keepsQuotaLaw_readingsGet
  | sampleNow => exact h.request _ (keepsQuotaLaw_sampleNow _)
  | governorGet => exact h.request _ (keepsQuotaLaw_of_same fun _ => rfl)
  | stageRetest => exact h.request _ (keepsQuotaLaw_stageRetest _)
  | reserveGet => exact h.request _ keepsQuotaLaw_reserveGet
  | settingGet => exact h.request _ (keepsQuotaLaw_settingGet _ _)
  | settingPut => exact h.request _ (keepsQuotaLaw_settingPutChecked _ _ _)
  | settingsStore => exact h.request _ keepsQuotaLaw_settingsStore
  | statusGet => exact h.request _ (keepsQuotaLaw_statusGet _)
  | restart => exact h.request _ keepsQuotaLaw_restart
  | serviceLinkByte b stopOk =>
    refine h.unlessHeld ?_
    exact h.linkByte b stopOk
  | serviceGapTimerExpiry =>
    refine h.unlessHeld ?_
    exact State.quotaLaw.ite (h.modSvl _) h
  | replySent =>
    refine h.unlessHeld ?_
    exact h.replyEnds.ite h
  | settingsStoreComplete => exact h.storeCompletion
  | powerOnReset => exact leavesQuotaLaw_next h.resetAll
  | pinReset => exact leavesQuotaLaw_next (h.setHeld false).resetAll
  | startUpComplete =>
    unfold Machine.exec execStartUpComplete
    refine h.unlessHeld ?_
    exact h.ite h.startUp
  | roundTimerExpiry =>
    refine h.unlessHeld ?_
    exact State.quotaLaw.ite (h.roundExpiry.settle) h
  | lineTurnaroundEnd => exact h.turnaroundEnd
  | frameSent => exact h.frameSent
  | replyBegins => exact h.replyBegins
  | replyWindowExpiry => exact h.windowExpiry
  | replyReceived => exact h.replyReceived _
  | receptionTimeout => exact h.receptionTimeout
  | crossingEdge =>
    unfold Machine.exec execCrossingEdge
    refine h.unlessHeld ?_
    exact ((h.advance _).crossing _).settle
  | gapTimerExpiry =>
    refine h.unlessHeld ?_
    exact State.quotaLaw.ite (h.gapExpiry.settle) h
  | holdTimerExpiry =>
    refine h.unlessHeld ?_
    exact State.quotaLaw.ite (h.holdExpiry.settle) h
  | shaftPulse =>
    unfold Machine.exec execShaftPulse
    refine h.unlessHeld ?_
    exact (h.shaftPulse _).settle
  | indexEdge =>
    unfold Machine.exec execIndexEdge
    refine h.unlessHeld ?_
    exact h.indexEdge.settle
  | arborPulse =>
    refine h.unlessHeld ?_
    exact h.modFsu _
  | speedWindowEnd =>
    refine h.unlessHeld ?_
    exact State.quotaLaw.ite (h.windowEnd.settle) h
  | slipTimerExpiry =>
    refine h.unlessHeld ?_
    exact State.quotaLaw.ite ((h.modFsu _).latch _) h
  | stepTimerExpiry =>
    refine h.unlessHeld ?_
    exact State.quotaLaw.ite h.stepExpiry.settle h
  | stepPauseExpiry =>
    refine h.unlessHeld ?_
    exact State.quotaLaw.ite (State.quotaLaw.settle (h.modSld _).promptEvaluation) h
  | firstCollapseTimerExpiry =>
    refine h.unlessHeld ?_
    exact State.quotaLaw.ite (State.quotaLaw.settle (h.collapseFirst.modSld _)) h
  | secondCollapseTimerExpiry =>
    refine h.unlessHeld ?_
    exact State.quotaLaw.ite (State.quotaLaw.settle (h.collapseSecond.modSld _)) h
  | holdoffExpiry =>
    refine h.unlessHeld ?_
    exact State.quotaLaw.ite (State.quotaLaw.settle (h.modWork _ _).promptEvaluation) h
  | liveTimerFull =>
    refine h.unlessHeld ?_
    exact (State.quotaLaw.clearRecent (h.modWork _ _) _).ite h
  | cooloffExpiry =>
    refine h.unlessHeld ?_
    exact (h.modWork _ _).ite h
  | inputLevelChange => exact leavesQuotaLaw_next (State.quotaLaw.ite (h.frame (by simp)) (h.frame (by simp)))
  | inputFilterExpiry =>
    refine h.unlessHeld ?_
    exact State.quotaLaw.ite (State.quotaLaw.settle (h.frame (by simp))) h
  | waitTimerExpiry =>
    refine h.unlessHeld ?_
    exact State.quotaLaw.ite (State.quotaLaw.settle (h.frame (by simp))) h
  | engageTimerExpiry =>
    refine h.unlessHeld ?_
    exact State.quotaLaw.ite (State.quotaLaw.settle (h.frame (by simp))) h
  | dipTimerExpiry =>
    refine h.unlessHeld ?_
    exact State.quotaLaw.ite (State.quotaLaw.settle (h.frame (by simp))) h
  | jamTimerExpiry station =>
    refine h.unlessHeld ?_
    exact State.quotaLaw.ite (State.quotaLaw.settle (h.jamExpiry station)) h
  | refusalShowExpiry =>
    refine h.unlessHeld ?_
    exact h.modSpu _
  | conversionComplete =>
    unfold Machine.exec execConversionComplete
    refine h.unlessHeld ?_
    exact (h.completeConversion _).settle
  | scanTimerExpiry =>
    refine h.unlessHeld ?_
    exact State.quotaLaw.ite (h.modMsq _) h
  | freshnessTimerExpiry =>
    refine h.unlessHeld ?_
    exact State.quotaLaw.ite (h.frame (by simp)) h
  | calibrationComplete =>
    unfold Machine.exec execCalibrationComplete
    refine h.unlessHeld ?_
    exact (h.calibrate _).settle
  | synchronisingTimerExpiry =>
    refine h.unlessHeld ?_
    exact State.quotaLaw.ite (h.goOnLine.settle) h
  | runupTimerExpiry =>
    refine h.unlessHeld ?_
    exact State.quotaLaw.ite (State.quotaLaw.settle ((h.modWgc _).trip _)) h
  | shortTimerExpiry =>
    refine h.unlessHeld ?_
    exact State.quotaLaw.ite (h.enterWaterShort.settle) h
  | recoveryTimerExpiry =>
    refine h.unlessHeld ?_
    exact State.quotaLaw.ite (h.leaveWaterShort.settle) h
  | levelTimerExpiry =>
    refine h.unlessHeld ?_
    exact State.quotaLaw.ite (h.modWgc _) h
  | levelLostTimerExpiry =>
    refine h.unlessHeld ?_
    exact State.quotaLaw.ite (h.levelLostExpiry.settle) h
  | frequencyOverspeedExpiry =>
    refine h.unlessHeld ?_
    exact State.quotaLaw.ite (State.quotaLaw.settle ((h.modWgc _).trip _)) h
  | shaftOverspeedExpiry =>
    refine h.unlessHeld ?_
    exact State.quotaLaw.ite (State.quotaLaw.settle ((h.modWgc _).trip _)) h
  | gateTimeoutExpiry =>
    refine h.unlessHeld ?_
    exact State.quotaLaw.ite (h.gateTimeout.settle) h
  | gateStepPulse =>
    refine h.unlessHeld ?_
    exact State.quotaLaw.ite (h.modWgc _) h
  | resetPinAsserted => exact leavesQuotaLaw_next (h.setHeld true)

theorem State.quotaLaw.step (h : s.quotaLaw) : leavesQuotaLaw (Machine.step s) := by
  unfold Machine.step
  split
  · exact leavesQuotaLaw_next (h.ite (h.advance 1))
  next c rest _ =>
    have taken : ({ s with pending := rest } : State).quotaLaw := h.of_slots rfl
    exact taken.exec c

end Commands
/-- Settles O57: every owner, event, reset and evaluation keeps the law of each record. -/
theorem quotaLawIsKept : Obligations.QuotaLawIsKept := fun _ t h e => h.step t e

end Sys2Proof.Machine

namespace Sys2Proof.Machine

/-! ## The timers of a record -/

section RecordTimers

variable {s : State} {n : RecNo}

theorem unlessHeld_of_released (f : State → State) (h : s.held = false) : unlessHeld f s = .next (f s) := by
  simp [unlessHeld, h]

theorem exec_holdoffExpiry (h : s.held = false) (shed : s.recState n = .shed) (runs : (s.work n).holdoff ≠ 0) :
    exec (.holdoffExpiry n) s =
      .next ((s.modWork n fun w => { w with holdoff := 0, holdoffFrac := 0 }).promptEvaluation).settle :=
  (unlessHeld_of_released _ h).trans (congrArg _ (if_pos ⟨shed, runs⟩))

theorem exec_liveTimerFull (h : s.held = false) (live : s.recState n = .live) (runs : (s.work n).liveTimer < 300) :
    exec (.liveTimerFull n) s = .next ((s.modWork n fun w => { w with liveTimer := 300, liveFrac := 0 }).modAccount n
      fun a => { a with recent := 0 }) :=
  (unlessHeld_of_released _ h).trans (congrArg _ (if_pos ⟨live, runs⟩))

theorem exec_liveTimerFull_of_full (h : s.held = false) (full : 300 ≤ (s.work n).liveTimer) :
    exec (.liveTimerFull n) s = .next s :=
  (unlessHeld_of_released _ h).trans (congrArg _ (if_neg fun runs => by omega))

theorem exec_cooloffExpiry (h : s.held = false) (tripped : s.recState n = .tripped) :
    exec (.cooloffExpiry n) s = .next (s.modWork n fun w => { w with cooloff := 0, cooloffFrac := 0 }) :=
  (unlessHeld_of_released _ h).trans (congrArg _ (if_pos tripped))

end RecordTimers

/-- Settles O46: each expiry acts on its record in the state whose timer runs. -/
theorem recordTimersEnd : Obligations.RecordTimersEnd := fun _ _ released =>
  ⟨exec_holdoffExpiry released, exec_liveTimerFull released, fun _ => exec_liveTimerFull_of_full released,
    exec_cooloffExpiry released⟩

end Sys2Proof.Machine

namespace Sys2Proof.Machine

/-! ## A request that is served -/

section Served

variable {s t : State}

theorem State.settle_of_calm (h : s.calm) : s.settle = s := by
  unfold State.settle State.settleWith
  rw [if_neg (by simp [h])]

theorem State.calm_answer (k : Byte) (a : Answer) : (s.answer k a).calm ↔ s.calm := Iff.rfl

/-- A request served: its owner's answer goes out, and the evaluations it calls for follow. -/
theorem request_of_ready (k : Kind) {owner : Owner} {a : Answer} (h : s.ready) (e : owner s = (t, a)) :
    request k owner s = .next (t.answer k.code a).settle := by
  obtain ⟨released, started, free⟩ := h
  rw [request, unlessHeld_of_released _ released, State.serve, free, started, e]
  rfl

/-- A request that calls for no evaluation. -/
theorem request_of_calm (k : Kind) {owner : Owner} {a : Answer} (h : s.ready) (e : owner s = (t, a)) (calm : t.calm) :
    request k owner s = .next (t.answer k.code a) := by
  rw [request_of_ready k h e, State.settle_of_calm ((State.calm_answer _ _).2 calm)]

end Served

/-! ## The number check (R6) -/

section Number

variable {s : State} {b : Byte} {n : RecNo}

theorem indexFrom1_of_eq {k v : Nat} {i : Fin k} (h : v = i.val + 1) : indexFrom1 k v = some i := by
  subst h
  simp [indexFrom1]

theorem indexFrom1_eq_none {k v : Nat} (h : v = 0 ∨ k < v) : indexFrom1 k v = none := dif_neg (by omega)

theorem onRecord_out_of_range (act : RecNo → Owner) (h : b.toNat = 0 ∨ 64 < b.toNat) :
    onRecord b act s = (s, .of .badField) := by
  rw [onRecord, recordNumber, indexFrom1_eq_none h]

theorem onRecord_of_number (act : RecNo → Owner) (h : b.toNat = n.val + 1) :
    onRecord b act s =
      if (s.readRecord n).recState n = .vacant then (s.readRecord n, .of .noRecord) else act n (s.readRecord n) := by
  rw [onRecord, recordNumber, indexFrom1_of_eq h]

theorem onRecord_vacant (act : RecNo → Owner) (h : b.toNat = n.val + 1) (reads : s.reads n)
    (vacant : s.recState n = .vacant) : onRecord b act s = (s, .of .noRecord) := by
  rw [onRecord_of_number act h, State.readRecord_of_reads reads, if_pos vacant]

theorem onRecord_of_reads (act : RecNo → Owner) (h : b.toNat = n.val + 1) (reads : s.reads n)
    (taken : s.recState n ≠ .vacant) : onRecord b act s = act n s := by
  rw [onRecord_of_number act h, State.readRecord_of_reads reads, if_neg taken]

end Number

/-! ## The frame of a change of records

A change of records touches the record array and the map, the working fields, the outlets' orders, the reservations and
the restoration watch. -/

section Frame

variable {s t u : State}

/-- All but the blocks that a change of records touches is as it was. -/
def State.RecordFrame (s t : State) : Prop :=
  ∃ slots map atb outlets table due watch, t = { s with
    nva := { s.nva with slots := slots, map := map }
    atb := atb
    fcl := { s.fcl with outlets := outlets }
    rsv := { s.rsv with table := table, due := due }
    sld := { s.sld with watch := watch } }

namespace State.RecordFrame

theorem refl (s : State) : RecordFrame s s := ⟨_, _, _, _, _, _, _, rfl⟩

theorem trans (h : RecordFrame s t) (h' : RecordFrame t u) : RecordFrame s u := by
  obtain ⟨_, _, _, _, _, _, _, rfl⟩ := h
  obtain ⟨_, _, _, _, _, _, _, rfl⟩ := h'
  exact ⟨_, _, _, _, _, _, _, rfl⟩

theorem of_ite {c : Prop} [Decidable c] (h : c → RecordFrame s t) (h' : ¬ c → RecordFrame s u) :
    RecordFrame s (if c then t else u) := by
  split
  · exact h ‹_›
  · exact h' ‹_›

/-- The frame as an equation. -/
theorem eq (h : RecordFrame s t) : t = { s with
    nva := { s.nva with slots := t.nva.slots, map := t.nva.map }, atb := t.atb, rsv := t.rsv, sld := t.sld,
    fcl := { s.fcl with outlets := t.fcl.outlets } } := by
  obtain ⟨_, _, _, _, _, _, _, rfl⟩ := h
  rfl

/-- The frame of a change that leaves the map as it is. -/
theorem eq_of_map (h : RecordFrame s t) (map : t.nva.map = s.nva.map) : t = { s with
    nva := { s.nva with slots := t.nva.slots }, atb := t.atb, rsv := t.rsv, sld := t.sld,
    fcl := { s.fcl with outlets := t.fcl.outlets } } := by
  obtain ⟨_, _, _, _, _, _, _, rfl⟩ := h
  subst map
  rfl

/-- The frame of a change that leaves the map, the reservations and the restoration watch as they are. -/
theorem eq_of_tables (h : RecordFrame s t) (map : t.nva.map = s.nva.map) (table : t.rsv.table = s.rsv.table)
    (sld : t.sld = s.sld) : t = { s with
      nva := { s.nva with slots := t.nva.slots }
      atb := t.atb
      fcl := { s.fcl with outlets := t.fcl.outlets }
      rsv := { s.rsv with due := t.rsv.due } } := by
  obtain ⟨_, _, _, _, _, _, watch, rfl⟩ := h
  dsimp only at map table sld
  rw [map, table, sld]

variable (s : State) (n : RecNo)

theorem modTerms (f : Terms → Terms) : RecordFrame s (s.modTerms n f) := ⟨_, _, _, _, _, _, _, rfl⟩
theorem modAccount (f : Account → Account) : RecordFrame s (s.modAccount n f) := ⟨_, _, _, _, _, _, _, rfl⟩
theorem setSlot (x : Slot) : RecordFrame s (s.setSlot n x) := ⟨_, _, _, _, _, _, _, rfl⟩
theorem modWork (f : Working → Working) : RecordFrame s (s.modWork n f) := ⟨_, _, _, _, _, _, _, rfl⟩
theorem setBinding (o : OutletId) (r : Option RecNo) : RecordFrame s (s.setBinding o r) := ⟨_, _, _, _, _, _, _, rfl⟩
theorem unbind : RecordFrame s (s.unbind n) := ⟨_, _, _, _, _, _, _, rfl⟩
theorem openOutlet (o : OutletId) : RecordFrame s (s.openOutlet o) := ⟨_, _, _, _, _, _, _, rfl⟩
theorem promptEvaluation : RecordFrame s s.promptEvaluation := ⟨_, _, _, _, _, _, _, rfl⟩
theorem dropRestoration : RecordFrame s (s.dropRestoration n) := ⟨_, _, _, _, _, _, _, rfl⟩

theorem dropReservation (h : Holder) : RecordFrame s (s.dropReservation h) :=
  of_ite (fun _ => ⟨_, _, _, _, _, _, _, rfl⟩) fun _ => refl s

theorem openRecord : RecordFrame s (s.openRecord n) := by
  unfold State.openRecord
  split
  · exact openOutlet s _
  · exact refl s

theorem leave : RecordFrame s (s.leave n) := by
  unfold State.leave
  split
  · exact modWork s n _
  · exact (modWork s n _).trans (promptEvaluation _)
  · exact modWork s n _
  · exact (dropRestoration s n).trans (dropReservation _ _)
  · exact refl s

theorem become (st : RecState) : RecordFrame s (s.become n st) := by
  have entered := ((leave s n).trans (modTerms _ n fun x => { x with state := st })).trans (openRecord _ n)
  exact of_ite (fun _ => (entered.trans (modWork _ n _)).trans (promptEvaluation _)) fun _ => entered

theorem vacate : RecordFrame s (s.vacate n) :=
  (((leave s n).trans (unbind _ n)).trans (setSlot _ n _)).trans (modWork _ n _)

theorem enterShed : RecordFrame s (s.enterShed n) := of_ite (fun _ => become s n _) fun _ => become s n _

theorem activateRecord : RecordFrame s (s.activateRecord n) :=
  of_ite (fun _ => become s n _) fun _ => (modAccount s n _).trans (become _ n _)

theorem suspendRecord : RecordFrame s (s.suspendRecord n) :=
  ((become s n _).trans (modAccount _ n _)).trans (modWork _ n _)

theorem retireRecord : RecordFrame s (s.retireRecord n) := by
  have out := (openRecord s n).trans (vacate _ n)
  unfold State.retireRecord
  split
  · exact refl s
  · exact refl s
  · exact of_ite (fun _ => become s n _) fun _ => out
  · exact of_ite (fun _ => become s n _) fun _ => out
  all_goals exact out

end State.RecordFrame

end Frame

/-! ## A change of one record keeps the others -/

section Kept

variable (s : State) {n m : RecNo}

theorem State.recordKept_become (st : RecState) (h : m ≠ n) : s.recordKept (s.become n st) m :=
  ⟨by rw [State.slots_become, if_neg h], by rw [State.work_become, if_neg h]⟩

theorem State.recordKept_modAccount (f : Account → Account) (h : m ≠ n) : s.recordKept (s.modAccount n f) m :=
  ⟨by rw [State.slots_modAccount, if_neg h], State.work_congr rfl m⟩

theorem State.recordKept_modWork (f : Working → Working) (h : m ≠ n) : s.recordKept (s.modWork n f) m :=
  ⟨rfl, by rw [State.work_modWork, if_neg h]⟩

theorem State.recordKept.trans {s t u : State} (h : s.recordKept t m) (h' : t.recordKept u m) : s.recordKept u m :=
  ⟨h'.1.trans h.1, h'.2.trans h.2⟩

end Kept
end Sys2Proof.Machine

namespace Sys2Proof.Machine

/-! ## Activation and the trip's clearing (R5, R13, R20) -/

section Activate

variable (s : State) (n : RecNo) (st : RecState)

@[simp] theorem Working.preShed_left (before : RecState) (w : Working) : (w.left before).preShed = w.preShed := by
  cases before <;> rfl

@[simp] theorem Working.preShed_became (before : RecState) (w : Working) :
    (w.became before st).preShed = w.preShed := by
  unfold Working.became
  split <;> simp

theorem Working.holdoff_became_shed (before : RecState) (w : Working) : (w.became before .shed).holdoff = 0 := rfl

theorem Working.cooloff_became_of_tripped (w : Working) : (w.became .tripped st).cooloff = 0 := by
  unfold Working.became
  split <;> rfl

/-- The state in which a rule puts a record that it takes to SHED (R5). -/
def State.shedOrOut (s : State) (n : RecNo) : RecState := if s.quotaSpent n = true then .quotaOut else .shed

theorem State.shedOrOut_ne_suspect : s.shedOrOut n ≠ .suspect := by
  unfold State.shedOrOut
  split <;> decide

theorem State.shedOrOut_of_unspent (h : s.quotaSpent n = false) : s.shedOrOut n = .shed := by
  simp [State.shedOrOut, h]

theorem State.enterShed_eq : s.enterShed n = s.become n (s.shedOrOut n) := by
  unfold State.enterShed State.shedOrOut
  split <;> rfl

/-- What activation writes to the account: the cause goes, unless the record becomes QUOTA_OUT. -/
def State.activeAccount (s : State) (n : RecNo) : State :=
  if s.quotaSpent n = true then s else s.modAccount n fun a => { a with cause := none }

theorem State.activateRecord_eq : s.activateRecord n = (s.activeAccount n).become n (s.shedOrOut n) := by
  unfold State.activateRecord State.activeAccount State.shedOrOut
  split <;> rfl

/-- A departure from DORMANT or TRIPPED touches no reservation and no restoration. -/
theorem State.tables_become_of_off {s : State} {n : RecNo} (h : s.recState n = .dormant ∨ s.recState n = .tripped) :
    (s.become n st).rsv = { s.rsv with due := s.rsv.due || decide (st = .shed) } ∧ (s.become n st).sld = s.sld := by
  rw [State.rsv_become, State.rsv_leave, State.sld_become, State.sld_leave]
  obtain e | e := h <;> rw [e] <;> exact ⟨rfl, rfl⟩

/-- A state with the account of one record written, or not. -/
def State.AccountWritten (n : RecNo) (s b : State) : Prop := b = s ∨ ∃ f, b = s.modAccount n f

theorem State.accountWritten_activeAccount : s.AccountWritten n (s.activeAccount n) := by
  unfold State.activeAccount
  split
  · exact .inl rfl
  · exact .inr ⟨_, rfl⟩

theorem State.AccountWritten.keeps {s b : State} {n : RecNo} (h : s.AccountWritten n b) :
    s.RecordFrame b ∧ b.nva.map = s.nva.map ∧ b.atb = s.atb ∧ b.rsv = s.rsv ∧ b.sld = s.sld ∧
    b.fcl.outlets = s.fcl.outlets ∧ b.terms n = s.terms n ∧ ∀ k : RecNo, k ≠ n → s.recordKept b k := by
  obtain rfl | ⟨f, rfl⟩ := h
  · exact ⟨.refl _, rfl, rfl, rfl, rfl, rfl, rfl, fun _ _ => ⟨rfl, rfl⟩⟩
  · exact ⟨.modAccount s n f, rfl, rfl, rfl, rfl, rfl, s.terms_modAccount n n f, fun _ hk => s.recordKept_modAccount f hk⟩

/-- What the entry into SHED or QUOTA_OUT does to a DORMANT or TRIPPED record, its account apart. -/
theorem State.entry_of_off {s b : State} {n : RecNo} (off : s.recState n = .dormant ∨ s.recState n = .tripped)
    (written : s.AccountWritten n b) :
    ∃ mid, mid = b.become n (s.shedOrOut n) ∧
      mid.terms n = { s.terms n with state := s.shedOrOut n } ∧
      (s.quotaSpent n = false → (mid.work n).holdoff = 0 ∧ mid.rsv.due = true) ∧
      (s.recState n = .tripped → (mid.work n).cooloff = 0) ∧ (mid.work n).preShed = (s.work n).preShed ∧
      (∀ k : RecNo, k ≠ n → s.recordKept mid k) ∧
      (∀ o : OutletId, mid.outlet o = if (s.terms n).outlet = some o then
        { s.outlet o with closed := false, essential := false } else s.outlet o) ∧
      mid = { s with nva := { s.nva with slots := mid.nva.slots }, atb := mid.atb,
                     fcl := { s.fcl with outlets := mid.fcl.outlets }, rsv := { s.rsv with due := mid.rsv.due } } := by
  obtain ⟨frame, map, atb, rsv, sld, outlets, terms, kept⟩ := written.keeps
  have state : b.recState n = s.recState n := congrArg Terms.state terms
  obtain ⟨rsv', sld'⟩ := State.tables_become_of_off (s.shedOrOut n) (s := b) (n := n) (by rw [state]; exact off)
  have work : (b.become n (s.shedOrOut n)).work n = (s.work n).became (s.recState n) (s.shedOrOut n) := by
    rw [State.work_become, if_pos rfl, State.work_congr atb, state]
  refine ⟨_, rfl, ?_, fun unspent => ?_, fun tripped => ?_, ?_, fun k hk => ?_, fun o => ?_, ?_⟩
  · rw [State.terms_become, if_pos rfl, terms]
  · rw [work, rsv', s.shedOrOut_of_unspent n unspent]
    exact ⟨Working.holdoff_became_shed _ _, by simp⟩
  · rw [work, tripped, Working.cooloff_became_of_tripped]
  · rw [work, Working.preShed_became]
  · exact (kept k hk).trans (b.recordKept_become _ hk)
  · rw [State.outlet_become _ _ _ _ (s.shedOrOut_ne_suspect n), terms, State.outlet_congr outlets]
  · exact (frame.trans (.become b n _)).eq_of_tables (by rw [State.map_become, map]) (by rw [rsv', rsv])
      (by rw [sld', sld])

end Activate

/-- Settles O21: both requests are one entry into SHED or QUOTA_OUT, from a state whose account they have written. -/
theorem activateAndTripClearShedTheRecord : Obligations.ActivateAndTripClearShedTheRecord := by
  intro b n s ready calm number reads taken
  refine ⟨fun h => ?_, fun h => ?_, fun p hp state => ?_⟩
  · refine request_of_calm .allotActivate ready ?_ calm
    rw [allotActivate, onRecord_of_reads _ number reads taken, if_neg h]
    rfl
  · refine request_of_calm .tripClear ready ?_ calm
    rw [tripClear, onRecord_of_reads _ number reads taken, if_neg h]
    rfl
  · simp only [List.mem_cons, List.not_mem_nil, or_false] at hp
    obtain rfl | rfl := hp
    · have answered : allotActivate b s = (s.activateRecord n, .of .done) := by
        rw [allotActivate, onRecord_of_reads _ number reads taken, if_pos state]
      obtain ⟨mid, e, terms, facts⟩ := State.entry_of_off (.inl state) (s.accountWritten_activeAccount n)
      have account : mid.account n = { s.account n with
          cause := if s.recState n = .dormant ∧ s.quotaSpent n = false then none else (s.account n).cause } := by
        rw [e, State.account_become, State.activeAccount]
        cases spent : s.quotaSpent n <;> simp [state]
      exact ⟨mid, e ▸ s.activateRecord_eq n ▸ request_of_ready .allotActivate ready answered, terms, account, facts⟩
    · have answered : tripClear b s = (s.enterShed n, .of .done) := by
        rw [tripClear, onRecord_of_reads _ number reads taken, if_pos state]
      obtain ⟨mid, e, terms, facts⟩ := State.entry_of_off (.inr state) (b := s) (.inl rfl)
      have account : mid.account n = { s.account n with
          cause := if s.recState n = .dormant ∧ s.quotaSpent n = false then none else (s.account n).cause } := by
        rw [e, State.account_become]
        simp [state]
      exact ⟨mid, e ▸ s.enterShed_eq n ▸ request_of_ready .tripClear ready answered, terms, account, facts⟩

end Sys2Proof.Machine

namespace Sys2Proof.Machine

/-! ## Suspension and retirement (R14, R15) -/

section TakenOut

variable (s : State) {n : RecNo}

/-- A table from which a holder's entry is taken holds it no more. -/
theorem State.holds_of_filter {t : State} {h : Holder} {l : List Reservation}
    (e : t.rsv.table = l.filter fun e => e.holder ≠ h) : t.holds h = false := by
  simp [State.holds, e]

/-- A record that leaves RESTORING leaves the reservation table and the restoration watch (R87, R102). -/
theorem State.tables_become_of_restoring (st : RecState) (h : s.recState n = .restoring) :
    (s.become n st).holds (.allotment n) = false ∧ ∀ e ∈ (s.become n st).sld.watch, e.record ≠ n := by
  constructor
  · refine State.holds_of_filter (l := s.rsv.table) ?_
    rw [State.rsv_become, State.rsv_leave, h]
  · rw [State.sld_become, State.sld_leave, if_pos h]
    simp

theorem State.holds_vacate_of_restoring (h : s.recState n = .restoring) :
    (s.vacate n).holds (.allotment n) = false := by
  refine State.holds_of_filter (l := s.rsv.table) ?_
  rw [State.vacate, (State.modWork_keeps _ _ _).2.2.2.2.1]
  show (s.leave n).rsv.table = _
  rw [State.rsv_leave, h]

theorem State.work_vacate (m : RecNo) : (s.vacate n).work m = if m = n then Working.zero else s.work m := by
  rw [State.vacate, State.work_modWork]
  split
  · rfl
  next h =>
    show (s.leave n).work m = s.work m
    rw [State.work_leave, if_neg h]

theorem State.recordKept_vacate {m : RecNo} (h : m ≠ n) : s.recordKept (s.vacate n) m :=
  ⟨by rw [State.slots_vacate, if_neg h], by rw [State.work_vacate, if_neg h]⟩

theorem State.map_vacate : (s.vacate n).nva.map = (s.unbind n).nva.map := by
  show ((s.leave n).unbind n).nva.map = _
  rw [State.unbind, State.unbind, State.modNva, State.modNva, (State.leave_keeps n s).1]

theorem State.boundTo_unbind (o : OutletId) :
    (s.unbind n).boundTo o =
      if s.nva.map[o.index].verdict ≠ .lost ∧ s.boundTo o = some n then none else s.boundTo o := by
  simp only [State.unbind, State.modNva, State.boundTo, Fin.getElem_fin, Vector.getElem_map]
  exact apply_ite Coded.value _ _ _

theorem State.boundTo_vacate (o : OutletId) (h : s.nva.map[o.index].verdict ≠ .lost) :
    (s.vacate n).boundTo o = if s.boundTo o = some n then none else s.boundTo o := by
  rw [State.boundTo_congr (State.map_vacate s), State.boundTo_unbind,
    if_congr (and_iff_right h) rfl rfl]

theorem State.readPlace_of_mapReads {s : State} (h : s.recState n = .suspect → ∀ o, s.mapReads o) :
    s.readPlace n = s := by
  unfold State.readPlace
  split
  · exact s.readMap_clean (h ‹_›)
  · rfl

/-- Whether a retirement waits for the outlet's report: the node answers, or may (R15). -/
def State.retirementWaits (s : State) (n : RecNo) : Bool :=
  s.supplied n && (s.nodeStateOf n == some .present || s.nodeStateOf n == some .joining)

theorem State.retireRecord_eq (taken : s.recState n ≠ .vacant) (stays : s.recState n ≠ .retiring) :
    s.retireRecord n =
      if s.retirementWaits n = true then s.become n .retiring else (s.openRecord n).vacate n := by
  unfold State.retireRecord State.retirementWaits State.supplied
  cases e : s.recState n <;> simp_all

theorem State.recState_of_retirementWaits {s : State} (h : s.retirementWaits n = true) :
    s.recState n = .live ∨ s.recState n = .restoring := by
  unfold State.retirementWaits State.supplied at h
  simp only [Bool.and_eq_true, Bool.or_eq_true, decide_eq_true_eq] at h
  exact h.1

end TakenOut

/-! ### ALLOT_SUSPEND -/

section Suspend

variable {s : State} {n : RecNo}

theorem RecState.suspendable_iff {st : RecState} (taken : st ≠ .vacant) :
    st.suspendable = true ↔ st ≠ .dormant ∧ st ≠ .retiring ∧ st ≠ .suspect := by
  cases st <;> simp_all [RecState.suspendable]

theorem State.recordKept_suspendRecord {m : RecNo} (h : m ≠ n) : s.recordKept (s.suspendRecord n) m :=
  ((s.recordKept_become _ h).trans (State.recordKept_modAccount _ _ h)).trans (State.recordKept_modWork _ _ h)

theorem State.terms_suspendRecord : (s.suspendRecord n).terms n = { s.terms n with state := .dormant } := by
  rw [State.suspendRecord, State.terms_congr (congrArg Nva.slots (State.modWork_keeps _ _ _).1), State.terms_modAccount,
    State.terms_become, if_pos rfl]

theorem State.account_suspendRecord : (s.suspendRecord n).account n = { s.account n with cause := some .suspended } := by
  rw [State.suspendRecord, State.account_congr (congrArg Nva.slots (State.modWork_keeps _ _ _).1),
    State.account_modAccount_same, State.account_become]

theorem State.work_suspendRecord : (s.suspendRecord n).work n = { s.work n with
    preShed := none, cooloff := 0, cooloffFrac := 0, holdoff := 0, holdoffFrac := 0, liveTimer := 0, liveFrac := 0,
    overRun := 0, openRun := 0 } := by
  rw [State.suspendRecord, State.work_modWork_same, State.work_congr (State.modAccount_keeps _ _ _).1, State.work_become,
    if_pos rfl]
  cases s.recState n <;> rfl

theorem State.outlet_suspendRecord (o : OutletId) : (s.suspendRecord n).outlet o =
    if (s.terms n).outlet = some o then { s.outlet o with closed := false, essential := false } else s.outlet o := by
  rw [← State.outlet_become s n .dormant o (by decide)]
  exact State.outlet_congr (by simp [State.suspendRecord]) o

theorem State.map_suspendRecord : (s.suspendRecord n).nva.map = s.nva.map := by
  rw [← State.map_become s n .dormant]
  rfl

end Suspend

/-! ### ALLOT_RETIRE -/

section Retire

variable {s : State} {n : RecNo}

/-- A retirement that waits. -/
theorem State.facts_become_retiring (waits : s.retirementWaits n = true) :
    (s.become n .retiring).terms n = { s.terms n with state := .retiring } ∧
    (s.become n .retiring).account n = s.account n ∧ (s.become n .retiring).nva.map = s.nva.map ∧
    (s.recState n = .restoring → (s.become n .retiring).holds (.allotment n) = false) ∧
    (∀ k : RecNo, k ≠ n → s.recordKept (s.become n .retiring) k) ∧
    ∀ o : OutletId, (s.become n .retiring).outlet o = if s.outletOf n = some o then
      { s.outlet o with closed := false, essential := false } else s.outlet o := by
  have trusted : s.recState n ≠ .suspect := by
    obtain e | e := State.recState_of_retirementWaits waits <;> rw [e] <;> decide
  refine ⟨by rw [State.terms_become, if_pos rfl], State.account_become _ _ _ _, State.map_become _ _ _,
    fun h => (s.tables_become_of_restoring _ h).1, fun _ hk => s.recordKept_become _ hk, fun o => ?_⟩
  rw [State.outlet_become _ _ _ _ (by decide), State.outletOf_of_not_suspect _ _ trusted]

/-- A retirement that takes effect at once. -/
theorem State.facts_vacate_open :
    ((s.openRecord n).vacate n).nva.slots[n] = Slot.vacant ∧ ((s.openRecord n).vacate n).work n = Working.zero ∧
    (∀ o : OutletId, s.nva.map[o.index].verdict ≠ .lost →
      ((s.openRecord n).vacate n).boundTo o = if s.boundTo o = some n then none else s.boundTo o) ∧
    (s.recState n = .restoring → ((s.openRecord n).vacate n).holds (.allotment n) = false) ∧
    (∀ k : RecNo, k ≠ n → s.recordKept ((s.openRecord n).vacate n) k) ∧
    ∀ o : OutletId, ((s.openRecord n).vacate n).outlet o = if s.outletOf n = some o then
      { s.outlet o with closed := false, essential := false } else s.outlet o := by
  have nva : (s.openRecord n).nva = s.nva := (State.openRecord_keeps n s).1
  have opened (k : RecNo) : s.recordKept (s.openRecord n) k := by
    refine ⟨by rw [nva], State.work_congr ?_ k⟩
    exact (State.openRecord_keeps n s).2.1
  refine ⟨by rw [State.slots_vacate, if_pos rfl], by rw [State.work_vacate, if_pos rfl], fun o h => ?_, fun h => ?_,
    fun k hk => (opened k).trans (State.recordKept_vacate _ hk), fun o => ?_⟩
  · rw [State.boundTo_vacate _ _ (by rw [nva]; exact h), State.boundTo_congr (congrArg Nva.map nva)]
  · exact State.holds_vacate_of_restoring _ ((State.recState_congr (congrArg Nva.slots nva) n).trans h)
  · rw [State.outlet_congr (congrArg Fcl.outlets (State.vacate_keeps n _).1), State.outlet_openRecord]

/-- A retirement, by whether it waits. -/
theorem State.facts_retireRecord (taken : s.recState n ≠ .vacant) (stays : s.recState n ≠ .retiring) :
    ((s.retirementWaits n = true → (s.retireRecord n).terms n = { s.terms n with state := .retiring } ∧
        (s.retireRecord n).account n = s.account n ∧ (s.retireRecord n).nva.map = s.nva.map) ∧
      (s.retirementWaits n = false → (s.retireRecord n).nva.slots[n] = Slot.vacant ∧
        (s.retireRecord n).work n = Working.zero ∧
        ∀ o : OutletId, s.nva.map[o.index].verdict ≠ .lost →
          (s.retireRecord n).boundTo o = if s.boundTo o = some n then none else s.boundTo o)) ∧
    (s.recState n = .restoring → (s.retireRecord n).holds (.allotment n) = false) ∧
    (∀ k : RecNo, k ≠ n → s.recordKept (s.retireRecord n) k) ∧
    (∀ o : OutletId, (s.retireRecord n).outlet o = if s.outletOf n = some o then
      { s.outlet o with closed := false, essential := false } else s.outlet o) := by
  rw [s.retireRecord_eq taken stays]
  by_cases waits : s.retirementWaits n = true
  · obtain ⟨terms, account, map, holds, kept, outlet⟩ := State.facts_become_retiring waits
    rw [if_pos waits]
    exact ⟨⟨fun _ => ⟨terms, account, map⟩, fun h => absurd (waits.symm.trans h) (by decide)⟩, holds, kept, outlet⟩
  · obtain ⟨slot, work, bound, holds, kept, outlet⟩ := State.facts_vacate_open (s := s) (n := n)
    rw [if_neg waits]
    exact ⟨⟨fun h => absurd h waits, fun _ => ⟨slot, work, bound⟩⟩, holds, kept, outlet⟩

end Retire

/-- Settles O22: a suspension is one departure to DORMANT, a retirement one to RETIRING or a slot made VACANT. -/
theorem suspendAndRetireTakeTheRecordOut : Obligations.SuspendAndRetireTakeTheRecordOut := by
  intro b n s ready calm number reads taken
  refine ⟨fun off => ?_, fun retiring => ?_, fun awake stays trusted => ?_, fun stays map => ?_⟩
  · refine request_of_calm .allotSuspend ready ?_ calm
    rw [allotSuspend, onRecord_of_reads _ number reads taken, if_neg (fun h => ?_)]
    · rfl
    · obtain ⟨h1, h2, h3⟩ := (RecState.suspendable_iff taken).1 h
      exact off.elim h1 (Or.rec h2 h3)
  · refine request_of_calm .allotRetire ready ?_ calm
    rw [allotRetire, onRecord_of_reads _ number reads taken, State.readPlace_of_mapReads (by simp [retiring]),
      State.retireRecord, retiring]
    rfl
  · have answered : allotSuspend b s = (s.suspendRecord n, .of .done) := by
      rw [allotSuspend, onRecord_of_reads _ number reads taken,
        if_pos ((RecState.suspendable_iff taken).2 ⟨awake, stays, trusted⟩)]
    exact ⟨_, request_of_ready .allotSuspend ready answered, State.terms_suspendRecord, State.account_suspendRecord,
      State.work_suspendRecord, s.tables_become_of_restoring .dormant, fun _ => State.recordKept_suspendRecord,
      State.outlet_suspendRecord, (State.RecordFrame.suspendRecord s n).eq_of_map State.map_suspendRecord⟩
  · have answered : allotRetire b s = (s.retireRecord n, .of .done) := by
      rw [allotRetire, onRecord_of_reads _ number reads taken, State.readPlace_of_mapReads map]
    obtain ⟨record, holds, kept, outlet⟩ := State.facts_retireRecord taken stays
    exact ⟨_, request_of_ready .allotRetire ready answered, record, holds, kept, outlet,
      (State.RecordFrame.retireRecord s n).eq⟩

end Sys2Proof.Machine

namespace Sys2Proof.Machine

/-! ## Something done at each record in number order -/

section Each

/-- What each place of a fold over the indices in order carries on, the fold reaches. -/
theorem foldl_finRange_induction {α : Type} {n : Nat} (f : α → Fin n → α) (reached : Nat → α → Prop) (s : α)
    (start : reached 0 s) (step : ∀ (i : Fin n) (t : α), reached i t → reached (i + 1) (f t i)) :
    reached n ((List.finRange n).foldl f s) := by
  induction n with
  | zero => exact start
  | succ n ih =>
    rw [List.finRange_succ_last, List.foldl_append, List.foldl_map]
    exact step (Fin.last n) _ (ih _ fun i t h => step i.castSucc t h)

/-- An induction over the records in number order: `reached k` holds of the state once the first `k` are done. -/
theorem State.eachRecord_induction {f : RecNo → State → State} {reached : Nat → State → Prop} {s : State}
    (start : reached 0 s) (step : ∀ (n : RecNo) (t : State), reached n t → reached (n + 1) (f n t)) :
    reached 64 (s.eachRecord f) :=
  foldl_finRange_induction _ reached s start fun n t h => step n t h

end Each

/-! ## The day turn (R21) -/

section DayTurn

variable (s : State) (n m : RecNo)

/-- A slot after the day turn. -/
def Slot.turned (x : Slot) : Slot :=
  if x.terms.value.state = .vacant then x
  else ⟨if x.terms.value.state = .quotaOut then ⟨{ x.terms.value with state := .shed }, .clean⟩ else x.terms,
    ⟨{ x.account.value with today := 0, recent := 0 }, .clean⟩⟩

/-- The working fields of a record after the day turn. -/
def Working.turned (st : RecState) (w : Working) : Working := if st = .quotaOut then w.became .quotaOut .shed else w

theorem State.turnRecord_of_vacant {s : State} {n : RecNo} (h : s.recState n = .vacant) : s.turnRecord n = s := if_pos h

theorem State.turnRecord_of_quotaOut {s : State} {n : RecNo} (h : s.recState n = .quotaOut) :
    s.turnRecord n = (s.modAccount n fun a => { a with today := 0, recent := 0 }).become n .shed := by
  simp [State.turnRecord, h]

theorem State.turnRecord_of_other {s : State} {n : RecNo} (h : s.recState n ≠ .vacant) (h' : s.recState n ≠ .quotaOut) :
    s.turnRecord n = s.modAccount n fun a => { a with today := 0, recent := 0 } := by
  simp [State.turnRecord, h, h']

/-- The three cases of a record at the day turn. -/
theorem State.turn_cases :
    s.recState n = .vacant ∨ s.recState n = .quotaOut ∨ (s.recState n ≠ .vacant ∧ s.recState n ≠ .quotaOut) := by
  tauto

theorem Slot.turned_of_vacant {x : Slot} (h : x.terms.value.state = .vacant) : x.turned = x := if_pos h

theorem Slot.turned_of_quotaOut {x : Slot} (h : x.terms.value.state = .quotaOut) :
    x.turned = ⟨⟨{ x.terms.value with state := .shed }, .clean⟩,
      ⟨{ x.account.value with today := 0, recent := 0 }, .clean⟩⟩ := by
  simp [Slot.turned, h]

theorem Slot.turned_of_other {x : Slot} (h : x.terms.value.state ≠ .vacant) (h' : x.terms.value.state ≠ .quotaOut) :
    x.turned = ⟨x.terms, ⟨{ x.account.value with today := 0, recent := 0 }, .clean⟩⟩ := by
  simp [Slot.turned, h, h']

theorem State.slots_turnRecord :
    (s.turnRecord n).nva.slots[m] = if m = n then s.nva.slots[n].turned else s.nva.slots[m] := by
  obtain h | h | ⟨h, h'⟩ := s.turn_cases n
  · rw [State.turnRecord_of_vacant h, Slot.turned_of_vacant h]
    split
    · subst m; rfl
    · rfl
  · rw [State.turnRecord_of_quotaOut h, State.slots_become, State.slots_modAccount, State.slots_modAccount,
      Slot.turned_of_quotaOut h]
    split
    · rw [State.terms_modAccount, if_pos rfl]
      rfl
    · rfl
  · rw [State.turnRecord_of_other h h', State.slots_modAccount, Slot.turned_of_other h h']
    rfl

theorem State.work_turnRecord :
    (s.turnRecord n).work m = if m = n then (s.work n).turned (s.recState n) else s.work m := by
  obtain h | h | ⟨h, h'⟩ := s.turn_cases n
  · rw [State.turnRecord_of_vacant h, h]
    split
    · subst m; rfl
    · rfl
  · rw [State.turnRecord_of_quotaOut h, State.work_become, State.recState_modAccount, h]
    rfl
  · rw [State.turnRecord_of_other h h', State.work_congr (State.modAccount_keeps _ _ _).1, Working.turned, if_neg h']
    split
    · subst m; rfl
    · rfl

theorem State.outlet_turnRecord (o : OutletId) :
    (s.turnRecord n).outlet o = if s.recState n = .quotaOut ∧ (s.terms n).outlet = some o then
      { s.outlet o with closed := false, essential := false } else s.outlet o := by
  obtain h | h | ⟨h, h'⟩ := s.turn_cases n
  · simp [State.turnRecord_of_vacant h, h]
  · rw [State.turnRecord_of_quotaOut h, State.outlet_become _ _ _ _ (by decide), State.terms_modAccount]
    simp only [h, true_and]
    rfl
  · rw [State.turnRecord_of_other h h', if_neg (fun e => h' e.1)]
    rfl

theorem State.frame_turnRecord : s.RecordFrame (s.turnRecord n) := by
  obtain h | h | ⟨h, h'⟩ := s.turn_cases n
  · rw [State.turnRecord_of_vacant h]
    exact .refl s
  · rw [State.turnRecord_of_quotaOut h]
    exact (State.RecordFrame.modAccount s n _).trans (.become _ n _)
  · rw [State.turnRecord_of_other h h']
    exact .modAccount s n _

theorem State.tables_turnRecord : (s.turnRecord n).nva.map = s.nva.map ∧
    (s.turnRecord n).rsv.table = s.rsv.table ∧ (s.turnRecord n).sld = s.sld := by
  obtain h | h | ⟨h, h'⟩ := s.turn_cases n
  · rw [State.turnRecord_of_vacant h]
    exact ⟨rfl, rfl, rfl⟩
  · rw [State.turnRecord_of_quotaOut h, State.rsv_become, State.rsv_leave, State.sld_become, State.sld_leave,
      State.recState_modAccount, h]
    exact ⟨State.map_become _ _ _, rfl, rfl⟩
  · rw [State.turnRecord_of_other h h']
    exact ⟨rfl, rfl, rfl⟩

/-- The day turn once it has done the records below `k`. -/
structure State.TurnedBelow (s : State) (k : Nat) (t : State) : Prop where
  ahead : ∀ m : RecNo, k ≤ m.val → s.recordKept t m
  behind : ∀ m : RecNo, m.val < k →
    t.nva.slots[m] = s.nva.slots[m].turned ∧ t.work m = (s.work m).turned (s.recState m)
  outlet : ∀ o : OutletId, t.outlet o =
    if ∃ m : RecNo, m.val < k ∧ s.recState m = .quotaOut ∧ (s.terms m).outlet = some o then
      { s.outlet o with closed := false, essential := false } else s.outlet o
  frame : s.RecordFrame t
  tables : t.nva.map = s.nva.map ∧ t.rsv.table = s.rsv.table ∧ t.sld = s.sld

theorem State.turnedBelow_zero : s.TurnedBelow 0 s where
  ahead _ _ := ⟨rfl, rfl⟩
  behind _ h := absurd h (Nat.not_lt_zero _)
  outlet _ := by simp
  frame := .refl s
  tables := ⟨rfl, rfl, rfl⟩

/-- The indices below a successor. -/
theorem exists_lt_succ_iff {n : RecNo} {p : RecNo → Prop} :
    (∃ m : RecNo, m.val < n.val + 1 ∧ p m) ↔ (∃ m : RecNo, m.val < n.val ∧ p m) ∨ p n := by
  constructor
  · rintro ⟨m, hm, h⟩
    obtain lt | eq := Nat.lt_succ_iff_lt_or_eq.1 hm
    · exact .inl ⟨m, lt, h⟩
    · exact .inr (Fin.ext eq ▸ h)
  · rintro (⟨m, hm, h⟩ | h)
    · exact ⟨m, Nat.lt_succ_of_lt hm, h⟩
    · exact ⟨n, Nat.lt_succ_self _, h⟩

variable {s n} {t : State}

theorem State.TurnedBelow.succ (h : s.TurnedBelow n t) : s.TurnedBelow (n + 1) (t.turnRecord n) where
  ahead m hm := by
    have ne : m ≠ n := by rintro rfl; omega
    refine (h.ahead m (by omega)).trans ⟨?_, ?_⟩
    · rw [State.slots_turnRecord, if_neg ne]
    · rw [State.work_turnRecord, if_neg ne]
  behind m hm := by
    obtain ⟨slot, work⟩ := h.ahead n le_rfl
    have state : t.recState n = s.recState n := congrArg (fun x : Slot => x.terms.value.state) slot
    rw [State.slots_turnRecord, State.work_turnRecord]
    by_cases e : m = n
    · subst e
      rw [if_pos rfl, if_pos rfl, slot, work, state]
      exact ⟨rfl, rfl⟩
    · rw [if_neg e, if_neg e]
      exact h.behind m (by have := Fin.val_ne_of_ne e; omega)
  outlet o := by
    have terms : t.terms n = s.terms n := congrArg (fun x : Slot => x.terms.value) (h.ahead n le_rfl).1
    rw [State.outlet_turnRecord, State.recState_eq, terms, ← State.recState_eq, h.outlet]
    simp only [exists_lt_succ_iff]
    split <;> split <;> simp_all
  frame := h.frame.trans (t.frame_turnRecord n)
  tables := by
    obtain ⟨map, table, sld⟩ := t.tables_turnRecord n
    exact ⟨map.trans h.tables.1, table.trans h.tables.2.1, sld.trans h.tables.2.2⟩

theorem State.recordKept.reads (h : s.recordKept t n) (reads : s.reads n) : t.reads n := by
  rw [State.reads, h.1]
  exact reads

/-- The day turn's act at one record: the read, and the turn of a record found. -/
def State.turnStep (n : RecNo) (s : State) : State := if s.readAtTurn n = true then (s.readRecord n).turnRecord n else s

theorem dayTurn_eq (s : State) : dayTurn s = (s.eachRecord State.turnStep, .of .done) := by
  unfold dayTurn
  exact congrArg (fun f => (s.eachRecord f, Answer.of .done)) rfl

/-- A record that reads without an error is turned as it stands. -/
theorem State.turnStep_of_reads (reads : t.reads n) : t.turnStep n = t.turnRecord n := by
  rw [State.turnStep, State.readRecord_of_reads reads]
  split
  · rfl
  next h =>
    have vacant : t.recState n = .vacant := by
      simp only [State.readAtTurn, ne_eq, Bool.or_eq_true, not_or] at h
      simpa using h.1
    rw [State.turnRecord_of_vacant vacant]

theorem State.turnedBelow_turnStep (h : s.allRead) : s.TurnedBelow 64 (s.eachRecord State.turnStep) := by
  refine State.eachRecord_induction s.turnedBelow_zero fun n t turned => ?_
  rw [State.turnStep_of_reads ((turned.ahead n le_rfl).reads (h n))]
  exact turned.succ

theorem Slot.account_turned {x : Slot} (h : x.terms.value.state ≠ .vacant) :
    x.turned.account.value = { x.account.value with today := 0, recent := 0 } := by
  rw [Slot.turned, if_neg h]

theorem Slot.terms_turned (x : Slot) : x.turned.terms.value =
    if x.terms.value.state = .quotaOut then { x.terms.value with state := .shed } else x.terms.value := by
  unfold Slot.turned
  split
  · simp_all
  · split <;> rfl

end DayTurn

/-- Settles O23: the records are turned one by one, each by its own slot alone. -/
theorem dayTurnClearsTheTallies : Obligations.DayTurnClearsTheTallies := by
  intro s ready calm reads
  have turned := State.turnedBelow_turnStep reads
  have answered := dayTurn_eq s
  generalize s.eachRecord State.turnStep = mid at turned answered
  obtain ⟨-, behind, outlet, frame, map, table, sld⟩ := turned
  refine ⟨mid, request_of_ready .dayTurn ready answered, fun n => ?_, fun o => ?_, frame.eq_of_tables map table sld⟩
  · obtain ⟨slot, work⟩ := behind n n.isLt
    have terms := (congrArg (fun x : Slot => x.terms.value) slot).trans (Slot.terms_turned _)
    split
    next vacant =>
      refine ⟨slot.trans (if_pos vacant), work.trans (if_neg ?_)⟩
      rw [vacant]
      decide
    next taken =>
      refine ⟨(congrArg (fun x : Slot => x.account.value) slot).trans (Slot.account_turned taken), fun out => ?_,
        fun other => ⟨terms.trans (if_neg other), work.trans (if_neg other)⟩⟩
      refine ⟨terms.trans (if_pos out), ?_⟩
      rw [work, out]
      rfl
  · rw [outlet]
    exact if_congr ⟨fun ⟨m, _, h⟩ => ⟨m, h⟩, fun ⟨m, h⟩ => ⟨m, m.isLt, h⟩⟩ rfl rfl

end Sys2Proof.Machine

namespace Sys2Proof.Machine

/-! ## Creation (R7) -/

section Create

/-- The first record of which a mark holds. -/
theorem find_allRecords_eq_some {p : RecNo → Bool} {n : RecNo} (h : p n = true) (first : ∀ m, m < n → p m = false) :
    allRecords.find? p = some n := by
  refine List.find?_eq_some_iff_getElem.2 ⟨h, n.val, by simp [allRecords], by simp [allRecords], fun j hj => ?_⟩
  simp [allRecords, first ⟨j, hj.trans n.isLt⟩ hj]

theorem find_allRecords_eq_none {p : RecNo → Bool} (h : ∀ n, p n = false) : allRecords.find? p = none :=
  List.find?_eq_none.2 fun n _ => by simp [h n]

theorem AllotClass.ofCode_eq_essential (b : Byte) : AllotClass.ofCode b = some .essential ↔ b = 1 := by
  constructor
  · intro h
    unfold AllotClass.ofCode at h
    split at h
    next e => exact BitVec.eq_of_toNat_eq e
    all_goals simp at h
  · rintro rfl
    rfl

/-- The checks of R7 on the fields of a creation. -/
def createOk (c : AllotClass) (rank : Byte) (cap quota : Half) : Bool :=
  rankOk rank.toNat && capOk cap.toNat && quotaFieldOk (quotaField quota) &&
    !(c == .essential && (quotaField quota).isSome)

theorem quotaField_eq (quota : Half) : quotaField quota = if quota = 0 then none else some quota.toNat := by
  unfold quotaField
  refine if_congr ⟨fun h => BitVec.eq_of_toNat_eq h, fun h => ?_⟩ rfl rfl
  subst h
  rfl

theorem createOk_iff {cls rank : Byte} {c : AllotClass} {cap quota : Half} (h : AllotClass.ofCode cls = some c) :
    createOk c rank cap quota = true ↔ rank.toNat ≤ 63 ∧ 50 ≤ cap.toNat ∧ cap.toNat ≤ 8000 ∧ cap.toNat % 10 = 0 ∧
      (quota = 0 ∨ (100 ≤ quota.toNat ∧ quota.toNat ≤ 60000 ∧ cls ≠ 1)) := by
  have essential : c = .essential ↔ cls = 1 := by
    rw [← AllotClass.ofCode_eq_essential, h, Option.some.injEq]
  by_cases none : quota = 0
  · simp [createOk, quotaField_eq, none, rankOk, capOk, quotaFieldOk, and_assoc]
  · have field : quotaField quota = some quota.toNat := (quotaField_eq quota).trans (if_neg none)
    have given : quota ≠ 0#16 := none
    simp [createOk, field, given, rankOk, capOk, quotaFieldOk, quotaOk, essential, and_assoc]

variable (s : State) (holder : Half) (node outlet cls rank : Byte) (cap quota : Half)

theorem allotCreate_of_bad (h : outletId node outlet = none ∨ AllotClass.ofCode cls = none ∨ 63 < rank.toNat ∨
      cap.toNat < 50 ∨ 8000 < cap.toNat ∨ cap.toNat % 10 ≠ 0 ∨
      (quota ≠ 0 ∧ (quota.toNat < 100 ∨ 60000 < quota.toNat ∨ cls = 1))) :
    allotCreate holder node outlet cls rank cap quota s = (s, .of .badField) := by
  unfold allotCreate
  split
  next o c place code =>
    have bad : ¬ createOk c rank cap quota = true := by
      rw [createOk_iff code]
      rintro ⟨h1, h2, h3, h4, h5⟩
      simp only [place, code, reduceCtorEq, false_or] at h
      obtain h | h | h | h | ⟨h, h'⟩ := h
      · omega
      · omega
      · omega
      · exact h h4
      · obtain e | ⟨e1, e2, e3⟩ := h5
        · exact h e
        · obtain h' | h' | h' := h'
          · omega
          · omega
          · exact e3 h'
    exact if_neg bad
  · rfl

variable {node outlet cls rank cap quota} {o : OutletId} {c : AllotClass}

theorem allotCreate_of_full (place : outletId node outlet = some o) (code : AllotClass.ofCode cls = some c)
    (ok : createOk c rank cap quota = true) (full : s.vacantSlot = none) :
    allotCreate holder node outlet cls rank cap quota s = (s, .of .noSlot) := by
  unfold allotCreate
  rw [place, code]
  refine (if_pos ok).trans ?_
  rw [full]

theorem allotCreate_of_slot {n : RecNo} (place : outletId node outlet = some o) (code : AllotClass.ofCode cls = some c)
    (ok : createOk c rank cap quota = true) (map : s.mapReads o) (slot : s.vacantSlot = some n) :
    allotCreate holder node outlet cls rank cap quota s =
      if (s.boundTo o).isSome then (s, .of .outletTaken)
      else (s.createRecord n (newTerms holder o c rank.toNat cap.toNat (quotaField quota)) o,
        .done (byte1 (RecNo.number n))) := by
  unfold allotCreate
  rw [place, code]
  refine (if_pos ok).trans ?_
  rw [slot]
  dsimp only
  rw [s.readBinding_clean o map]

theorem State.vacantSlot_eq_none {s : State} (h : ∀ n, s.recState n ≠ .vacant) : s.vacantSlot = none :=
  find_allRecords_eq_none fun n => by simp [h n]

theorem State.vacantSlot_eq_some {s : State} {n : RecNo} (reads : s.reads n) (vacant : s.recState n = .vacant)
    (first : ∀ m, m < n → s.recState m ≠ .vacant) : s.vacantSlot = some n :=
  find_allRecords_eq_some (by rw [vacant, reads.1]; rfl) fun m hm => by simp [first m hm]

end Create

/-- Settles O19: the checks of the fields, the lowest VACANT slot and the outlet's entry, in this order. -/
theorem allotCreateMakesARecord : Obligations.AllotCreateMakesARecord := by
  intro holder node outlet cls rank cap quota s ready calm
  refine ⟨fun bad => ?_, fun o place c code rank63 cap50 cap8000 cap10 quotaIn reads map => ?_⟩
  · exact request_of_calm .allotCreate ready (allotCreate_of_bad s holder node outlet cls rank cap quota bad) calm
  have ok := (createOk_iff code).2 ⟨rank63, cap50, cap8000, cap10, quotaIn⟩
  refine ⟨fun full => ?_, fun n vacant first => ?_⟩
  · have served := allotCreate_of_full s holder place code ok (State.vacantSlot_eq_none full)
    exact request_of_calm .allotCreate ready served calm
  · have served := allotCreate_of_slot s holder place code ok map (State.vacantSlot_eq_some (reads n) vacant first)
    refine ⟨fun taken => ?_, fun free => ?_⟩
    · exact request_of_calm .allotCreate ready (served.trans (if_pos (Option.isSome_iff_ne_none.2 taken))) calm
    · rw [free, quotaField_eq] at served
      exact request_of_calm .allotCreate ready (served.trans (if_neg (by simp))) calm

end Sys2Proof.Machine

namespace Sys2Proof.Machine

/-! ## The searches (R18, R19) -/

section Search

variable {s : State}

theorem bne_eq_decide {α : Type} [DecidableEq α] (a b : α) : (a != b) = decide (a ≠ b) := by
  rw [bne, beq_eq_decide, decide_not]

/-- The reply of a search as 11.2 lays it out. -/
theorem searchReply_eq (found : List RecNo) :
    searchReply found = [BitVec.ofNat 8 (min 8 found.length)] ++
      (found.take 8).map (fun n => BitVec.ofNat 8 (n.val + 1)) ++ [if 8 < found.length then 1 else 0] := by
  unfold searchReply
  by_cases more : 8 < found.length
  · simp [byte1, RecNo.number, more]
  · simp [byte1, RecNo.number, more]

/-- The reply of a search that finds one record or none. -/
theorem searchReply_toList (found : Option RecNo) :
    searchReply found.toList = match found with
      | some n => [1, BitVec.ofNat 8 (n.val + 1), 0]
      | none => [0, 0] := by
  cases found <;> rfl

theorem recordNumber_of_range {b : Byte} (h : 1 ≤ b.toNat) (h' : b.toNat ≤ 64) :
    ∃ n : RecNo, recordNumber b = some n ∧ b.toNat = n.val + 1 :=
  have e : b.toNat = (b.toNat - 1) + 1 := by omega
  ⟨⟨b.toNat - 1, by omega⟩, indexFrom1_of_eq e, e⟩

theorem recordNumber_eq_none {b : Byte} (h : ¬ (1 ≤ b.toNat ∧ b.toNat ≤ 64)) : recordNumber b = none :=
  indexFrom1_eq_none (by omega)

theorem State.readFrom_of_allRead (h : s.allRead) (n : RecNo) : s.readFrom n = s := State.readEach_of_allRead _ h

theorem State.tagged_eq (tag : Half) {start : Byte} {n : RecNo} (h : start.toNat = n.val + 1) :
    s.tagged tag n = (List.finRange 64).filter fun m => decide (start.toNat ≤ m.val + 1) && s.recState m != .vacant &&
      s.recState m != .suspect && (s.terms m).holder == tag := by
  refine List.filter_congr fun m _ => ?_
  have from' : n ≤ m ↔ start.toNat ≤ m.val + 1 := by rw [h, Nat.add_le_add_iff_right]; rfl
  rw [decide_eq_decide.2 from', bne_eq_decide, bne_eq_decide]

theorem State.inState_eq (r : RecState) {start : Byte} {n : RecNo} (h : start.toNat = n.val + 1) :
    s.inState r n = (List.finRange 64).filter fun m => decide (start.toNat ≤ m.val + 1) && s.recState m == r := by
  refine List.filter_congr fun m _ => ?_
  have from' : n ≤ m ↔ start.toNat ≤ m.val + 1 := by rw [h, Nat.add_le_add_iff_right]; rfl
  rw [decide_eq_decide.2 from', beq_eq_decide]

theorem RecState.ofCode_code (r : RecState) : RecState.ofCode (BitVec.ofNat 8 r.code) = some r := by cases r <;> rfl

theorem RecState.ofCode_eq_none {b : Byte} (h : 8 < b.toNat) : RecState.ofCode b = none := by
  unfold RecState.ofCode
  split
  iterate 9 omega
  rfl

variable (tag : Half) (start node outlet : Byte)

theorem allotFind_tag {n : RecNo} (h : recordNumber start = some n) :
    allotFind 1 tag start node outlet s = (s.readFrom n, .done (searchReply ((s.readFrom n).tagged tag n))) := by
  simp [allotFind, h]

theorem allotFind_tag_bad (h : recordNumber start = none) :
    allotFind 1 tag start node outlet s = (s, .of .badField) := by
  simp [allotFind, h]

theorem allotFind_place {node outlet : Byte} {o : OutletId} (h : outletId node outlet = some o) :
    allotFind 2 tag start node outlet s = (s.readBinding o, .done (searchReply ((s.readBinding o).boundTo o).toList)) := by
  simp [allotFind, h]

theorem allotFind_place_bad {node outlet : Byte} (h : outletId node outlet = none) :
    allotFind 2 tag start node outlet s = (s, .of .badField) := by
  simp [allotFind, h]

theorem allotFind_bad_key {key : Byte} (h : key ≠ 1) (h' : key ≠ 2) :
    allotFind key tag start node outlet s = (s, .of .badField) := by
  unfold allotFind
  split
  next e => exact absurd (BitVec.eq_of_toNat_eq e) h
  next e => exact absurd (BitVec.eq_of_toNat_eq e) h'
  · rfl

theorem allotList_of_ok {st : Byte} {r : RecState} {n : RecNo} (h : RecState.ofCode st = some r)
    (h' : recordNumber start = some n) :
    allotList st start s = (s.readFrom n, .done (searchReply ((s.readFrom n).inState r n))) := by
  simp [allotList, h, h']

theorem allotList_of_bad {st : Byte} (h : RecState.ofCode st = none ∨ recordNumber start = none) :
    allotList st start s = (s, .of .badField) := by
  unfold allotList
  split
  next e e' => simp [e, e'] at h
  · rfl

/-! ### A search by outlet that meets an error -/

theorem State.readBinding_oneFlip {o : OutletId} (h : s.nva.map[o.index].verdict = .oneFlip) :
    s.readBinding o = (s.setBinding o (s.boundTo o)).latch .recordCorrected := by rw [State.readBinding, h]

theorem State.readBinding_lost {o : OutletId} (h : s.nva.map[o.index].verdict = .lost) :
    s.readBinding o = (s.rebuildBinding o).latch .recordCorrected := by rw [State.readBinding, h]

/-- Whether a record's terms section names an outlet, so that a rebuild takes it (R29). -/
def State.namesOutlet (s : State) (o : OutletId) (n : RecNo) : Bool :=
  s.nva.slots[n].terms.verdict != .lost && s.recState n != .vacant && (s.terms n).outlet == some o

theorem State.rebuilt_eq (o : OutletId) : s.rebuilt o = allRecords.find? (s.namesOutlet o) := by
  unfold State.rebuilt
  refine congrArg (fun p => allRecords.find? p) (funext fun n => ?_)
  rw [State.namesOutlet, bne_eq_decide, bne_eq_decide]

theorem State.boundTo_latch (f : Flag) (o : OutletId) : (s.latch f).boundTo o = s.boundTo o := rfl

theorem State.readBinding_rebuilt {o : OutletId} {n : RecNo} (h : s.nva.map[o.index].verdict = .lost)
    (e : s.rebuilt o = some n) : s.readBinding o = (s.setBinding o (some n)).latch .recordCorrected := by
  rw [State.readBinding_lost h, State.rebuildBinding, e]
  rfl

theorem State.readBinding_unbound {o : OutletId} (h : s.nva.map[o.index].verdict = .lost) (e : s.rebuilt o = none) :
    s.readBinding o = ((s.setBinding o none).openOutlet o).latch .recordCorrected := by
  rw [State.readBinding_lost h, State.rebuildBinding, e]
  rfl

end Search

/-- Settles O24: the replies of the searches, and the four readings of the entry that a search by outlet looks up. -/
theorem findAndListAnswerTheNumbers : Obligations.FindAndListAnswerTheNumbers := by
  refine ⟨fun key tag start node outlet st s ready calm reads map => ?_, fun tag start node outlet o s ready calm place => ?_⟩
  · have range : ∀ h : (decide (1 ≤ start.toNat) && decide (start.toNat ≤ 64)) = true,
        ∃ n : RecNo, recordNumber start = some n ∧ start.toNat = n.val + 1 := fun h => by
      simp only [Bool.and_eq_true, decide_eq_true_eq] at h
      exact recordNumber_of_range h.1 h.2
    have noRange : (decide (1 ≤ start.toNat) && decide (start.toNat ≤ 64)) = false → recordNumber start = none :=
      fun h => recordNumber_eq_none (by simpa using h)
    refine ⟨?_, fun o place two => ?_, ?_, fun r code inRange => ?_, fun bad => ?_⟩
    · rintro rfl inRange
      obtain ⟨n, number, first⟩ := range inRange
      refine request_of_calm .allotFind ready ?_ calm
      rw [allotFind_tag _ _ _ _ number, State.readFrom_of_allRead reads, searchReply_eq, State.tagged_eq tag first]
      rfl
    · subst two
      refine request_of_calm .allotFind ready ?_ calm
      rw [allotFind_place _ _ place, State.readBinding_clean _ _ (map o), searchReply_eq]
      rfl
    · rintro (⟨rfl, bad⟩ | ⟨rfl, bad⟩ | ⟨h, h'⟩)
      · exact request_of_calm .allotFind ready (allotFind_tag_bad _ _ _ _ (noRange bad)) calm
      · exact request_of_calm .allotFind ready (allotFind_place_bad _ _ bad) calm
      · exact request_of_calm .allotFind ready (allotFind_bad_key _ _ _ _ h h') calm
    · subst code
      obtain ⟨n, number, first⟩ := range inRange
      refine request_of_calm .allotList ready ?_ calm
      rw [allotList_of_ok _ r.ofCode_code number, State.readFrom_of_allRead reads, searchReply_eq,
        State.inState_eq r first]
      rfl
    · exact request_of_calm .allotList ready (allotList_of_bad _ (bad.imp RecState.ofCode_eq_none noRange)) calm
  · have answered := allotFind_place (s := s) tag start place
    rw [searchReply_toList] at answered
    refine ⟨fun flipped => ?_, fun lost => ⟨fun n names first => ?_, fun none => ?_⟩⟩
    · rw [State.readBinding_oneFlip flipped, State.boundTo_latch, State.boundTo_setBinding, if_pos rfl] at answered
      exact request_of_calm .allotFind ready answered calm
    · rw [State.readBinding_rebuilt lost (s.rebuilt_eq o ▸ find_allRecords_eq_some names first), State.boundTo_latch,
        State.boundTo_setBinding, if_pos rfl] at answered
      exact request_of_calm .allotFind ready answered calm
    · rw [State.readBinding_unbound lost (s.rebuilt_eq o ▸ find_allRecords_eq_none none)] at answered
      have unbound : (((s.setBinding o Option.none).openOutlet o).latch .recordCorrected).boundTo o = Option.none := by
        rw [State.boundTo_latch]
        exact (s.boundTo_setBinding o o Option.none).trans (if_pos rfl)
      rw [unbound] at answered
      exact request_of_calm .allotFind ready answered calm

end Sys2Proof.Machine

namespace Sys2Proof.Machine

/-! ## Images made of fields in a row (11.4) -/

section Fields

/-- The low bytes of a number, most significant first. -/
def fieldBytes : Nat → Nat → List Byte
  | 0, _ => []
  | k + 1, v => fieldBytes k (v / 256) ++ [BitVec.ofNat 8 v]

theorem byte1_eq_fieldBytes (v : Nat) : byte1 v = fieldBytes 1 v := rfl
theorem byte2_eq_fieldBytes (v : Nat) : byte2 v = fieldBytes 2 v := rfl
theorem byte3_eq_fieldBytes (v : Nat) : byte3 v = fieldBytes 3 v := by
  simp [byte3, fieldBytes, Nat.div_div_eq_div_mul]

@[simp] theorem length_fieldBytes (k v : Nat) : (fieldBytes k v).length = k := by
  induction k generalizing v with
  | zero => rfl
  | succ k ih => simp [fieldBytes, ih]

theorem foldl_fieldBytes (k v : Nat) : (fieldBytes k v).foldl (fun w b => 256 * w + b.toNat) 0 = v % 256 ^ k := by
  induction k generalizing v with
  | zero => simp [fieldBytes, Nat.mod_one]
  | succ k ih =>
    have split : v % 256 ^ (k + 1) = v % 256 + 256 * (v / 256 % 256 ^ k) := by
      rw [Nat.pow_succ', Nat.mod_mul]
    rw [fieldBytes, List.foldl_append, ih, split]
    simp [Nat.add_comm]

/-- The bytes of a table of fields, one after the other. -/
def rowOf (fields : List (Nat × Nat × Nat)) : List Byte := fields.flatMap fun f => fieldBytes f.2.1 f.2.2

/-- Whether each field of a table begins where the one before it ends. -/
def inRow : Nat → List (Nat × Nat × Nat) → Bool
  | _, [] => true
  | start, f :: fields => f.1 == start && inRow (start + f.2.1) fields

theorem fieldAt_append (pre post : List Byte) (k v : Nat) :
    fieldAt (pre ++ (fieldBytes k v ++ post)) pre.length k = v % 256 ^ k := by
  rw [fieldAt, List.drop_left, List.take_left' (length_fieldBytes k v), foldl_fieldBytes]

theorem fieldAt_of_inRow {fields : List (Nat × Nat × Nat)} {pre : List Byte} (h : inRow pre.length fields = true)
    {f : Nat × Nat × Nat} (mem : f ∈ fields) : fieldAt (pre ++ rowOf fields) f.1 f.2.1 = f.2.2 % 256 ^ f.2.1 := by
  induction fields generalizing pre with
  | nil => simp at mem
  | cons g fields ih =>
    simp only [inRow, Bool.and_eq_true, beq_iff_eq] at h
    obtain ⟨at', rest⟩ := h
    have row : rowOf (g :: fields) = fieldBytes g.2.1 g.2.2 ++ rowOf fields := List.flatMap_cons
    obtain rfl | mem := List.mem_cons.1 mem
    · rw [row, at', fieldAt_append]
    · rw [row, ← List.append_assoc]
      exact ih (by simpa using rest) mem

/-- An image whose bytes are those of its table. -/
theorem holdsFields_rowOf {fields : List (Nat × Nat × Nat)} (h : inRow 0 fields = true) :
    holdsFields (rowOf fields) fields := fun _ mem => fieldAt_of_inRow (pre := []) h mem

theorem marks_eq_bitsValue (bits : List Bool) : marks bits = bitsValue bits := by
  induction bits with
  | nil => rfl
  | cons b bits ih => exact congrArg (b.toNat + 2 * ·) ih

end Fields

/-! ## The record image (11.4) -/

section Image

variable (s : State) (n : RecNo)

theorem outletBytes_eq (place : Option OutletId) : outletBytes place =
    fieldBytes 1 ((place.map fun o => o.node.val + 1).getD 0) ++
      fieldBytes 1 ((place.map fun o => o.outlet.val + 1).getD 0) := by
  cases place <;> rfl

theorem Outlet.code_eq (x : Outlet) : x.code = bitsValue [x.closed, x.essential, x.answered] := marks_eq_bitsValue _

theorem State.recordImage_eq : s.recordImage n = rowOf (s.recordFields n) := by
  unfold State.recordImage State.recordFields rowOf RecNo.number
  simp only [List.flatMap_cons, List.flatMap_nil, List.append_nil, List.append_assoc, byte1_eq_fieldBytes,
    byte2_eq_fieldBytes, byte3_eq_fieldBytes, outletBytes_eq, marks_eq_bitsValue]
  simp only [Outlet.code_eq]

theorem State.inRow_recordFields : inRow 0 (s.recordFields n) = true := by
  simp [inRow, State.recordFields]

theorem State.length_recordImage : (s.recordImage n).length = 40 := by
  simp [State.recordImage_eq, rowOf, State.recordFields]

theorem State.holdsFields_recordImage : holdsFields (s.recordImage n) (s.recordFields n) := by
  rw [State.recordImage_eq]
  exact holdsFields_rowOf (s.inRow_recordFields n)

end Image

/-! ## A record that reads with an error (R28, R29) -/

section ReadErrors

variable (s : State) (n : RecNo) (o : OutletId)

theorem State.modAccount_modTerms (f : Terms → Terms) (g : Account → Account) :
    (s.modTerms n f).modAccount n g = s.setSlot n ⟨⟨f (s.terms n), .clean⟩, ⟨g (s.account n), .clean⟩⟩ := by
  simp [State.modTerms, State.modAccount, State.setSlot, State.modNva, State.terms, State.account]

theorem State.correctRecord_eq (taken : s.recState n ≠ .vacant) : s.correctRecord n =
    (s.setSlot n ⟨⟨s.terms n, .clean⟩, ⟨(s.account n).countCorrection, .clean⟩⟩).latch .recordCorrected := by
  rw [State.correctRecord, State.modAccount_modTerms, if_neg taken]
  rfl

theorem State.flag_latch_self (f : Flag) : (s.latch f).flag f = true := by
  have bound : f.bit < 21 := by cases f <;> decide
  simp [State.flag, State.latch, State.modSvl, bound]

theorem State.terms_suspectRecord : (s.suspectRecord n o).terms n =
    { s.terms n with state := .suspect, outlet := some o, stagedClass := none, stagedRank := none } := by
  rw [State.terms_eq, State.slots_suspectRecord, if_pos rfl]

theorem State.account_suspectRecord : (s.suspectRecord n o).account n = s.nva.slots[n].suspectAccount := by
  rw [State.account_eq, State.slots_suspectRecord, if_pos rfl]

theorem State.reads_suspectRecord : (s.suspectRecord n o).reads n := by
  rw [State.reads, State.slots_suspectRecord, if_pos rfl]
  exact ⟨rfl, rfl⟩

/-- What the rest of the part sees of a record that a read makes SUSPECT: its own working fields, its outlet ordered
open, its reservation and its restoration dropped, and its flags. -/
def State.suspected (s : State) (n : RecNo) (o : OutletId) : State :=
  (((s.dropRestoration n).dropReservation (.allotment n)).openOutlet o).modWork n fun w =>
    { w with liveTimer := 0, liveFrac := 0, overRun := 0, openRun := 0, holdoff := 0, holdoffFrac := 0,
             cooloff := 0, cooloffFrac := 0 }

theorem State.suspectRecord_views :
    (s.suspectRecord n o).nva.map = s.nva.map ∧ (s.suspectRecord n o).atb = (s.suspected n o).atb ∧
    (s.suspectRecord n o).fcl = (s.suspected n o).fcl ∧ (s.suspectRecord n o).sld = (s.suspected n o).sld ∧
    (s.suspectRecord n o).rsv = { (s.suspected n o).rsv with
      due := (s.suspected n o).rsv.due || decide (s.recState n = .shed) } ∧
    (s.suspectRecord n o).flag .recordSuspect = true := by
  have last (t : State) : (if s.recState n = .shed then (t.latch .recordSuspect).promptEvaluation
      else t.latch .recordSuspect).flag .recordSuspect = true := by
    split <;> exact t.flag_latch_self .recordSuspect
  refine ⟨?_, ?_, ?_, ?_, ?_, last _⟩
  all_goals
    by_cases shed : s.recState n = .shed <;>
      by_cases flipped : s.nva.slots[n].account.verdict = .oneFlip ∨ s.nva.slots[n].terms.verdict = .oneFlip <;>
      simp only [State.suspectRecord, State.suspected, shed, flipped, if_true, if_false] <;>
      simp [State.openOutlet, State.modOutlet, State.modWork, State.promptEvaluation]

theorem State.rsv_suspectRecord : (s.suspectRecord n o).rsv = { s.rsv with
    table := s.rsv.table.filter fun e => e.holder ≠ .allotment n
    due := s.rsv.due || s.holds (.allotment n) || decide (s.recState n = .shed) } := by
  obtain ⟨-, -, -, -, rsv, -⟩ := s.suspectRecord_views n o
  rw [rsv, State.suspected, (State.modWork_keeps _ _ _).2.2.2.2.1, (State.openOutlet_keeps _ _).2.2.2.2.1,
    State.rsv_dropReservation]
  rfl

theorem State.outlet_suspectRecord (p : OutletId) : (s.suspectRecord n o).outlet p =
    if p = o then { s.outlet p with closed := false, essential := false } else s.outlet p := by
  obtain ⟨-, -, fcl, -⟩ := s.suspectRecord_views n o
  rw [State.outlet_congr (congrArg Fcl.outlets fcl), State.suspected,
    State.outlet_congr (congrArg Fcl.outlets (State.modWork_keeps _ _ _).2.1), State.outlet_openOutlet,
    State.outlet_congr (s := s) (by simp)]

theorem State.recordKept_suspectRecord {m : RecNo} (h : m ≠ n) : s.recordKept (s.suspectRecord n o) m := by
  obtain ⟨-, atb, -⟩ := s.suspectRecord_views n o
  refine ⟨by rw [State.slots_suspectRecord, if_neg h], ?_⟩
  rw [State.work_congr atb, State.suspected, State.work_modWork, if_neg h]
  exact State.work_congr (by simp) m

variable {s n o}

theorem State.readRecord_of_flip (h : ¬ s.reads n) (terms : s.nva.slots[n].terms.verdict ≠ .lost)
    (account : s.nva.slots[n].account.verdict ≠ .lost) : s.readRecord n = s.correctRecord n := by
  obtain ⟨-, h'⟩ | ⟨e, -⟩ | ⟨lost, -⟩ := s.readRecord_cases n
  · exact absurd h' h
  · exact e
  · exact absurd lost (not_or.2 ⟨terms, account⟩)

theorem State.readRecord_of_lost (map : ∀ o, s.mapReads o) (place : s.mapOutlet n = some o)
    (lost : s.nva.slots[n].terms.verdict = .lost ∨ s.nva.slots[n].account.verdict = .lost) :
    s.readRecord n = s.suspectRecord n o := by
  obtain ⟨-, h⟩ | ⟨-, -, terms, account⟩ | ⟨-, ⟨p, e, e'⟩ | ⟨e, -⟩⟩ := s.readRecord_cases n
  · exact absurd lost (by rw [h.1, h.2]; decide)
  · exact absurd lost (not_or.2 ⟨terms, account⟩)
  · rw [s.readMap_clean map] at e e'
    rw [e', Option.some.inj (e.symm.trans place)]
  · rw [s.readMap_clean map, place] at e
    cases e

theorem State.mapReads_congr {t : State} (h : ∀ o, s.mapReads o) (e : t.nva.map = s.nva.map) : ∀ o, t.mapReads o := by
  intro o
  rw [State.mapReads, e]
  exact h o

/-- ALLOT_LOOKUP of a record whose read leaves it in `t`, the map reading without an error. -/
theorem allotLookup_of_read {b : Byte} {t : State} (number : b.toNat = n.val + 1) (read : s.readRecord n = t)
    (taken : t.recState n ≠ .vacant) (map : ∀ o, t.mapReads o) : allotLookup b s = (t, .done (t.recordImage n)) := by
  rw [allotLookup, onRecord_of_number _ number, read, if_neg taken, State.readPlace_of_mapReads fun _ => map]

end ReadErrors

/-! ## The number check of every request on a record -/

section NumberCheck

variable {i : Instr} {k : Kind} {b : Byte} {act : RecNo → Owner} {s : State}

/-- A request command on a record makes the number check first. -/
theorem exec_checksNumber (record : exec i s = request k (onRecord b act) s) (ready : s.ready) (calm : s.calm) :
    (b.toNat = 0 ∨ 64 < b.toNat → exec i s = .next (s.answer k.code ⟨.badField, []⟩)) ∧
    (∀ n : RecNo, b.toNat = n.val + 1 → s.reads n → s.recState n = .vacant →
      exec i s = .next (s.answer k.code ⟨.noRecord, []⟩)) := by
  rw [record]
  exact ⟨fun bad => request_of_calm k ready (onRecord_out_of_range _ bad) calm,
    fun _ number reads vacant => request_of_calm k ready (onRecord_vacant _ number reads vacant) calm⟩

/-- The codes of an ALLOT_AMEND that carries a holder alone are in order, so that the record is looked at. -/
theorem allotAmend_holder (b : Byte) (holder : Half) :
    ∃ act, allotAmend b 1 holder 0 0 0 0 0 0 = onRecord b act := ⟨_, if_pos (by decide)⟩

end NumberCheck

/-- Settles O18: the number check is `onRecord`'s, the image is its table's bytes in a row, and the three ways a record
reads are those of `readRecord_cases`. -/
theorem recordsAreNumberedAndRead : Obligations.RecordsAreNumberedAndRead := by
  refine ⟨fun b s p hp ready calm => ?_, fun b n s ready calm number taken map => ?_⟩
  · simp only [List.mem_cons, List.not_mem_nil, or_false] at hp
    obtain rfl | rfl | rfl | rfl | rfl | rfl := hp
    · exact exec_checksNumber (k := .allotActivate) rfl ready calm
    · exact exec_checksNumber (k := .allotSuspend) rfl ready calm
    · exact exec_checksNumber (k := .allotRetire) rfl ready calm
    · exact exec_checksNumber (k := .allotLookup) rfl ready calm
    · exact exec_checksNumber (k := .tripClear) rfl ready calm
    · obtain ⟨act, e⟩ := allotAmend_holder b 7
      exact exec_checksNumber (k := .allotAmend) (congrArg (request .allotAmend · s) e) ready calm
  · refine ⟨s.length_recordImage n, s.holdsFields_recordImage n, fun reads => ?_, fun flip terms account => ?_,
      fun o place lost => ?_⟩
    · have read := allotLookup_of_read number (State.readRecord_of_reads reads) taken map
      exact request_of_calm .allotLookup ready read calm
    · have corrected := (State.readRecord_of_flip flip terms account).trans (s.correctRecord_eq n taken)
      have state : ((s.setSlot n ⟨⟨s.terms n, .clean⟩, ⟨(s.account n).countCorrection, .clean⟩⟩).latch
          .recordCorrected).recState n = s.recState n :=
        congrArg Terms.state ((s.terms_setSlot n n _).trans (if_pos rfl))
      have read := allotLookup_of_read number corrected (state ▸ taken) (State.mapReads_congr map rfl)
      exact ⟨_, request_of_calm .allotLookup ready read calm, rfl⟩
    · have terms := s.terms_suspectRecord n o
      obtain ⟨bound, -, -, -, -, flag⟩ := s.suspectRecord_views n o
      have rsv := s.rsv_suspectRecord n o
      have suspect : (s.suspectRecord n o).recState n = .suspect := congrArg Terms.state terms
      have read := allotLookup_of_read number (State.readRecord_of_lost map place lost) (by rw [suspect]; decide)
        (State.mapReads_congr map bound)
      refine ⟨_, request_of_ready .allotLookup ready read, terms, fun zero => ?_, s.reads_suspectRecord n o, flag,
        State.holds_of_filter (congrArg Rsv.table rsv), ?_, s.outlet_suspectRecord n o,
        fun _ => s.recordKept_suspectRecord n o⟩
      · rw [State.account_suspectRecord, Slot.suspectAccount, if_pos zero]
      · rw [rsv, beq_eq_decide]
        simp only [State.calm] at calm
        simp [calm]

end Sys2Proof.Machine

namespace Sys2Proof.Machine

/-! ## The records at a reset (R10, R30, R31) -/

section ResetRecord

variable (s : State) (n m : RecNo)

/-- The terms of a record with its staged set applied, or discarded for a SUSPECT record (R31). -/
def Terms.unstaged (x : Terms) : Terms :=
  { x with
    stagedClass := none
    stagedRank := none
    cls := if x.state = .suspect then x.cls else x.stagedClass.orElse fun _ => x.cls
    rank := if x.state = .suspect then x.rank else x.stagedRank.getD x.rank }

theorem Terms.unstaged_of_suspect {x : Terms} (h : x.state = .suspect) :
    x.unstaged = { x with stagedClass := none, stagedRank := none } := by
  simp [Terms.unstaged, h]

theorem Terms.unstaged_of_trusted {x : Terms} (h : x.state ≠ .suspect) : x.unstaged = x.applyStaged := by
  simp [Terms.unstaged, Terms.applyStaged, h]

theorem Terms.applyStaged_of_plain {x : Terms} (h : x.staged = false) : x.applyStaged = x := by
  obtain ⟨state, holder, outlet, cls, rank, cap, quota, stagedClass, stagedRank⟩ := x
  cases stagedClass <;> cases stagedRank <;> simp_all [Terms.staged, Terms.applyStaged]

theorem Terms.unstaged_of_plain {x : Terms} (h : x.staged = false) : x.unstaged = x := by
  by_cases suspect : x.state = .suspect
  · rw [Terms.unstaged_of_suspect suspect]
    obtain ⟨state, holder, outlet, cls, rank, cap, quota, stagedClass, stagedRank⟩ := x
    cases stagedClass <;> cases stagedRank <;> simp_all [Terms.staged]
  · rw [Terms.unstaged_of_trusted suspect, Terms.applyStaged_of_plain h]

theorem State.modTerms_congr {f g : Terms → Terms} (h : f (s.terms n) = g (s.terms n)) :
    s.modTerms n f = s.modTerms n g := by
  unfold State.terms at h
  simp only [State.modTerms, State.modNva, h]

/-- The staged step of a reset: the terms of the record, if they change at all. -/
theorem State.resetStaged_cases :
    (s.resetStaged n = s ∧ (s.terms n).unstaged = s.terms n) ∨
      s.resetStaged n = s.modTerms n fun x => x.unstaged := by
  unfold State.resetStaged
  split
  next staged =>
    refine .inr ?_
    split
    next suspect => exact s.modTerms_congr n (Terms.unstaged_of_suspect suspect).symm
    next trusted => exact s.modTerms_congr n (Terms.unstaged_of_trusted trusted).symm
  next plain => exact .inl ⟨rfl, Terms.unstaged_of_plain (Bool.eq_false_of_not_eq_true plain)⟩

/-- What the staged step leaves: the unstaged terms, and all else as it was. -/
theorem State.facts_resetStaged :
    (s.resetStaged n).terms n = (s.terms n).unstaged ∧ (s.resetStaged n).account n = s.account n ∧
    (∀ m, m ≠ n → (s.resetStaged n).nva.slots[m] = s.nva.slots[m]) ∧ (s.resetStaged n).nva.map = s.nva.map ∧
    (s.resetStaged n).atb = s.atb ∧ s.RecordFrame (s.resetStaged n) := by
  obtain ⟨e, plain⟩ | e := s.resetStaged_cases n <;> rw [e]
  · exact ⟨plain.symm, rfl, fun _ _ => rfl, rfl, rfl, .refl s⟩
  · refine ⟨s.terms_modTerms_same n _, s.account_modTerms n n _, fun m hm => ?_, rfl, rfl, .modTerms s n _⟩
    rw [State.slots_modTerms, if_neg hm]

/-- What a reset makes of a record's slot `x`, as the slot `y` (R31). -/
structure Slot.ResetsTo (x y : Slot) : Prop where
  dark : x.terms.value.state = .live ∨ x.terms.value.state = .restoring →
    y.terms.value = { x.terms.value.unstaged with state := if x.spent = true then .quotaOut else .shed } ∧
    y.account.value = if x.spent = true then x.account.value else { x.account.value with cause := some .plant }
  gone : x.terms.value.state = .retiring → y = Slot.vacant
  kept : x.terms.value.state ≠ .live → x.terms.value.state ≠ .restoring → x.terms.value.state ≠ .retiring →
    y.terms.value = x.terms.value.unstaged ∧ y.account.value = x.account.value

/-- The state step of a record that was LIVE or RESTORING. -/
theorem State.resetState_of_dark {s : State} {n : RecNo} (h : s.recState n = .live ∨ s.recState n = .restoring) :
    s.resetState n = if s.quotaSpent n = true then s.modTerms n fun x => { x with state := .quotaOut }
      else (s.modTerms n fun x => { x with state := .shed }).modAccount n fun a => { a with cause := some .plant } := by
  unfold State.resetState
  obtain e | e := h <;> rw [e]

theorem State.resetState_of_retiring {s : State} {n : RecNo} (h : s.recState n = .retiring) :
    s.resetState n = s.vacate n := by
  unfold State.resetState
  rw [h]

theorem State.resetState_of_other {s : State} {n : RecNo} (live : s.recState n ≠ .live)
    (restoring : s.recState n ≠ .restoring) (retiring : s.recState n ≠ .retiring) : s.resetState n = s := by
  unfold State.resetState
  split
  · exact absurd ‹_› live
  · exact absurd ‹_› restoring
  · exact absurd ‹_› retiring
  · rfl

/-- The state step as a whole: the record's slot, the working fields of the others, and the map. -/
theorem State.facts_resetState :
    ((s.recState n = .live ∨ s.recState n = .restoring →
        (s.resetState n).terms n = { s.terms n with state := if s.quotaSpent n = true then .quotaOut else .shed } ∧
        (s.resetState n).account n =
          if s.quotaSpent n = true then s.account n else { s.account n with cause := some .plant }) ∧
      (s.recState n = .retiring → (s.resetState n).nva.slots[n] = Slot.vacant) ∧
      (s.recState n ≠ .live → s.recState n ≠ .restoring → s.recState n ≠ .retiring →
        (s.resetState n).terms n = s.terms n ∧ (s.resetState n).account n = s.account n)) ∧
    (∀ m, m ≠ n → (s.resetState n).nva.slots[m] = s.nva.slots[m] ∧ (s.resetState n).work m = s.work m) ∧
    (s.resetState n).nva.map = (if s.recState n = .retiring then (s.unbind n).nva.map else s.nva.map) ∧
    ((s.resetState n).recState n = .tripped ↔ s.recState n = .tripped) ∧ s.RecordFrame (s.resetState n) := by
  by_cases dark : s.recState n = .live ∨ s.recState n = .restoring
  · have stays : s.recState n ≠ .retiring := by obtain e | e := dark <;> rw [e] <;> decide
    have untripped : s.recState n ≠ .tripped := by obtain e | e := dark <;> rw [e] <;> decide
    rw [State.resetState_of_dark dark, if_neg stays]
    split
    next spent =>
      refine ⟨⟨fun _ => ⟨s.terms_modTerms_same n _, s.account_modTerms n n _⟩, fun h => absurd h stays,
        fun live restoring => absurd dark (not_or.2 ⟨live, restoring⟩)⟩, fun m hm => ⟨?_, rfl⟩, rfl, ?_, .modTerms s n _⟩
      · rw [State.slots_modTerms, if_neg hm]
      · simp [untripped]
    next unspent =>
      refine ⟨⟨fun _ => ⟨?_, ?_⟩, fun h => absurd h stays,
        fun live restoring => absurd dark (not_or.2 ⟨live, restoring⟩)⟩, fun m hm => ⟨?_, rfl⟩, rfl, ?_,
        (State.RecordFrame.modTerms s n _).trans (.modAccount _ n _)⟩
      · rw [State.terms_modAccount, State.terms_modTerms_same]
      · rw [State.account_modAccount_same, State.account_modTerms]
      · rw [State.slots_modAccount, if_neg hm, State.slots_modTerms, if_neg hm]
      · simp [untripped]
  · obtain ⟨live, restoring⟩ := not_or.1 dark
    by_cases retiring : s.recState n = .retiring
    · have vacant : (s.vacate n).nva.slots[n] = Slot.vacant := by rw [State.slots_vacate, if_pos rfl]
      have state : (s.vacate n).recState n = .vacant := congrArg (fun x : Slot => x.terms.value.state) vacant
      rw [State.resetState_of_retiring retiring, if_pos retiring, retiring, state]
      exact ⟨⟨fun h => by simp at h, fun _ => vacant, fun _ _ h => absurd rfl h⟩,
        fun m hm => s.recordKept_vacate hm, s.map_vacate, by decide, .vacate s n⟩
    · rw [State.resetState_of_other live restoring retiring, if_neg retiring]
      exact ⟨⟨fun h => absurd h dark, fun h => absurd h retiring, fun _ _ _ => ⟨rfl, rfl⟩⟩, fun _ _ => ⟨rfl, rfl⟩, rfl,
        Iff.rfl, .refl s⟩

theorem Terms.state_unstaged (x : Terms) : x.unstaged.state = x.state := rfl

/-- The rewrite of one record at a reset. -/
theorem State.facts_resetRecord :
    s.nva.slots[n].ResetsTo ((s.resetRecord n).nva.slots[n]) ∧
    (s.resetRecord n).work n =
      { Working.zero with cooloff := if s.recState n = .tripped then s.svl.settings.tripCooloff else 0 } ∧
    (∀ m, m ≠ n → (s.resetRecord n).nva.slots[m] = s.nva.slots[m] ∧ (s.resetRecord n).work m = s.work m) ∧
    (s.resetRecord n).nva.map = (if s.recState n = .retiring then (s.unbind n).nva.map else s.nva.map) ∧
    s.RecordFrame (s.resetRecord n) := by
  obtain ⟨terms, account, others, map, atb, frame⟩ := s.facts_resetStaged n
  have state : (s.resetStaged n).recState n = s.recState n :=
    (congrArg Terms.state terms).trans (s.terms n).state_unstaged
  have spent : (s.resetStaged n).quotaSpent n = s.quotaSpent n := by
    rw [State.quotaSpent, State.quotaSpent, terms, account]
    rfl
  obtain ⟨⟨dark, gone, kept⟩, others', map', tripped, frame'⟩ := (s.resetStaged n).facts_resetState n
  rw [state, spent, terms, account] at dark
  rw [state] at gone kept map' tripped
  rw [terms, account] at kept
  have svl : ((s.resetStaged n).resetState n).svl = s.svl := by
    obtain ⟨_, _, _, _, _, _, _, e⟩ := frame.trans frame'
    rw [e]
  have nva : (s.resetRecord n).nva = ((s.resetStaged n).resetState n).nva := rfl
  have worked : ((s.resetStaged n).resetState n).RecordFrame (s.resetRecord n) := by
    unfold State.resetRecord State.resetWork
    exact .modWork _ n _
  refine ⟨⟨dark, gone, kept⟩, ?_, fun m hm => ⟨?_, ?_⟩, ?_, (frame.trans frame').trans worked⟩
  · rw [State.resetRecord, State.resetWork, State.work_modWork_same, if_congr tripped rfl rfl]
    rw [State.set_eq, svl]
  · rw [nva, (others' m hm).1, others m hm]
  · rw [State.resetRecord, State.resetWork, State.work_modWork, if_neg hm, (others' m hm).2, State.work_congr atb]
  · rw [nva, map', State.unbind, State.unbind, State.modNva, State.modNva, map]

end ResetRecord

/-! ### All records at a reset -/

section ResetRecords

variable (s : State)

theorem State.entry_unbind (n : RecNo) (o : OutletId) : (s.unbind n).nva.map[o.index] =
    if s.nva.map[o.index].verdict ≠ .lost ∧ s.boundTo o = some n then ⟨none, .clean⟩ else s.nva.map[o.index] := by
  simp only [State.unbind, State.modNva, State.boundTo, Fin.getElem_fin, Vector.getElem_map]
  rfl

/-- Whether a reset that has done the records below `k` leaves a record bound. -/
def State.staysBound (s : State) (k : Nat) (n : RecNo) : Bool := !(decide (n.val < k) && s.recState n == .retiring)

/-- The reset of the records once it has done those below `k`. -/
structure State.ResetBelow (s : State) (k : Nat) (t : State) : Prop where
  ahead : ∀ m : RecNo, k ≤ m.val → t.nva.slots[m] = s.nva.slots[m]
  behind : ∀ m : RecNo, m.val < k → s.nva.slots[m].ResetsTo (t.nva.slots[m]) ∧
    t.work m = { Working.zero with cooloff := if s.recState m = .tripped then s.svl.settings.tripCooloff else 0 }
  bound : ∀ o : OutletId, s.nva.map[o.index].verdict ≠ .lost →
    t.nva.map[o.index].verdict ≠ .lost ∧ t.boundTo o = (s.boundTo o).filter (s.staysBound k)
  lost : ∀ o : OutletId, s.nva.map[o.index].verdict = .lost → t.nva.map[o.index] = s.nva.map[o.index]
  frame : s.RecordFrame t

theorem State.resetBelow_zero : s.ResetBelow 0 s where
  ahead _ _ := rfl
  behind _ h := absurd h (Nat.not_lt_zero _)
  bound o h := ⟨h, by cases s.boundTo o <;> rfl⟩
  lost _ _ := rfl
  frame := .refl s

variable {s}

theorem State.staysBound_succ_of_stays {n : RecNo} (h : s.recState n ≠ .retiring) :
    s.staysBound (n + 1) = s.staysBound n := by
  funext m
  unfold State.staysBound
  by_cases e : m = n
  · subst e
    simp [h]
  · rw [decide_eq_decide.2 (show m.val < n.val + 1 ↔ m.val < n.val by have := Fin.val_ne_of_ne e; omega)]

/-- The next record's binding goes if it was RETIRING. -/
theorem State.filter_staysBound_succ {n : RecNo} (h : s.recState n = .retiring) (b : Option RecNo) :
    b.filter (s.staysBound (n + 1)) =
      if b.filter (s.staysBound n) = some n then none else b.filter (s.staysBound n) := by
  cases b with
  | none => simp
  | some m =>
    by_cases e : m = n
    · subst e
      simp [State.staysBound, h]
    · have same : s.staysBound (n + 1) m = s.staysBound n m := by
        unfold State.staysBound
        rw [decide_eq_decide.2 (show m.val < n.val + 1 ↔ m.val < n.val by have := Fin.val_ne_of_ne e; omega)]
      simp only [Option.filter, same]
      split <;> simp [e]

theorem State.ResetBelow.succ {n : RecNo} {t : State} (h : s.ResetBelow n t) : s.ResetBelow (n + 1) (t.resetRecord n) := by
  obtain ⟨own, work, others, map, frame⟩ := t.facts_resetRecord n
  have slot := h.ahead n le_rfl
  have state : t.recState n = s.recState n := congrArg (fun x : Slot => x.terms.value.state) slot
  have svl : t.svl = s.svl := by
    obtain ⟨_, _, _, _, _, _, _, e⟩ := h.frame
    rw [e]
  rw [slot] at own
  rw [state, svl] at work
  rw [state] at map
  refine ⟨fun m hm => ?_, fun m hm => ?_, fun o ho => ?_, fun o ho => ?_, h.frame.trans frame⟩
  · rw [(others m (by rintro rfl; omega)).1, h.ahead m (by omega)]
  · by_cases e : m = n
    · subst e
      exact ⟨own, work⟩
    · rw [(others m e).1, (others m e).2]
      exact h.behind m (by have := Fin.val_ne_of_ne e; omega)
  · obtain ⟨verdict, value⟩ := h.bound o ho
    by_cases retiring : s.recState n = .retiring
    · rw [if_pos retiring] at map
      rw [map, State.boundTo_congr map, State.entry_unbind, State.boundTo_unbind, if_congr (and_iff_right verdict) rfl rfl,
        if_congr (and_iff_right verdict) rfl rfl, value, State.filter_staysBound_succ retiring]
      refine ⟨?_, rfl⟩
      split
      · exact Verdict.noConfusion
      · exact verdict
    · rw [if_neg retiring] at map
      rw [map, State.boundTo_congr map, State.staysBound_succ_of_stays retiring]
      exact ⟨verdict, value⟩
  · have entry := h.lost o ho
    have verdict : t.nva.map[o.index].verdict = .lost := by rw [entry, ho]
    rw [map, ← entry]
    split
    · rw [State.entry_unbind, if_neg fun h => h.1 verdict]
    · rfl

theorem State.resetBelow_resetRecords : s.ResetBelow 64 (s.eachRecord State.resetRecord) :=
  State.eachRecord_induction s.resetBelow_zero fun _ _ => State.ResetBelow.succ

/-! ### The part around the records -/

/-- The state that the start-up scan finds: the settings and the plant record loaded, every block at its reset state. -/
def State.loaded (s : State) : State := (s.cutStore.modSvl Svl.reset).loadPage.loadPlantRecord.resetBlocks

theorem State.records_loadPage : s.loadPage.nva.slots = s.nva.slots ∧ s.loadPage.nva.map = s.nva.map := by
  unfold State.loadPage
  split
  · split <;> exact ⟨rfl, rfl⟩
  · dsimp only
    split <;> exact ⟨rfl, rfl⟩
  · exact ⟨rfl, rfl⟩

theorem State.records_loadPlantRecord :
    s.loadPlantRecord.nva.slots = s.nva.slots ∧ s.loadPlantRecord.nva.map = s.nva.map := by
  unfold State.loadPlantRecord
  split <;> exact ⟨rfl, rfl⟩

theorem State.records_cutStore : s.cutStore.nva.slots = s.nva.slots ∧ s.cutStore.nva.map = s.nva.map := by
  unfold State.cutStore
  split <;> exact ⟨rfl, rfl⟩

/-- The loads leave the records and the map as they are. -/
theorem State.records_loaded : s.loaded.nva.slots = s.nva.slots ∧ s.loaded.nva.map = s.nva.map := by
  obtain ⟨page, page'⟩ := (s.cutStore.modSvl Svl.reset).records_loadPage
  obtain ⟨plant, plant'⟩ := (s.cutStore.modSvl Svl.reset).loadPage.records_loadPlantRecord
  rw [State.loaded, State.nva_resetBlocks, plant, page, plant', page']
  exact s.records_cutStore

theorem State.allRead_congr {t : State} (h : s.allRead) (e : t.nva.slots = s.nva.slots) : t.allRead := by
  intro n
  rw [State.reads, e]
  exact h n

theorem State.resetAll_eq (h : s.allRead) :
    s.resetAll = (s.loaded.eachRecord State.resetRecord).modRsv fun _ => .reset := by
  have scan : s.loaded.startUpScan = s.loaded :=
    State.readEach_of_allRead _ (State.allRead_congr h (State.records_loaded).1)
  rw [← scan]
  rfl

end ResetRecords

/-- Settles O17: past a scan that finds nothing to correct, each record is rewritten by its own slot alone. -/
theorem resetRewritesTheRecords : Obligations.ResetRewritesTheRecords := by
  intro s reads
  obtain ⟨slots, map⟩ := State.records_loaded (s := s)
  have done : s.loaded.ResetBelow 64 (s.loaded.eachRecord State.resetRecord) := State.resetBelow_resetRecords
  have result := State.resetAll_eq reads
  generalize s.loaded.eachRecord State.resetRecord = t at done result
  obtain ⟨-, behind, bound, lost, frame⟩ := done
  have svl : t.svl = s.loaded.svl := by
    obtain ⟨_, _, _, _, _, _, _, e⟩ := frame
    rw [e]
  refine ⟨_, congrArg Host.Outcome.next result, fun n => ?_, fun o => ⟨fun ho => ?_, fun ho => ?_⟩⟩
  · obtain ⟨⟨dark, gone, kept⟩, work⟩ := behind n n.isLt
    rw [slots] at dark gone kept
    rw [State.recState_congr slots, ← svl] at work
    refine ⟨?_, work⟩
    have darkened (h : s.recState n = .live ∨ s.recState n = .restoring) :
        if s.quotaSpent n = true then
          t.terms n = { (s.terms n).unstaged with state := .quotaOut } ∧ t.account n = s.account n
        else t.terms n = { (s.terms n).unstaged with state := .shed } ∧
          t.account n = { s.account n with cause := some .plant } := by
      obtain ⟨terms, account⟩ := dark h
      rw [← State.quotaSpent_eq] at terms account
      split
      next spent =>
        rw [if_pos spent] at account
        exact ⟨terms.trans (congrArg (fun st => { (s.terms n).unstaged with state := st }) (if_pos spent)), account⟩
      next unspent =>
        rw [if_neg unspent] at account
        exact ⟨terms.trans (congrArg (fun st => { (s.terms n).unstaged with state := st }) (if_neg unspent)), account⟩
    dsimp only
    split
    next e => exact darkened (.inl e)
    next e => exact darkened (.inr e)
    next e => exact gone e
    next live restoring retiring => exact kept live restoring retiring
  · rw [← map] at ho
    refine (bound o ho).2.trans ?_
    rw [State.boundTo_congr map]
    cases s.boundTo o with
    | none => rfl
    | some n =>
      have all : s.loaded.staysBound 64 n = !(s.recState n == .retiring) := by
        simp [State.staysBound, State.recState_congr slots]
      dsimp only
      split
      next e => simp [Option.filter, all, e]
      next e => simp [Option.filter, all, e]
  · rw [← map] at ho ⊢
    exact lost o ho

end Sys2Proof.Machine

namespace Sys2Proof.Machine

/-! ## The checks of an amendment (R8, R11, R12) -/

section AmendChecks

variable (m : Amendment) (x : Terms) (present : Option OutletId) (rangesOk taken : Bool)

/-- The six checks of R8 in one row. -/
theorem Amendment.check_eq : m.check rangesOk taken x present =
    if x.state = .retiring then some .wrongState
    else if rangesOk = false then some .badField
    else if x.state = .suspect ∧ m.full = false then some .wrongState
    else if (m.move present).isSome ∧ x.state ≠ .dormant ∧ x.state ≠ .suspect then some .wrongState
    else if (m.move present).isSome ∧ taken then some .outletTaken
    else if m.essentialWithQuota x then some .badField
    else none := by
  unfold Amendment.check Amendment.checkFields Amendment.checkOutlet
  by_cases retiring : x.state = .retiring
  · simp [retiring]
  by_cases ranges : rangesOk = false
  · simp [retiring, ranges]
  by_cases part : x.state = .suspect ∧ m.full = false
  · simp [part, Bool.eq_true_of_not_eq_false ranges]
  · simp [retiring, part, Bool.eq_true_of_not_eq_false ranges]

variable {s : State} {n : RecNo} {number presence : Byte} {holder cap quota : Half} {cls rank node outlet : Byte}

theorem State.readMove_of_mapReads (map : ∀ o, s.mapReads o) (n : RecNo) (m : Amendment) : s.readMove n m = s := by
  unfold State.readMove
  rw [State.readPlace_of_mapReads fun _ => map]
  dsimp only
  split
  · split
    · exact s.readBinding_clean _ (map _)
    · rfl
  · rfl

/-- The checks on an amendment that a request carries. -/
def State.amendCheck (s : State) (n : RecNo) (presence : Byte) (holder cap quota : Half)
    (cls rank node outlet : Byte) : Option Status :=
  let m := amendment presence holder cap quota cls rank node outlet
  m.check (m.inRange && amendOutletOk presence node outlet) (s.moveTaken m (s.outletOf n) n) (s.terms n) (s.outletOf n)

theorem allotAmend_of_codes (codes : amendCodesOk presence cls = false) :
    allotAmend number presence holder cap quota cls rank node outlet s = (s, .of .badField) := by
  unfold allotAmend
  rw [codes]
  rfl

section Checked

variable (codes : amendCodesOk presence cls = true) (name : number.toNat = n.val + 1) (reads : s.reads n)
  (found : s.recState n ≠ .vacant) (map : ∀ o, s.mapReads o)
include codes name reads found map

theorem allotAmend_of_refused {st : Status}
    (check : s.amendCheck n presence holder cap quota cls rank node outlet = some st) :
    allotAmend number presence holder cap quota cls rank node outlet s = (s, .of st) := by
  unfold allotAmend
  rw [if_pos codes, onRecord_of_reads _ name reads found]
  unfold State.amendCheck Amendment.check at check
  dsimp only at check ⊢
  rw [State.readMove_of_mapReads map]
  split
  next e => rw [e] at check; exact congrArg (fun st => (s, Answer.of st)) (Option.some.inj check)
  next e =>
    rw [e, Option.orElse_none] at check
    rw [check]

theorem allotAmend_of_accepted
    (check : s.amendCheck n presence holder cap quota cls rank node outlet = none) :
    allotAmend number presence holder cap quota cls rank node outlet s =
      (s.amendRecord n (amendment presence holder cap quota cls rank node outlet), .of .done) := by
  unfold allotAmend
  rw [if_pos codes, onRecord_of_reads _ name reads found]
  unfold State.amendCheck Amendment.check at check
  dsimp only at check ⊢
  rw [State.readMove_of_mapReads map]
  split
  next e => rw [e] at check; cases check
  next e =>
    rw [e, Option.orElse_none] at check
    rw [check]

end Checked
end AmendChecks

/-! ### The fields of a request by its presence bits (11.2) -/

section AmendFields

variable {presence cls rank node outlet : Byte} {holder cap quota : Half}

theorem amendCodesOk_iff : amendCodesOk presence cls = true ↔ presence.getLsbD 7 = false ∧
    ¬ (presence.getLsbD 2 = true ∧ presence.getLsbD 3 = true) ∧
    (presence.getLsbD 4 = true → (AllotClass.ofCode cls).isSome = true) := by
  unfold amendCodesOk
  generalize presence.getLsbD 7 = bit7, presence.getLsbD 2 = bit2, presence.getLsbD 3 = bit3, presence.getLsbD 4 = bit4
  simp only [Bool.and_eq_true, Bool.or_eq_true, Bool.not_eq_true', Bool.and_eq_false_iff, and_assoc]
  refine and_congr_right fun _ => and_congr ?_ ?_
  · cases bit2 <;> simp
  · cases bit4 <;> simp

theorem all_ite_eq_false {α : Type} {b : Bool} {v : α} {p : α → Bool} :
    (if b = true then some v else none).all p = false ↔ b = true ∧ p v = false := by
  cases b <;> simp

/-- The ranges of R8 on the fields carried. -/
theorem amendRanges_eq_false (codes : amendCodesOk presence cls = true) :
    ((amendment presence holder cap quota cls rank node outlet).inRange && amendOutletOk presence node outlet) = false ↔
      (presence.getLsbD 1 = true ∧ capOk cap.toNat = false) ∨ (presence.getLsbD 2 = true ∧ quotaOk quota.toNat = false) ∨
        (presence.getLsbD 5 = true ∧ 63 < rank.toNat) ∨ (presence.getLsbD 6 = true ∧ outletId node outlet = none) := by
  obtain ⟨-, single, -⟩ := amendCodesOk_iff.1 codes
  have quotas : (if presence.getLsbD 3 = true then some none
      else if presence.getLsbD 2 = true then some (some quota.toNat) else none).all quotaFieldOk = false ↔
        presence.getLsbD 2 = true ∧ quotaOk quota.toNat = false := by
    cases e : presence.getLsbD 3
    · simpa [quotaFieldOk] using all_ite_eq_false (p := quotaFieldOk) (v := some quota.toNat) (b := presence.getLsbD 2)
    · have bit2 : presence.getLsbD 2 = false := Bool.eq_false_of_not_eq_true fun h => single ⟨h, e⟩
      simp [bit2, quotaFieldOk, -BitVec.getLsbD_eq_getElem]
  have place : amendOutletOk presence node outlet = false ↔
      presence.getLsbD 6 = true ∧ outletId node outlet = none := by
    unfold amendOutletOk
    cases presence.getLsbD 6 <;> simp
  have ranks : rankOk rank.toNat = false ↔ 63 < rank.toNat := by simp [rankOk]
  simp only [amendment, Amendment.inRange, Bool.and_eq_false_iff, all_ite_eq_false, quotas, place, ranks, or_assoc]

/-- Whether all six fields are carried (R12). -/
theorem amendment_full (codes : amendCodesOk presence cls = true) (place : amendOutletOk presence node outlet = true) :
    (amendment presence holder cap quota cls rank node outlet).full = false ↔
      ¬ (presence.getLsbD 0 = true ∧ presence.getLsbD 1 = true ∧
        (presence.getLsbD 2 = true ∨ presence.getLsbD 3 = true) ∧ presence.getLsbD 4 = true ∧
        presence.getLsbD 5 = true ∧ presence.getLsbD 6 = true) := by
  obtain ⟨-, -, named⟩ := amendCodesOk_iff.1 codes
  have quotas : (if presence.getLsbD 3 = true then some (none : Option Nat)
      else if presence.getLsbD 2 = true then some (some quota.toNat) else none).isSome = true ↔
        presence.getLsbD 2 = true ∨ presence.getLsbD 3 = true := by
    cases presence.getLsbD 3 <;> cases presence.getLsbD 2 <;> simp
  have classes : (if presence.getLsbD 4 = true then AllotClass.ofCode cls else none).isSome = true ↔
      presence.getLsbD 4 = true := by
    cases e : presence.getLsbD 4
    · simp
    · simpa using named e
  have places : (if presence.getLsbD 6 = true then outletId node outlet else none).isSome = true ↔
      presence.getLsbD 6 = true := by
    unfold amendOutletOk at place
    cases e : presence.getLsbD 6
    · simp
    · simpa [e, -BitVec.getLsbD_eq_getElem] using place
  rw [← Bool.not_eq_true]
  refine not_congr ?_
  simp only [amendment, Amendment.full, Bool.and_eq_true, Option.isSome_ite, quotas, classes, places, and_assoc]

/-- Whether a request moves its record (R8, R11). -/
theorem amendment_move (place : amendOutletOk presence node outlet = true) (present : Option OutletId) :
    ((amendment presence holder cap quota cls rank node outlet).move present).isSome =
      (presence.getLsbD 6 && outletId node outlet != present) := by
  unfold amendOutletOk at place
  cases e : presence.getLsbD 6 with
  | false => simp [amendment, Amendment.move, e, -BitVec.getLsbD_eq_getElem]
  | true =>
    simp only [e, Bool.not_true, Bool.false_or] at place
    obtain ⟨o, ho⟩ := Option.isSome_iff_exists.1 place
    by_cases same : present = some o
    · simp [amendment, Amendment.move, e, ho, same, -BitVec.getLsbD_eq_getElem]
    · simp [amendment, Amendment.move, e, ho, same, Ne.symm same, -BitVec.getLsbD_eq_getElem]

variable {s : State} {n : RecNo}

/-- Whether the outlet moved to is another record's. -/
theorem moveTaken_amendment (moves : (presence.getLsbD 6 && outletId node outlet != s.outletOf n) = true) :
    s.moveTaken (amendment presence holder cap quota cls rank node outlet) (s.outletOf n) n =
      match outletId node outlet with
      | some o => s.boundTo o != none && s.boundTo o != some n
      | none => false := by
  simp only [Bool.and_eq_true, bne_iff_ne] at moves
  obtain ⟨bit6, ne⟩ := moves
  unfold State.moveTaken
  cases place : outletId node outlet with
  | none => simp [amendment, Amendment.move, bit6, place, -BitVec.getLsbD_eq_getElem]
  | some o =>
    have away : ¬ s.outletOf n = some o := fun h => ne (place.trans h.symm)
    simp only [amendment, Amendment.move, bit6, place, if_true, away, if_false]
    cases s.boundTo o with
    | none => rfl
    | some k =>
      have other : (some k != some n) = decide (k ≠ n) := by
        rw [Bool.eq_iff_iff, bne_iff_ne, decide_eq_true_iff]
        simp
      rw [other]
      rfl

/-- The ESSENTIAL test of R8. -/
theorem amendment_essentialWithQuota (codes : amendCodesOk presence cls = true)
    (full : s.recState n = .suspect → presence.getLsbD 4 = true) :
    (amendment presence holder cap quota cls rank node outlet).essentialWithQuota (s.terms n) = true ↔
      (if presence.getLsbD 3 = true then none else if presence.getLsbD 2 = true then some quota.toNat
        else (s.terms n).quota).isSome = true ∧
      ((if presence.getLsbD 4 = true then AllotClass.ofCode cls else (s.terms n).stagedClass) = some .essential ∨
        (s.recState n ≠ .suspect ∧ (s.terms n).cls = some .essential)) := by
  obtain ⟨-, -, named⟩ := amendCodesOk_iff.1 codes
  have quotas : (amendment presence holder cap quota cls rank node outlet).quota.getD (s.terms n).quota =
      if presence.getLsbD 3 = true then none else if presence.getLsbD 2 = true then some quota.toNat
        else (s.terms n).quota := by
    cases e : presence.getLsbD 3 <;> cases e' : presence.getLsbD 2 <;> simp [amendment, e, e', -BitVec.getLsbD_eq_getElem]
  have classes : ((amendment presence holder cap quota cls rank node outlet).cls.orElse fun _ =>
      (s.terms n).stagedClass) =
        if presence.getLsbD 4 = true then AllotClass.ofCode cls else (s.terms n).stagedClass := by
    cases e : presence.getLsbD 4
    · simp [amendment, e, -BitVec.getLsbD_eq_getElem]
    · obtain ⟨c, hc⟩ := Option.isSome_iff_exists.1 (named e)
      simp [amendment, e, hc, -BitVec.getLsbD_eq_getElem]
  unfold Amendment.essentialWithQuota
  dsimp only
  rw [quotas, classes]
  by_cases suspect : (s.terms n).state = .suspect
  · have bit4 := full suspect
    simp [State.recState_eq, suspect, amendment, bit4, -BitVec.getLsbD_eq_getElem]
  · simp only [State.recState_eq, suspect, if_false, Bool.and_eq_true, Bool.or_eq_true, beq_iff_eq, ne_eq,
      not_false_eq_true, true_and]
    exact and_congr_right fun _ => or_comm

/-- The status of a request that fails a check of R8, by its checks in the order of the spec. -/
theorem State.amendCheck_of_chain (codes : amendCodesOk presence cls = true) {taken : Bool} {st : Status}
    (other : (presence.getLsbD 6 && outletId node outlet != s.outletOf n) = true →
      s.moveTaken (amendment presence holder cap quota cls rank node outlet) (s.outletOf n) n = taken)
    (chain :
      if s.recState n = .retiring then st = .wrongState
      else if (presence.getLsbD 1 = true ∧ capOk cap.toNat = false) ∨
          (presence.getLsbD 2 = true ∧ quotaOk quota.toNat = false) ∨
          (presence.getLsbD 5 = true ∧ 63 < rank.toNat) ∨ (presence.getLsbD 6 = true ∧ outletId node outlet = none) then
        st = .badField
      else if s.recState n = .suspect ∧ ¬ (presence.getLsbD 0 = true ∧ presence.getLsbD 1 = true ∧
          (presence.getLsbD 2 = true ∨ presence.getLsbD 3 = true) ∧ presence.getLsbD 4 = true ∧
          presence.getLsbD 5 = true ∧ presence.getLsbD 6 = true) then st = .wrongState
      else if (presence.getLsbD 6 && outletId node outlet != s.outletOf n) = true ∧ s.recState n ≠ .dormant ∧
          s.recState n ≠ .suspect then st = .wrongState
      else if (presence.getLsbD 6 && outletId node outlet != s.outletOf n) = true ∧ taken = true then st = .outletTaken
      else if (if presence.getLsbD 3 = true then none else if presence.getLsbD 2 = true then some quota.toNat
            else (s.terms n).quota).isSome = true ∧
          ((if presence.getLsbD 4 = true then AllotClass.ofCode cls else (s.terms n).stagedClass) = some .essential ∨
            (s.recState n ≠ .suspect ∧ (s.terms n).cls = some .essential)) then st = .badField
      else st = .done)
    (bad : st ≠ .done) : s.amendCheck n presence holder cap quota cls rank node outlet = some st := by
  unfold State.amendCheck
  rw [Amendment.check_eq, ← State.recState_eq]
  by_cases retiring : s.recState n = .retiring
  · rw [if_pos retiring] at chain ⊢
    rw [chain]
  rw [if_neg retiring] at chain ⊢
  have ranges_iff := amendRanges_eq_false (node := node) (outlet := outlet) (holder := holder) (cap := cap)
    (quota := quota) (rank := rank) codes
  split
  next ranges =>
    rw [if_pos (ranges_iff.1 ranges)] at chain
    rw [chain]
  next ranges =>
    have place : amendOutletOk presence node outlet = true :=
      (Bool.and_eq_true_iff.1 (Bool.eq_true_of_not_eq_false ranges)).2
    have full_iff := amendment_full (holder := holder) (cap := cap) (quota := quota) (rank := rank) codes place
    have move := amendment_move (holder := holder) (cap := cap) (quota := quota) (cls := cls) (rank := rank) place
      (s.outletOf n)
    rw [if_neg (mt ranges_iff.2 ranges)] at chain
    rw [← move] at chain other
    split
    next part =>
      rw [if_pos ⟨part.1, full_iff.1 part.2⟩] at chain
      rw [chain]
    next part =>
      have essential_iff := amendment_essentialWithQuota (s := s) (n := n) (holder := holder) (cap := cap)
        (quota := quota) (rank := rank) (node := node) (outlet := outlet) codes fun suspect => by
          have full := fun e => part ⟨suspect, full_iff.2 e⟩
          exact (not_not.1 full).2.2.2.1
      rw [if_neg fun h => part ⟨h.1, full_iff.2 h.2⟩] at chain
      split
      next away =>
        rw [if_pos away] at chain
        rw [chain]
      next near =>
        rw [if_neg near] at chain
        split
        next blocked =>
          rw [if_pos ⟨blocked.1, other blocked.1 ▸ blocked.2⟩] at chain
          rw [chain]
        next free =>
          rw [if_neg fun h => free ⟨h.1, (other h.1).trans h.2⟩] at chain
          split
          next essential =>
            rw [if_pos (essential_iff.1 essential)] at chain
            rw [chain]
          next plain =>
            rw [if_neg (mt essential_iff.2 plain)] at chain
            exact absurd chain bad

end AmendFields
end Sys2Proof.Machine

namespace Sys2Proof.Machine

/-! ## An accepted amendment (R5, R9 to R12) -/

section Amended

variable (s : State) (n : RecNo) (o : OutletId)

/-! ### The quota test -/

/-- The state of a record after the quota test (R5). -/
def RecState.underQuota (spent : Bool) (st : RecState) : RecState :=
  match st with
  | .live | .restoring | .shed => if spent = true then .quotaOut else st
  | .quotaOut => if spent = true then .quotaOut else .shed
  | other => other

theorem RecState.underQuota_ne_suspect {spent : Bool} {st : RecState} (h : st ≠ .suspect) :
    st.underQuota spent ≠ .suspect := by
  cases st <;> cases spent <;> simp_all [RecState.underQuota]

/-- The quota test enters the state that it gives, where that is another. -/
theorem State.quotaTest_eq : s.quotaTest n =
    if (s.recState n).underQuota (s.quotaSpent n) = s.recState n then s
    else s.become n ((s.recState n).underQuota (s.quotaSpent n)) := by
  unfold State.quotaTest
  cases s.recState n <;> cases s.quotaSpent n <;> rfl

theorem State.terms_quotaTest : (s.quotaTest n).terms n =
    { s.terms n with state := (s.recState n).underQuota (s.quotaSpent n) } := by
  rw [State.quotaTest_eq]
  split
  next same => rw [same, State.recState_eq]
  · rw [State.terms_become, if_pos rfl]

theorem State.account_quotaTest (m : RecNo) : (s.quotaTest n).account m = s.account m := by
  rw [State.quotaTest_eq]
  split
  · rfl
  · exact State.account_become _ _ _ _

theorem State.map_quotaTest : (s.quotaTest n).nva.map = s.nva.map := by
  rw [State.quotaTest_eq]
  split
  · rfl
  · exact State.map_become _ _ _

theorem State.recordKept_quotaTest {m : RecNo} (h : m ≠ n) : s.recordKept (s.quotaTest n) m := by
  rw [State.quotaTest_eq]
  split
  · exact ⟨rfl, rfl⟩
  · exact s.recordKept_become _ h

theorem State.RecordFrame.quotaTest : s.RecordFrame (s.quotaTest n) := by
  rw [State.quotaTest_eq]
  exact .of_ite (fun _ => .refl s) fun _ => .become s n _

variable {s n} in
theorem State.outlet_quotaTest (trusted : s.recState n ≠ .suspect) : (s.quotaTest n).outlet o =
    if (s.recState n).underQuota (s.quotaSpent n) ≠ s.recState n ∧ (s.terms n).outlet = some o then
      { s.outlet o with closed := false, essential := false } else s.outlet o := by
  rw [State.quotaTest_eq]
  split
  next same => rw [if_neg fun h => h.1 same]
  next other =>
    rw [State.outlet_become _ _ _ _ (RecState.underQuota_ne_suspect trusted)]
    exact if_congr ⟨fun h => ⟨other, h⟩, And.right⟩ rfl rfl

theorem State.work_quotaTest_of_same (h : (s.recState n).underQuota (s.quotaSpent n) = s.recState n) :
    s.quotaTest n = s := by
  rw [State.quotaTest_eq, if_pos h]

theorem State.holdoff_quotaTest (h : (s.recState n).underQuota (s.quotaSpent n) = .shed)
    (out : s.recState n = .quotaOut) : ((s.quotaTest n).work n).holdoff = 0 := by
  rw [State.quotaTest_eq, h, out, if_neg (by decide), State.work_become, if_pos rfl]
  rfl

/-! ### The move -/

theorem State.work_moveOutlet (m : RecNo) : (s.moveOutlet n o).work m = if m = n then
    { s.work n with baseline := none, reading := none, fresh := false, openRun := 0, closedRun := 0 }
    else s.work m := by
  rw [State.moveOutlet, State.work_modWork]
  rfl

theorem State.terms_moveOutlet : (s.moveOutlet n o).terms n = { s.terms n with outlet := some o } := by
  rw [State.terms_eq, State.slots_moveOutlet, if_pos rfl]

theorem State.account_moveOutlet : (s.moveOutlet n o).account n = s.account n := by
  rw [State.account_eq, State.slots_moveOutlet, if_pos rfl]
  rfl

theorem State.recordKept_moveOutlet {m : RecNo} (h : m ≠ n) : s.recordKept (s.moveOutlet n o) m :=
  ⟨by rw [State.slots_moveOutlet, if_neg h], by rw [State.work_moveOutlet, if_neg h]⟩

variable {s} in
theorem State.boundTo_moveOutlet (map : ∀ o, s.mapReads o) (p : OutletId) : (s.moveOutlet n o).boundTo p =
    if p = o then some n else if s.boundTo p = some n then none else s.boundTo p := by
  have clean : s.nva.map[p.index].verdict ≠ .lost := by
    rw [map p]
    decide
  show ((s.unbind n).setBinding o (some n)).boundTo p = _
  rw [State.boundTo_setBinding, State.boundTo_unbind, if_congr (and_iff_right clean) rfl rfl]

theorem State.RecordFrame.moveOutlet : s.RecordFrame (s.moveOutlet n o) :=
  (((State.RecordFrame.unbind s n).trans (.setBinding _ o _)).trans (.modTerms _ n _)).trans (.modWork _ n _)

theorem State.fcl_moveOutlet : (s.moveOutlet n o).fcl = s.fcl := rfl

/-! ### The amendment -/

/-- The record with its terms amended, and moved where the request moves it. -/
def State.amended (s : State) (n : RecNo) (f : Terms → Terms) (move : Option OutletId) : State :=
  match move with
  | some o => (s.modTerms n f).moveOutlet n o
  | none => s.modTerms n f

variable {s n} {f : Terms → Terms} {move : Option OutletId}

theorem State.amendRecord_of_suspect {m : Amendment} (h : s.recState n = .suspect) :
    s.amendRecord n m = s.amended n m.rewrite (m.move (s.outletOf n)) := by
  unfold State.amendRecord State.amended
  dsimp only
  cases m.move (s.outletOf n) <;> simp only [h, if_true]

theorem State.amendRecord_of_trusted {m : Amendment} (h : s.recState n ≠ .suspect) :
    s.amendRecord n m = (s.amended n m.amend (m.move (s.outletOf n))).quotaTest n := by
  unfold State.amendRecord State.amended
  dsimp only
  cases m.move (s.outletOf n) <;> simp only [h, if_false]

theorem State.terms_amended : (s.amended n f move).terms n =
    { f (s.terms n) with outlet := move.orElse fun _ => (f (s.terms n)).outlet } := by
  cases move with
  | none => exact s.terms_modTerms_same n f
  | some o => exact ((s.modTerms n f).terms_moveOutlet n o).trans (by rw [State.terms_modTerms_same]; rfl)

theorem State.account_amended : (s.amended n f move).account n = s.account n := by
  cases move with
  | none => exact s.account_modTerms n n f
  | some o => exact ((s.modTerms n f).account_moveOutlet n o).trans (s.account_modTerms n n f)

theorem State.fcl_amended : (s.amended n f move).fcl = s.fcl := by cases move <;> rfl

theorem State.recordKept_amended {m : RecNo} (h : m ≠ n) : s.recordKept (s.amended n f move) m := by
  have kept : s.recordKept (s.modTerms n f) m := ⟨by rw [State.slots_modTerms, if_neg h], rfl⟩
  cases move with
  | none => exact kept
  | some o => exact kept.trans ((s.modTerms n f).recordKept_moveOutlet n o h)

theorem State.RecordFrame.amended : s.RecordFrame (s.amended n f move) := by
  cases move with
  | none => exact .modTerms s n f
  | some o => exact (State.RecordFrame.modTerms s n f).trans (.moveOutlet _ n o)

theorem State.work_amended_of_stays : (s.amended n f none).work n = s.work n := rfl

theorem State.work_amended_of_move : (s.amended n f (some o)).work n =
    { s.work n with baseline := none, reading := none, fresh := false, openRun := 0, closedRun := 0 } :=
  ((s.modTerms n f).work_moveOutlet n o n).trans (if_pos rfl)

theorem State.boundTo_amended_of_move (map : ∀ o, s.mapReads o) (p : OutletId) :
    (s.amended n f (some o)).boundTo p =
      if p = o then some n else if s.boundTo p = some n then none else s.boundTo p :=
  State.boundTo_moveOutlet (s := s.modTerms n f) n o map p

end Amended

/-! ### An amendment that passes its checks -/

section Accepted

variable {s : State} {n : RecNo}

/-- What the checks of R8 have found of a request that they pass. -/
theorem Amendment.of_check_eq_none {m : Amendment} {rangesOk taken : Bool} {x : Terms} {present : Option OutletId}
    (h : m.check rangesOk taken x present = none) :
    rangesOk = true ∧ (x.state = .suspect → m.full = true) ∧
      ((m.move present).isSome = true → x.state = .dormant ∨ x.state = .suspect) := by
  rw [Amendment.check_eq] at h
  split at h
  · cases h
  split at h
  · cases h
  next ranges =>
    split at h
    · cases h
    next part =>
      split at h
      · cases h
      next near =>
        refine ⟨Bool.eq_true_of_not_eq_false ranges, fun suspect => ?_, fun moves => ?_⟩
        · exact Bool.eq_true_of_not_eq_false fun full => part ⟨suspect, full⟩
        · by_contra off
          obtain ⟨h1, h2⟩ := not_or.1 off
          exact near ⟨moves, h1, h2⟩

theorem Amendment.outlet_of_move {m : Amendment} {present : Option OutletId} {o : OutletId}
    (h : m.move present = some o) : m.outlet = some o := by
  unfold Amendment.move at h
  split at h
  next e =>
    split at h
    · cases h
    · rw [e, Option.some.inj h]
  · cases h

/-- The terms of a full rewrite (R12). -/
theorem rewrite_amendment {presence : Byte} {holder cap quota : Half} {cls rank node outlet : Byte} {x : Terms}
    (codes : amendCodesOk presence cls = true) (place : amendOutletOk presence node outlet = true)
    (full : (amendment presence holder cap quota cls rank node outlet).full = true) :
    (amendment presence holder cap quota cls rank node outlet).rewrite x =
      { state := .dormant, holder := holder, outlet := outletId node outlet, cls := AllotClass.ofCode cls,
        rank := rank.toNat, cap := cap.toNat,
        quota := if presence.getLsbD 3 = true then none else some quota.toNat, stagedClass := none,
        stagedRank := none } := by
  obtain ⟨-, -, named⟩ := amendCodesOk_iff.1 codes
  have bits := mt (amendment_full (holder := holder) (cap := cap) (quota := quota) (rank := rank) codes place).2
    (by simp [full])
  obtain ⟨bit0, bit1, bit23, bit4, bit5, bit6⟩ := not_not.1 bits
  obtain ⟨c, code⟩ := Option.isSome_iff_exists.1 (named bit4)
  obtain ⟨o, given⟩ : ∃ o, outletId node outlet = some o := by
    unfold amendOutletOk at place
    rw [bit6] at place
    exact Option.isSome_iff_exists.1 place
  simp only [amendment, Amendment.rewrite, bit0, bit1, bit4, bit5, bit6, if_true, code, given, Option.getD_some,
    Option.orElse_some]
  cases e : presence.getLsbD 3
  · have bit2 : presence.getLsbD 2 = true := bit23.resolve_right (by rw [e]; decide)
    simp [bit2, -BitVec.getLsbD_eq_getElem]
  · simp

/-- A SUSPECT record rewritten. -/
theorem State.terms_rewritten (m : Amendment) (present : Option OutletId) :
    (s.amended n m.rewrite (m.move present)).terms n = m.rewrite (s.terms n) := by
  rw [State.terms_amended]
  cases e : m.move present with
  | none => rfl
  | some o =>
    have out : (m.rewrite (s.terms n)).outlet = some o := by
      simp [Amendment.rewrite, Amendment.outlet_of_move e]
    rw [Option.orElse_some, ← out]

/-- What the quota test finds of an amended record. -/
theorem State.quotaSpent_amended (m : Amendment) (move : Option OutletId) :
    (s.amended n m.amend move).quotaSpent n =
      match m.quota.getD (s.terms n).quota with
      | some q => decide (q ≤ (s.account n).today)
      | none => false := by
  rw [State.quotaSpent, State.terms_amended, State.account_amended]
  rfl

theorem State.recState_amended (m : Amendment) (move : Option OutletId) :
    (s.amended n m.amend move).recState n = s.recState n := by
  rw [State.recState_eq, State.terms_amended]
  rfl

theorem State.outlet_amended (f : Terms → Terms) (move : Option OutletId) (o : OutletId) :
    (s.amended n f move).outlet o = s.outlet o := State.outlet_congr (congrArg Fcl.outlets State.fcl_amended) o

/-- A move has happened only to a DORMANT record, whose state the quota test keeps. -/
theorem State.move_of_underQuota {m : Amendment} {present : Option OutletId} {spent : Bool}
    (moves : (m.move present).isSome = true → s.recState n = .dormant ∨ s.recState n = .suspect)
    (trusted : s.recState n ≠ .suspect) (changed : (s.recState n).underQuota spent ≠ s.recState n) :
    m.move present = none := by
  refine Option.not_isSome_iff_eq_none.1 fun h => changed ?_
  rw [(moves h).resolve_right trusted]
  rfl

theorem State.RecordFrame.eq_of_chain {t : State} (h : s.RecordFrame t) : t = { s with
    nva := { s.nva with slots := t.nva.slots, map := t.nva.map }, atb := t.atb, fcl := t.fcl, rsv := t.rsv,
    sld := t.sld } := by
  obtain ⟨_, _, _, _, _, _, _, rfl⟩ := h
  rfl

/-- A trusted record amended, as the quota test leaves it. -/
theorem State.facts_amend {m : Amendment} {move : Option OutletId} (trusted : s.recState n ≠ .suspect)
    (fits : ∀ spent, (s.recState n).underQuota spent ≠ s.recState n → move = none) (spent : Bool)
    (tested : (s.amended n m.amend move).quotaSpent n = spent) :
    ((s.amended n m.amend move).quotaTest n).terms n = { s.terms n with
      state := (s.recState n).underQuota spent
      outlet := move.orElse fun _ => (s.terms n).outlet
      holder := m.holder.getD (s.terms n).holder
      cap := m.cap.getD (s.terms n).cap
      quota := m.quota.getD (s.terms n).quota
      stagedClass := m.cls.orElse fun _ => (s.terms n).stagedClass
      stagedRank := m.rank.orElse fun _ => (s.terms n).stagedRank } ∧
    (∀ o : OutletId, ((s.amended n m.amend move).quotaTest n).outlet o =
      if (s.recState n).underQuota spent ≠ s.recState n ∧ (s.terms n).outlet = some o then
        { s.outlet o with closed := false, essential := false }
      else s.outlet o) ∧
    (s.recState n = .quotaOut → (s.recState n).underQuota spent = .shed →
      (((s.amended n m.amend move).quotaTest n).work n).holdoff = 0) := by
  have state := State.recState_amended (s := s) (n := n) m move
  refine ⟨?_, fun o => ?_, fun out shed => ?_⟩
  · rw [State.terms_quotaTest, tested, state, State.terms_amended]
    rfl
  · rw [State.outlet_quotaTest o (by rw [state]; exact trusted), tested, state, State.outlet_amended, State.terms_amended]
    refine if_congr (and_congr_right fun changed => ?_) rfl rfl
    rw [fits spent changed]
    rfl
  · exact State.holdoff_quotaTest _ n (by rw [tested, state]; exact shed) (state.trans out)

end Accepted

/-- Settles O20: the checks in one row, and an accepted amendment as a write of the terms, a move, and the quota test. -/
theorem allotAmendIsCheckedAndTakesEffect : Obligations.AllotAmendIsCheckedAndTakesEffect := by
  refine ⟨fun number presence holder cap quota cls rank node outlet n s ready calm name reads found map => ⟨fun codes => ?_,
    fun codes st chain bad => ?_⟩,
    fun number presence holder cap quota cls rank node outlet n s ready calm name reads found map codes => ?_⟩
  · exact request_of_calm .allotAmend ready (allotAmend_of_codes codes) calm
  · have check := State.amendCheck_of_chain (holder := holder) codes (fun moves => moveTaken_amendment moves) chain bad
    exact request_of_calm .allotAmend ready (allotAmend_of_refused codes name reads found map check) calm
  · intro m check
    obtain ⟨ranges, full, moves⟩ := Amendment.of_check_eq_none check
    have place := (Bool.and_eq_true_iff.1 ranges).2
    refine ⟨s.amendRecord n m, request_of_ready .allotAmend ready
      (allotAmend_of_accepted codes name reads found map check), ?_⟩
    by_cases suspect : s.recState n = .suspect
    · rw [State.amendRecord_of_suspect suspect]
      refine ⟨State.account_amended, fun k hk => State.recordKept_amended hk, State.RecordFrame.amended.eq_of_chain,
        fun h => absurd suspect h, fun _ => ⟨?_, State.fcl_amended⟩, fun stays => ?_, fun o moved => ?_⟩
      · rw [State.terms_rewritten]
        exact rewrite_amendment codes place (full suspect)
      · rw [stays]
        exact ⟨rfl, fun _ => rfl⟩
      · rw [moved]
        exact ⟨State.boundTo_amended_of_move o map, State.work_amended_of_move o⟩
    · have fits (spent : Bool) := State.move_of_underQuota (spent := spent) moves suspect
      have state := State.recState_amended (s := s) (n := n) m (m.move (s.outletOf n))
      rw [State.amendRecord_of_trusted suspect]
      refine ⟨(State.account_quotaTest _ _ _).trans State.account_amended,
        fun k hk => (State.recordKept_amended hk).trans (State.recordKept_quotaTest _ _ hk),
        (State.RecordFrame.amended.trans (.quotaTest _ n)).eq_of_chain,
        fun _ => State.facts_amend suspect fits _ (State.quotaSpent_amended m _), fun h => absurd h suspect,
        fun stays => ?_, fun o moved => ?_⟩
      · rw [stays] at state ⊢
        refine ⟨State.map_quotaTest _ _, fun same => ?_⟩
        rw [State.work_quotaTest_of_same]
        · exact State.work_amended_of_stays
        · have := congrArg Terms.state (State.terms_quotaTest (s.amended n m.amend none) n)
          exact this.symm.trans (same.trans state.symm)
      · have dormant : s.recState n = .dormant := (moves (by rw [moved]; rfl)).resolve_right suspect
        rw [State.work_quotaTest_of_same _ _ (by rw [state, dormant]; rfl), moved]
        exact ⟨State.boundTo_amended_of_move o map, State.work_amended_of_move o⟩

end Sys2Proof.Machine

namespace Sys2Proof.Machine

/-! ## What a report leaves alone (R22) -/

section ReportFrame

variable {n : RecNo} {o : OutletId} {s t u : State}

/-- A step of a report at a record and its outlet: the other records and outlets are as they were, the outlet keeps its
answered mark and is at most ordered open, and the record keeps its outlet, its quota and its binding. -/
structure State.ReportFrame (n : RecNo) (o : OutletId) (s t : State) : Prop where
  others : ∀ k : RecNo, k ≠ n → s.recordKept t k
  outlets : ∀ p : OutletId, p ≠ o → t.outlet p = s.outlet p
  answered : (t.outlet o).answered = (s.outlet o).answered
  opened : (s.outlet o).closed = false → (t.outlet o).closed = false
  place : (t.terms n).outlet = (s.terms n).outlet
  trusted : s.recState n ≠ .suspect → t.recState n ≠ .suspect
  waits : t.recState n = .retiring → s.recState n = .retiring
  map : t.nva.map = s.nva.map

/-- A step that keeps the tallies and the last reading of the record, too. -/
structure State.ReportKeeps (n : RecNo) (o : OutletId) (s t : State) : Prop extends State.ReportFrame n o s t where
  tallies : (t.account n).today = (s.account n).today ∧ (t.account n).wh = (s.account n).wh ∧
    (t.account n).kwh = (s.account n).kwh
  reading : (t.work n).baseline = (s.work n).baseline ∧ (t.work n).reading = (s.work n).reading ∧
    (t.work n).fresh = (s.work n).fresh

theorem State.ReportFrame.refl (s : State) : s.ReportFrame n o s where
  others _ _ := ⟨rfl, rfl⟩
  outlets _ _ := rfl
  answered := rfl
  opened := id
  place := rfl
  trusted := id
  waits := id
  map := rfl

theorem State.ReportFrame.trans (h : s.ReportFrame n o t) (h' : t.ReportFrame n o u) : s.ReportFrame n o u where
  others k hk := (h.others k hk).trans (h'.others k hk)
  outlets p hp := (h'.outlets p hp).trans (h.outlets p hp)
  answered := h'.answered.trans h.answered
  opened e := h'.opened (h.opened e)
  place := h'.place.trans h.place
  trusted e := h'.trusted (h.trusted e)
  waits e := h.waits (h'.waits e)
  map := h'.map.trans h.map

theorem State.ReportKeeps.refl (s : State) : s.ReportKeeps n o s where
  toReportFrame := .refl s
  tallies := ⟨rfl, rfl, rfl⟩
  reading := ⟨rfl, rfl, rfl⟩

theorem State.ReportKeeps.trans (h : s.ReportKeeps n o t) (h' : t.ReportKeeps n o u) : s.ReportKeeps n o u where
  toReportFrame := h.toReportFrame.trans h'.toReportFrame
  tallies := by
    obtain ⟨today, wh, kwh⟩ := h.tallies
    obtain ⟨today', wh', kwh'⟩ := h'.tallies
    exact ⟨today'.trans today, wh'.trans wh, kwh'.trans kwh⟩
  reading := by
    obtain ⟨baseline, reading, fresh⟩ := h.reading
    obtain ⟨baseline', reading', fresh'⟩ := h'.reading
    exact ⟨baseline'.trans baseline, reading'.trans reading, fresh'.trans fresh⟩

theorem State.ReportKeeps.of_ite {c : Prop} [Decidable c] (h : c → s.ReportKeeps n o t) (h' : ¬ c → s.ReportKeeps n o u) :
    s.ReportKeeps n o (if c then t else u) := by
  split
  · exact h ‹_›
  · exact h' ‹_›

/-! ### The elementary steps -/

variable (s)

theorem State.ReportFrame.modAccount (f : Account → Account) : s.ReportFrame n o (s.modAccount n f) where
  others _ hk := s.recordKept_modAccount f hk
  outlets _ _ := rfl
  answered := rfl
  opened := id
  place := by rw [State.terms_modAccount]
  trusted h := by rwa [State.recState_modAccount]
  waits h := by rwa [State.recState_modAccount] at h
  map := rfl

theorem State.ReportFrame.modWork (f : Working → Working) : s.ReportFrame n o (s.modWork n f) where
  others _ hk := s.recordKept_modWork f hk
  outlets _ _ := rfl
  answered := rfl
  opened := id
  place := rfl
  trusted := id
  waits := id
  map := rfl

theorem State.ReportKeeps.latch (f : Flag) : s.ReportKeeps n o (s.latch f) where
  others _ _ := ⟨rfl, rfl⟩
  outlets _ _ := rfl
  answered := rfl
  opened := id
  place := rfl
  trusted := id
  waits := id
  map := rfl
  tallies := ⟨rfl, rfl, rfl⟩
  reading := ⟨rfl, rfl, rfl⟩

/-- A write of the working fields that keeps the last reading. -/
theorem State.ReportKeeps.modWork (f : Working → Working) (baseline : (f (s.work n)).baseline = (s.work n).baseline)
    (reading : (f (s.work n)).reading = (s.work n).reading) (fresh : (f (s.work n)).fresh = (s.work n).fresh) :
    s.ReportKeeps n o (s.modWork n f) where
  toReportFrame := .modWork s f
  tallies := ⟨rfl, rfl, rfl⟩
  reading := by
    rw [State.work_modWork_same]
    exact ⟨baseline, reading, fresh⟩

/-- A write of the account that keeps the tallies. -/
theorem State.ReportKeeps.modAccount (f : Account → Account) (today : (f (s.account n)).today = (s.account n).today)
    (wh : (f (s.account n)).wh = (s.account n).wh) (kwh : (f (s.account n)).kwh = (s.account n).kwh) :
    s.ReportKeeps n o (s.modAccount n f) where
  toReportFrame := .modAccount s f
  tallies := by
    rw [State.account_modAccount_same]
    exact ⟨today, wh, kwh⟩
  reading := ⟨rfl, rfl, rfl⟩

theorem Working.reading_left (st : RecState) (w : Working) :
    (w.left st).baseline = w.baseline ∧ (w.left st).reading = w.reading ∧ (w.left st).fresh = w.fresh ∧
      (w.left st).closedRun = w.closedRun := by
  cases st <;> exact ⟨rfl, rfl, rfl, rfl⟩

theorem Working.reading_became (before after : RecState) (w : Working) :
    (w.became before after).baseline = w.baseline ∧ (w.became before after).reading = w.reading ∧
      (w.became before after).fresh = w.fresh ∧ (w.became before after).closedRun = w.closedRun := by
  unfold Working.became
  split <;> exact w.reading_left before

theorem State.ReportKeeps.become (st : RecState) (place : (s.terms n).outlet = some o) (h : st ≠ .suspect)
    (h' : st ≠ .retiring) : s.ReportKeeps n o (s.become n st) where
  others _ hk := s.recordKept_become st hk
  outlets p hp := by
    rw [State.outlet_become _ _ _ _ h, place, if_neg]
    exact fun e => hp (Option.some.inj e).symm
  answered := by
    rw [State.outlet_become _ _ _ _ h, if_pos place]
  opened _ := by
    rw [State.outlet_become _ _ _ _ h, if_pos place]
  place := by rw [State.terms_become, if_pos rfl]
  trusted _ := by rwa [State.recState_become, if_pos rfl]
  waits e := by
    rw [State.recState_become, if_pos rfl] at e
    exact absurd e h'
  map := State.map_become _ _ _
  tallies := by
    rw [State.account_become]
    exact ⟨rfl, rfl, rfl⟩
  reading := by
    obtain ⟨baseline, reading, fresh, -⟩ := (s.work n).reading_became (s.recState n) st
    rw [State.work_become, if_pos rfl]
    exact ⟨baseline, reading, fresh⟩

/-! ### The steps of a report -/

theorem RecState.eq_retiring_of_underQuota {spent : Bool} {st : RecState} (h : st.underQuota spent = .retiring) :
    st = .retiring := by
  cases st <;> cases spent <;> simp_all [RecState.underQuota]

theorem State.ReportKeeps.quotaTest (place : (s.terms n).outlet = some o) (trusted : s.recState n ≠ .suspect) :
    s.ReportKeeps n o (s.quotaTest n) := by
  rw [State.quotaTest_eq]
  refine .of_ite (fun _ => .refl s) fun other => .become s _ place (RecState.underQuota_ne_suspect trusted) fun e => ?_
  exact other (e.trans (RecState.eq_retiring_of_underQuota e).symm)

theorem State.ReportKeeps.shedWith (k : ShedKind) (cause : ShedCause) (draw : Option Nat)
    (place : (s.terms n).outlet = some o) : s.ReportKeeps n o (s.shedWith k cause draw n) := by
  unfold State.shedWith
  refine .of_ite (fun _ => .become s _ place (by decide) (by decide)) fun _ => ?_
  exact ((State.ReportKeeps.become s _ place (by decide) (by decide)).trans (.modAccount _ _ rfl rfl rfl)).trans
    (.modWork _ _ rfl rfl rfl)

theorem State.ReportKeeps.restartStep (restart : Bool) (draw : Option Nat) (place : (s.terms n).outlet = some o) :
    s.ReportKeeps n o (s.restartStep n restart draw) := by
  unfold State.restartStep
  exact .of_ite (fun _ => .shedWith s _ _ _ place) fun _ => .refl s

theorem State.ReportKeeps.overCapStep (power : Nat) (place : (s.terms n).outlet = some o) :
    s.ReportKeeps n o (s.overCapStep n power) := by
  have tripped : s.ReportKeeps n o (s.tripRecord n) :=
    (State.ReportKeeps.become s _ place (by decide) (by decide)).trans (.modWork _ _ rfl rfl rfl)
  unfold State.overCapStep
  refine .of_ite (fun _ => .of_ite (fun _ => ?_) fun _ => .modWork s _ rfl rfl rfl) fun _ => .refl s
  exact .of_ite (fun _ => tripped) fun _ => .modWork s _ rfl rfl rfl

theorem State.ReportKeeps.openWatch (closed : Bool) (draw : Option Nat) (place : (s.terms n).outlet = some o) :
    s.ReportKeeps n o (s.openWatch n o closed draw) := by
  unfold State.openWatch
  refine .of_ite (fun _ => .of_ite (fun _ => .modWork s _ rfl rfl rfl) fun _ => ?_) fun _ => .refl s
  exact .of_ite (fun _ => .shedWith s _ _ _ place) fun _ => .modWork s _ rfl rfl rfl

theorem State.ReportKeeps.closedWatch (closed : Bool) : s.ReportKeeps n o (s.closedWatch n o closed) := by
  unfold State.closedWatch
  refine .of_ite (fun _ => ?_) fun _ => .modWork s _ rfl rfl rfl
  have counted (k : Nat) : s.ReportKeeps n o (s.modWork n fun w => { w with closedRun := k }) :=
    .modWork s _ rfl rfl rfl
  exact .of_ite (fun _ => (counted _).trans (.latch _ _)) fun _ => counted _

theorem State.ReportKeeps.confirm (closed : Bool) : s.ReportKeeps n o (s.confirm n closed) := by
  unfold State.confirm
  refine .of_ite (fun h => ?_) fun _ => .refl s
  have left : s.ReportKeeps n o (s.leave n) := by
    have nva := (State.leave_keeps n s).1
    have fcl := congrArg Fcl.outlets (State.leave_keeps n s).2.1
    refine ⟨⟨fun k hk => ⟨by rw [nva], by rw [State.work_leave, if_neg hk]⟩, fun p _ => State.outlet_congr fcl p,
      by rw [State.outlet_congr fcl], fun e => by rwa [State.outlet_congr fcl], ?_, fun e => ?_, fun e => ?_, by rw [nva]⟩, ?_, ?_⟩
    · rw [State.terms_congr (congrArg Nva.slots nva)]
    · rwa [State.recState_congr (congrArg Nva.slots nva)]
    · rwa [State.recState_congr (congrArg Nva.slots nva)] at e
    · rw [State.account_congr (congrArg Nva.slots nva)]
      exact ⟨rfl, rfl, rfl⟩
    · rw [State.work_leave, if_pos rfl]
      obtain ⟨baseline, reading, fresh, -⟩ := (s.work n).reading_left (s.recState n)
      exact ⟨baseline, reading, fresh⟩
  have live (t : State) : t.ReportKeeps n o (t.modTerms n fun x => { x with state := .live }) :=
    ⟨⟨fun k hk => ⟨by rw [State.slots_modTerms, if_neg hk], rfl⟩, fun _ _ => rfl, rfl, id,
      by rw [State.terms_modTerms_same], fun _ => by simp, fun e => by simp at e, rfl⟩,
      by rw [State.account_modTerms]; exact ⟨rfl, rfl, rfl⟩, ⟨rfl, rfl, rfl⟩⟩
  exact (left.trans (live _)).trans (.modWork _ _ rfl rfl rfl)

theorem State.ReportFrame.tallyEnergy (restart : Bool) (counter : Nat) :
    s.ReportFrame n o (s.tallyEnergy n restart counter) := by
  unfold State.tallyEnergy
  dsimp only
  split
  · exact .modWork s _
  · exact (State.ReportFrame.modAccount s _).trans (.modWork _ _)

theorem State.ReportFrame.storePower (power : Nat) : s.ReportFrame n o (s.storePower n power) := .modWork s _

end ReportFrame
end Sys2Proof.Machine

namespace Sys2Proof.Machine

/-! ## One report, step by step (R22 to R26, R113) -/

section ReportPaths

variable {n : RecNo} {o : OutletId} {s : State}

/-! ### Step 2: the energy -/

theorem State.account_tallyEnergy (s : State) (n : RecNo) (restart : Bool) (counter : Nat) :
    (s.tallyEnergy n restart counter).account n =
      if energyStep (s.work n).baseline restart counter = 0 then s.account n
      else (s.account n).addEnergy (energyStep (s.work n).baseline restart counter) := by
  unfold State.tallyEnergy
  dsimp only
  split
  · rfl
  · exact s.account_modAccount_same n _

theorem State.terms_tallyEnergy (s : State) (n : RecNo) (restart : Bool) (counter : Nat) :
    (s.tallyEnergy n restart counter).terms n = s.terms n := by
  unfold State.tallyEnergy
  dsimp only
  split
  · rfl
  · exact s.terms_modAccount n n _

theorem State.work_tallyEnergy (s : State) (n : RecNo) (restart : Bool) (counter : Nat) :
    (s.tallyEnergy n restart counter).work n = { s.work n with baseline := some counter } := by
  unfold State.tallyEnergy
  dsimp only
  split
  · exact s.work_modWork_same n _
  · exact (s.modAccount n _).work_modWork_same n _

/-- The lifetime tally is a ring of 1,000,000 kWh, and an energy of 0 changes no tally (R23). -/
theorem Account.lifetime_addEnergy (a : Account) (d : Nat) :
    ((a.addEnergy d).wh + 1000 * (a.addEnergy d).kwh) % 1000000000 = (a.wh + d + 1000 * a.kwh) % 1000000000 := by
  simp only [Account.addEnergy]
  omega

/-- The energy that a report adds, as R23 states it. -/
theorem energyStep_eq (baseline : Option Nat) (restart : Bool) (counter : Nat) :
    energyStep baseline restart counter = match baseline with
      | none => 0
      | some b => if restart = true ∨ 1000 < (counter + 65536 - b) % 65536 then 0 else (counter + 65536 - b) % 65536 := by
  cases baseline with
  | none => rfl
  | some b =>
    refine if_congr ?_ rfl rfl
    simp

/-- Whether the tally, with the energy of the report, reaches the quota. -/
def State.spentWith (s : State) (n : RecNo) (d : Nat) : Bool :=
  match (s.terms n).quota with
  | some q => decide (q ≤ min 65535 ((s.account n).today + d))
  | none => false

/-- Under the quota law the saturation of the tally decides nothing (R5, R23). -/
theorem State.quotaSpent_tallyEnergy (law : s.quotaLaw) (restart : Bool) (counter : Nat)
    (h : s.recState n = .live ∨ s.recState n = .restoring ∨ s.recState n = .shed) :
    (s.tallyEnergy n restart counter).quotaSpent n =
      s.spentWith n (energyStep (s.work n).baseline restart counter) := by
  have unspent := (law n).2 h
  unfold State.quotaSpent State.spentWith at *
  rw [State.terms_tallyEnergy, State.account_tallyEnergy]
  cases quota : (s.terms n).quota with
  | none => rfl
  | some q =>
    rw [quota] at unspent
    simp only [decide_eq_false_iff_not] at unspent
    dsimp only
    rw [decide_eq_decide]
    split
    next none => rw [none]; omega
    next some => exact Iff.rfl

/-! ### Steps 4 to 8: what each does to a record in a state -/

theorem State.work_storePower (power : Nat) : (s.storePower n power).work n =
    { s.work n with reading := some (min 16000 power), fresh := true } := s.work_modWork_same n _

theorem State.restartStep_of_not_live (restart : Bool) (draw : Option Nat) (h : s.recState n ≠ .live) :
    s.restartStep n restart draw = s := if_neg fun e => h e.2

theorem State.overCapStep_of_not_live (power : Nat) (h : s.recState n ≠ .live) : s.overCapStep n power = s := if_neg h

theorem State.openWatch_of_not_live (closed : Bool) (draw : Option Nat) (h : s.recState n ≠ .live) :
    s.openWatch n o closed draw = s := if_neg fun e => h e.1

/-- What the closed watch leaves: all but the closed run and NODE_DISOBEYS. -/
theorem State.closedWatch_views (s : State) (n : RecNo) (o : OutletId) (closed : Bool) :
    (s.closedWatch n o closed).nva = s.nva ∧ (s.closedWatch n o closed).fcl = s.fcl ∧
    (s.closedWatch n o closed).rsv = s.rsv ∧ (s.closedWatch n o closed).sld = s.sld ∧
    ∃ run, (s.closedWatch n o closed).work n = { s.work n with closedRun := run } := by
  unfold State.closedWatch
  dsimp only
  split
  · split
    · exact ⟨rfl, rfl, rfl, rfl, _, (State.work_congr (State.latch_keeps _ _).2.1 n).trans (s.work_modWork_same n _)⟩
    · exact ⟨rfl, rfl, rfl, rfl, _, s.work_modWork_same n _⟩
  · exact ⟨rfl, rfl, rfl, rfl, _, s.work_modWork_same n _⟩

theorem State.flag_closedWatch {closed : Bool} (h : closed = true) (ordered : (s.outlet o).closed = false)
    (third : (s.work n).closedRun = 2) : (s.closedWatch n o closed).flag .nodeDisobeys = true := by
  unfold State.closedWatch
  rw [if_pos ⟨h, ordered⟩]
  dsimp only
  rw [if_pos third]
  exact State.flag_latch_self _ _

theorem State.recState_shedWith (k : ShedKind) (cause : ShedCause) (draw : Option Nat) :
    (s.shedWith k cause draw n).recState n = s.shedOrOut n := by
  cases spent : s.quotaSpent n with
  | true =>
    rw [State.shedWith_of_spent _ _ _ _ _ spent, State.recState_become, if_pos rfl, State.shedOrOut, if_pos spent]
  | false =>
    rw [State.shedOrOut_of_unspent _ _ spent]
    refine congrArg (fun x : Slot => x.terms.value.state) ((State.slots_shedWith_of_unspent s n n k cause draw spent).trans
      (if_pos rfl))

theorem State.work_shedWith_of_unspent (k : ShedKind) (cause : ShedCause) (draw : Option Nat)
    (h : s.quotaSpent n = false) : (s.shedWith k cause draw n).work n = { (s.work n).became (s.recState n) .shed with
      preShed := draw
      holdoff := k.holdoff s.svl.settings.holdoff (k.recent (s.account n).recent)
      holdoffFrac := 0 } := by
  rw [State.shedWith, if_neg (by rw [h]; decide), State.work_modWork_same,
    State.work_congr (State.modAccount_keeps _ _ _).1, State.work_become, if_pos rfl]

theorem State.account_shedWith_of_unspent (k : ShedKind) (cause : ShedCause) (draw : Option Nat)
    (h : s.quotaSpent n = false) : (s.shedWith k cause draw n).account n =
      { s.account n with cause := some cause, recent := k.recent (s.account n).recent } := by
  rw [State.account_eq, State.slots_shedWith_of_unspent _ _ _ _ _ _ h, if_pos rfl]
  rfl

theorem State.outlet_shedWith (k : ShedKind) (cause : ShedCause) (draw : Option Nat)
    (place : (s.terms n).outlet = some o) : (s.shedWith k cause draw n).outlet o =
      { s.outlet o with closed := false, essential := false } := by
  unfold State.shedWith
  split
  · rw [State.outlet_become _ _ _ _ (by decide), if_pos place]
  · rw [State.outlet_congr (s := s.become n .shed) (by simp), State.outlet_become _ _ _ _ (by decide), if_pos place]

theorem State.recState_tripRecord : (s.tripRecord n).recState n = .tripped := by
  show (s.become n .tripped).recState n = _
  rw [State.recState_become, if_pos rfl]

theorem State.answerReset_same (bound : Option RecNo) {flag : Bool} (h : flag = (s.outlet o).answered) :
    s.answerReset o bound flag = s := by
  subst h
  unfold State.answerReset
  cases (s.outlet o).answered <;> rfl

end ReportPaths
end Sys2Proof.Machine

namespace Sys2Proof.Machine

/-! ## The paths of a report -/

section ReportPaths

variable {n : RecNo} {o : OutletId} {s : State} {restart : Bool} {r : Report} {draw : Option Nat}

/-- The reading of a report is over the record's cap. -/
def State.overCap (s : State) (n : RecNo) (r : Report) : Bool := decide ((s.terms n).cap < min 16000 r.power)

theorem State.watchReport_of_not_live (h : s.recState n ≠ .live) :
    s.watchReport n o restart r draw = (s.storePower n r.power).closedWatch n o r.closed := by
  have idle : (s.storePower n r.power).recState n ≠ .live := h
  rw [State.watchReport, State.restartStep_of_not_live _ _ idle, State.overCapStep_of_not_live _ idle,
    State.openWatch_of_not_live _ _ idle]

theorem State.shedOrOut_ne_live : s.shedOrOut n ≠ .live := by
  unfold State.shedOrOut
  split <;> decide

theorem State.watchReport_of_restart (h : s.recState n = .live) (again : restart = true) :
    s.watchReport n o restart r draw =
      ((s.storePower n r.power).shedWith .zero .unexpectedOpen draw n).closedWatch n o r.closed := by
  have live : (s.storePower n r.power).recState n = .live := h
  have shed : (s.storePower n r.power).restartStep n restart draw =
      (s.storePower n r.power).shedWith .zero .unexpectedOpen draw n := if_pos ⟨again, live⟩
  have dark : ((s.storePower n r.power).shedWith .zero .unexpectedOpen draw n).recState n ≠ .live := by
    rw [State.recState_shedWith]
    exact State.shedOrOut_ne_live
  rw [State.watchReport, shed, State.overCapStep_of_not_live _ dark, State.openWatch_of_not_live _ _ dark]

theorem State.restartStep_of_steady (steady : restart = false) : s.restartStep n restart draw = s :=
  if_neg fun h => by simp [steady] at h

theorem State.watchReport_of_trip (h : s.recState n = .live) (steady : restart = false) (above : s.overCap n r = true)
    (trips : s.svl.settings.tripCount ≤ (s.work n).overRun + 1) :
    s.watchReport n o restart r draw = ((s.storePower n r.power).tripRecord n).closedWatch n o r.closed := by
  have live : (s.storePower n r.power).recState n = .live := h
  have run : ((s.storePower n r.power).work n).overRun = (s.work n).overRun := by rw [State.work_storePower]
  have tripped : (s.storePower n r.power).overCapStep n r.power = (s.storePower n r.power).tripRecord n := by
    unfold State.overCapStep
    dsimp only
    rw [if_pos live, run]
    exact (if_pos (of_decide_eq_true above)).trans (if_pos trips)
  have dark : ((s.storePower n r.power).tripRecord n).recState n ≠ .live := by
    rw [State.recState_tripRecord]
    decide
  rw [State.watchReport, State.restartStep_of_steady steady, tripped, State.openWatch_of_not_live _ _ dark]

/-- The record after the reading and the over-cap test of a report that does not trip it. -/
def State.metered (s : State) (n : RecNo) (r : Report) : State :=
  (s.storePower n r.power).modWork n fun w =>
    { w with overRun := if s.overCap n r = true then (s.work n).overRun + 1 else 0 }

theorem State.watchReport_of_no_trip (h : s.recState n = .live) (steady : restart = false)
    (under : s.overCap n r = false ∨ (s.work n).overRun + 1 < s.svl.settings.tripCount) :
    s.watchReport n o restart r draw = ((s.metered n r).openWatch n o r.closed draw).closedWatch n o r.closed := by
  have live : (s.storePower n r.power).recState n = .live := h
  have run : ((s.storePower n r.power).work n).overRun = (s.work n).overRun := by rw [State.work_storePower]
  have metered : (s.storePower n r.power).overCapStep n r.power = s.metered n r := by
    unfold State.overCapStep State.metered
    dsimp only
    rw [if_pos live, run]
    cases above : s.overCap n r with
    | true =>
      have low : ¬ s.svl.settings.tripCount ≤ (s.work n).overRun + 1 := by
        have := under.resolve_left (by rw [above]; decide)
        omega
      exact (if_pos (of_decide_eq_true above)).trans (if_neg low)
    | false => exact if_neg (of_decide_eq_false above)
  rw [State.watchReport, State.restartStep_of_steady steady, metered]

/-- A watch that sheds nothing, on a record ordered closed: the count of reports open. -/
theorem State.openWatch_of_count {closed : Bool} (h : s.recState n = .live) (ordered : (s.outlet o).closed = true)
    (count : closed = true ∨ (s.work n).openRun = 0) : s.openWatch n o closed draw =
      s.modWork n fun w => { w with openRun := if closed = true then 0 else 1 } := by
  unfold State.openWatch
  rw [if_pos ⟨h, ordered⟩]
  cases closed with
  | true => rfl
  | false =>
    have none : (s.work n).openRun = 0 := count.resolve_left (by decide)
    rw [if_neg (by decide), if_neg (by omega)]
    unfold State.work at none
    simp only [State.modWork, State.modAtb, none]
    rfl

theorem State.openWatch_of_open {closed : Bool} (h : s.recState n = .live) (ordered : (s.outlet o).closed = true)
    (isOpen : closed = false) (second : 1 ≤ (s.work n).openRun) :
    s.openWatch n o closed draw = s.shedWith .plain .unexpectedOpen draw n := by
  unfold State.openWatch
  rw [if_pos ⟨h, ordered⟩, if_neg (by rw [isOpen]; decide), if_pos (by omega)]

/-! ### The end of a report -/

theorem State.endReport_of_other {closed : Bool} (stays : s.recState n = .retiring → closed = true)
    (unconfirmed : s.recState n = .restoring → closed = false) : s.endReport n closed = s := by
  have kept : ¬ (s.recState n = .retiring ∧ closed = false) := fun h => by simp [stays h.1] at h
  have plain : ¬ (closed = true ∧ s.recState n = .restoring) := fun h => by simp [unconfirmed h.2] at h
  unfold State.endReport
  rw [if_neg kept]
  exact if_neg plain

theorem State.endReport_of_retiring {closed : Bool} (h : s.recState n = .retiring) (isOpen : closed = false) :
    s.endReport n closed = s.vacate n := by
  unfold State.endReport
  rw [if_pos ⟨h, isOpen⟩, isOpen]
  exact if_neg fun e => by simp at e

theorem State.endReport_of_stays {closed : Bool} (stays : s.recState n = .retiring → closed = true) :
    s.endReport n closed = s.confirm n closed := by
  unfold State.endReport
  rw [if_neg fun h => by simp [stays h.1] at h]

/-- A restoration confirmed (R113). -/
theorem State.facts_confirm {closed : Bool} (h : s.recState n = .restoring) (isClosed : closed = true) :
    (s.confirm n closed).recState n = .live ∧ ((s.confirm n closed).work n).liveTimer = 0 ∧
    ((s.confirm n closed).work n).overRun = 0 ∧ ((s.confirm n closed).work n).openRun = 0 ∧
    (s.confirm n closed).holds (.allotment n) = false ∧ ∀ e ∈ (s.confirm n closed).sld.watch, e.record ≠ n := by
  have confirmed : s.confirm n closed = ((s.leave n).modTerms n fun x => { x with state := .live }).modWork n fun w =>
      { w with liveTimer := 0, liveFrac := 0, overRun := 0, openRun := 0 } := if_pos ⟨isClosed, h⟩
  have rsv : (s.confirm n closed).rsv = (s.leave n).rsv := by simp [confirmed]
  have sld : (s.confirm n closed).sld = (s.leave n).sld := by simp [confirmed]
  refine ⟨?_, ?_, ?_, ?_, State.holds_of_filter (l := s.rsv.table) ?_, ?_⟩
  · rw [confirmed, State.recState_congr (congrArg Nva.slots (State.modWork_keeps _ _ _).1), State.recState_modTerms_same]
  · rw [confirmed, State.work_modWork_same]
  · rw [confirmed, State.work_modWork_same]
  · rw [confirmed, State.work_modWork_same]
  · rw [rsv, State.rsv_leave, h]
  · rw [sld, State.sld_leave, if_pos h]
    simp

/-! ### The whole report -/

/-- The record's state once the energy is tallied and the quota tested (R22 steps 2 and 3). -/
def State.tallied (s : State) (n : RecNo) (restart : Bool) (r : Report) : State :=
  (s.tallyEnergy n restart r.energy).quotaTest n

/-- The record's state once its reading is watched (R22 steps 4 to 8). -/
def State.watched (s : State) (n : RecNo) (o : OutletId) (restart : Bool) (r : Report) : State :=
  (s.tallied n restart r).watchReport n o restart r ((s.tallied n restart r).freshDraw n)

theorem State.frame_tallied (place : (s.terms n).outlet = some o) (trusted : s.recState n ≠ .suspect) :
    (s.tallyEnergy n restart r.energy).ReportKeeps n o (s.tallied n restart r) := by
  have tally : s.ReportFrame n o (s.tallyEnergy n restart r.energy) := .tallyEnergy s restart r.energy
  exact .quotaTest _ (tally.place.trans place) (tally.trusted trusted)

theorem State.keeps_watchReport (place : (s.terms n).outlet = some o) :
    (s.storePower n r.power).ReportKeeps n o (s.watchReport n o restart r draw) := by
  have first : (s.storePower n r.power).ReportKeeps n o ((s.storePower n r.power).restartStep n restart draw) :=
    .restartStep _ restart draw place
  have second := first.trans (.overCapStep _ r.power (first.place.trans place))
  have third := second.trans (.openWatch _ r.closed draw (second.place.trans place))
  exact third.trans (.closedWatch _ r.closed)

theorem State.frame_watched (place : (s.terms n).outlet = some o) (trusted : s.recState n ≠ .suspect) :
    s.ReportFrame n o (s.watched n o restart r) := by
  have tally : s.ReportFrame n o (s.tallied n restart r) :=
    (State.ReportFrame.tallyEnergy s restart r.energy).trans (State.frame_tallied place trusted).toReportFrame
  have stored : s.ReportFrame n o ((s.tallied n restart r).storePower n r.power) := tally.trans (.storePower _ _)
  exact stored.trans (State.keeps_watchReport (tally.place.trans place)).toReportFrame

/-- A report with no reset handshake to make. -/
theorem State.takeReport_eq (map : s.mapReads o) (bound : s.boundTo o = some n) (reads : s.reads n)
    (found : s.recState n ≠ .vacant) (place : (s.terms n).outlet = some o) (trusted : s.recState n ≠ .suspect)
    (quiet : r.reset = (s.outlet o).answered) :
    s.takeReport restart o r = (s.watched n o restart r).endReport n r.closed := by
  have frame : s.ReportFrame n o (s.watched n o restart r) := State.frame_watched place trusted
  have report : s.takeReport restart o r = s.workReport n o restart r := by
    unfold State.takeReport
    dsimp only
    rw [s.readBinding_clean o map, bound]
    dsimp only
    rw [State.readRecord_of_reads reads, if_neg found]
  rw [report, State.workReport_eq]
  exact congrArg (State.endReport n r.closed) (State.answerReset_same _ (quiet.trans frame.answered.symm))

end ReportPaths
end Sys2Proof.Machine

namespace Sys2Proof.Machine

/-! ## What a report does, by the state of its record -/

section Report

variable {n : RecNo} {o : OutletId} {s : State} {restart : Bool} {r : Report}

/-- The energy that a report adds to its record (R23). -/
def State.energyOf (s : State) (n : RecNo) (restart : Bool) (r : Report) : Nat :=
  energyStep (s.work n).baseline restart r.energy

/-! ### The counts of the record -/

theorem State.endReport_keeps {t : State} (stays : t.recState n = .retiring → r.closed = true) :
    t.ReportKeeps n o (t.endReport n r.closed) := by
  rw [State.endReport_of_stays stays]
  exact .confirm _ _

section Counts

variable (place : (s.terms n).outlet = some o) (trusted : s.recState n ≠ .suspect)
  (stays : s.recState n = .retiring → r.closed = true)
include place trusted stays

/-- From the stored reading to the end of the report, the counts stand. -/
theorem State.keeps_report : ((s.tallied n restart r).storePower n r.power).ReportKeeps n o
    ((s.watched n o restart r).endReport n r.closed) := by
  have tally : s.ReportFrame n o (s.tallied n restart r) :=
    (State.ReportFrame.tallyEnergy s restart r.energy).trans (State.frame_tallied place trusted).toReportFrame
  have frame : s.ReportFrame n o (s.watched n o restart r) := State.frame_watched place trusted
  have watches : ((s.tallied n restart r).storePower n r.power).ReportKeeps n o (s.watched n o restart r) :=
    State.keeps_watchReport (tally.place.trans place)
  exact watches.trans (State.endReport_keeps fun h => stays (frame.waits h))

theorem State.counts_report (t : State) (ht : t = (s.watched n o restart r).endReport n r.closed) :
    t.nva.map = s.nva.map ∧
    (t.account n).today = (if s.energyOf n restart r = 0 then (s.account n).today
      else min 65535 ((s.account n).today + s.energyOf n restart r)) ∧
    (t.work n).baseline = some r.energy ∧ (t.work n).reading = some (min 16000 r.power) ∧ (t.work n).fresh = true ∧
    ((t.account n).wh + 1000 * (t.account n).kwh) % 1000000000 =
      ((s.account n).wh + s.energyOf n restart r + 1000 * (s.account n).kwh) % 1000000000 := by
  subst ht
  have kept : ((s.tallied n restart r).storePower n r.power).ReportKeeps n o _ := State.keeps_report place trusted stays
  have tally : (s.tallyEnergy n restart r.energy).ReportKeeps n o (s.tallied n restart r) :=
    State.frame_tallied place trusted
  obtain ⟨today, wh, kwh⟩ := kept.tallies
  obtain ⟨today', wh', kwh'⟩ := tally.tallies
  obtain ⟨baseline, reading, fresh⟩ := kept.reading
  obtain ⟨baseline', -, -⟩ := tally.reading
  have account := s.account_tallyEnergy n restart r.energy
  rw [State.work_storePower] at baseline reading fresh
  rw [State.work_tallyEnergy] at baseline'
  refine ⟨?_, ?_, baseline.trans baseline', reading, fresh, ?_⟩
  · exact kept.map.trans (tally.map.trans (State.ReportFrame.tallyEnergy (o := o) s restart r.energy).map)
  · refine today.trans (today'.trans ?_)
    rw [account]
    unfold State.energyOf
    split <;> rfl
  · have wh1 : _ = ((s.tallyEnergy n restart r.energy).account n).wh := wh.trans wh'
    have kwh1 : _ = ((s.tallyEnergy n restart r.energy).account n).kwh := kwh.trans kwh'
    rw [wh1, kwh1, account]
    unfold State.energyOf
    split
    next none => rw [none, Nat.add_zero]
    · exact Account.lifetime_addEnergy _ _

end Counts

/-! ### The quota -/

theorem State.tallied_of_spent (law : s.quotaLaw)
    (h : s.recState n = .live ∨ s.recState n = .restoring ∨ s.recState n = .shed)
    (spent : s.spentWith n (s.energyOf n restart r) = true) :
    s.tallied n restart r = (s.tallyEnergy n restart r.energy).become n .quotaOut := by
  have state : (s.tallyEnergy n restart r.energy).recState n = s.recState n :=
    congrArg Terms.state (s.terms_tallyEnergy n restart r.energy)
  have tally : (s.tallyEnergy n restart r.energy).quotaSpent n = true :=
    (State.quotaSpent_tallyEnergy law restart r.energy h).trans spent
  rw [State.tallied, State.quotaTest_eq, tally, state]
  obtain e | e | e := h <;> rw [e] <;> rfl

theorem State.quotaSpent_of_unspent (law : s.quotaLaw)
    (h : s.recState n = .live ∨ s.recState n = .restoring ∨ s.recState n = .shed)
    (unspent : s.spentWith n (s.energyOf n restart r) = false) :
    (s.tallyEnergy n restart r.energy).quotaSpent n = false :=
  (State.quotaSpent_tallyEnergy law restart r.energy h).trans unspent

theorem State.tallied_of_unspent (law : s.quotaLaw)
    (h : s.recState n = .live ∨ s.recState n = .restoring ∨ s.recState n = .shed)
    (unspent : s.spentWith n (s.energyOf n restart r) = false) :
    s.tallied n restart r = s.tallyEnergy n restart r.energy := by
  have state : (s.tallyEnergy n restart r.energy).recState n = s.recState n :=
    congrArg Terms.state (s.terms_tallyEnergy n restart r.energy)
  have tally := State.quotaSpent_of_unspent law h unspent
  rw [State.tallied, State.quotaTest_eq, tally, state]
  obtain e | e | e := h <;> rw [e] <;> rfl

/-- A record whose watches leave it neither RETIRING nor RESTORING has its report taken by them. -/
theorem State.endReport_of_settled {t : State} (h : t.recState n ≠ .retiring) (h' : t.recState n ≠ .restoring) :
    t.endReport n r.closed = t := State.endReport_of_other (fun e => absurd e h) fun e => absurd e h'

/-- The views of a state after the closed watch. -/
theorem State.views_closedWatch (t : State) (closed : Bool) :
    (t.closedWatch n o closed).recState n = t.recState n ∧ (t.closedWatch n o closed).account n = t.account n ∧
    (t.closedWatch n o closed).outlet o = t.outlet o ∧
    ∃ run, (t.closedWatch n o closed).work n = { t.work n with closedRun := run } := by
  obtain ⟨nva, fcl, -, -, work⟩ := t.closedWatch_views n o closed
  exact ⟨State.recState_congr (congrArg Nva.slots nva) n, State.account_congr (congrArg Nva.slots nva) n,
    State.outlet_congr (congrArg Fcl.outlets fcl) o, work⟩

/-- A report that reaches the quota (R5). -/
theorem State.report_of_spent (place : (s.terms n).outlet = some o) (law : s.quotaLaw)
    (h : s.recState n = .live ∨ s.recState n = .restoring ∨ s.recState n = .shed)
    (spent : s.spentWith n (s.energyOf n restart r) = true) :
    ((s.watched n o restart r).endReport n r.closed).recState n = .quotaOut ∧
    (((s.watched n o restart r).endReport n r.closed).outlet o).closed = false := by
  have tallied := State.tallied_of_spent law h spent
  have out : (s.tallied n restart r).recState n = .quotaOut := by
    rw [tallied, State.recState_become, if_pos rfl]
  have opened : ((s.tallied n restart r).outlet o).closed = false := by
    rw [tallied, State.outlet_become _ _ _ _ (by decide), State.terms_tallyEnergy, if_pos place]
  have watched : s.watched n o restart r = ((s.tallied n restart r).storePower n r.power).closedWatch n o r.closed :=
    State.watchReport_of_not_live (by rw [out]; decide)
  obtain ⟨state, -, outlet, -⟩ :=
    ((s.tallied n restart r).storePower n r.power).views_closedWatch (n := n) (o := o) r.closed
  rw [← watched] at state outlet
  have state' : (s.watched n o restart r).recState n = .quotaOut := state.trans out
  rw [State.endReport_of_settled (by rw [state']; decide) (by rw [state']; decide)]
  exact ⟨state', (congrArg Outlet.closed outlet).trans opened⟩

/-! ### A LIVE record -/

/-- A shed by a watch of a LIVE record. -/
theorem State.report_of_shed {u : State} {k : ShedKind} {draw : Option Nat}
    (spent : u.quotaSpent n = false) (place' : (u.terms n).outlet = some o)
    (watched : s.watched n o restart r = (u.shedWith k .unexpectedOpen draw n).closedWatch n o r.closed) :
    ((s.watched n o restart r).endReport n r.closed).recState n = .shed ∧
    (((s.watched n o restart r).endReport n r.closed).work n).holdoff =
      k.holdoff u.svl.settings.holdoff (k.recent (u.account n).recent) ∧
    (((s.watched n o restart r).endReport n r.closed).work n).preShed = draw ∧
    (((s.watched n o restart r).endReport n r.closed).account n).cause = some .unexpectedOpen ∧
    (((s.watched n o restart r).endReport n r.closed).account n).recent = k.recent (u.account n).recent ∧
    (((s.watched n o restart r).endReport n r.closed).outlet o).closed = false := by
  obtain ⟨state, account, outlet, run, work⟩ :=
    (u.shedWith k .unexpectedOpen draw n).views_closedWatch (n := n) (o := o) r.closed
  rw [← watched] at state account outlet work
  have shed : (s.watched n o restart r).recState n = .shed := by
    rw [state, State.recState_shedWith, State.shedOrOut_of_unspent _ _ spent]
  rw [State.endReport_of_settled (by rw [shed]; decide) (by rw [shed]; decide)]
  rw [State.account_shedWith_of_unspent _ _ _ spent] at account
  rw [State.work_shedWith_of_unspent _ _ _ spent] at work
  rw [State.outlet_shedWith _ _ _ place'] at outlet
  refine ⟨shed, ?_, ?_, ?_, ?_, ?_⟩
  · rw [work]
  · rw [work]
  · rw [account]
  · rw [account]
  · rw [outlet]

section Live

variable (law : s.quotaLaw) (live : s.recState n = .live)
  (unspent : s.spentWith n (s.energyOf n restart r) = false)
include law live unspent

/-- What the watches find of a LIVE record whose quota is not reached. -/
theorem State.live_tallied :
    (s.tallied n restart r).recState n = .live ∧ (s.tallied n restart r).terms n = s.terms n ∧
    (s.tallied n restart r).quotaSpent n = false ∧
    (s.tallied n restart r).work n = { s.work n with baseline := some r.energy } ∧
    ((s.tallied n restart r).account n).recent = (s.account n).recent ∧
    (∀ o, (s.tallied n restart r).outlet o = s.outlet o) ∧ (s.tallied n restart r).svl = s.svl := by
  have tallied := State.tallied_of_unspent law (.inl live) unspent
  have spent := State.quotaSpent_of_unspent law (.inl live) unspent
  have terms := s.terms_tallyEnergy n restart r.energy
  have account := s.account_tallyEnergy n restart r.energy
  rw [← tallied] at spent terms account
  refine ⟨(congrArg Terms.state terms).trans live, terms, spent, ?_, ?_, ?_, ?_⟩
  · rw [tallied, State.work_tallyEnergy]
  · rw [account]
    split <;> rfl
  · rw [tallied]
    exact State.outlet_congr (by simp)
  · rw [tallied]
    simp

theorem State.unspent_storePower : ((s.tallied n restart r).storePower n r.power).quotaSpent n = false := by
  obtain ⟨-, -, spent, -⟩ := State.live_tallied law live unspent
  exact spent

/-- The last reading if fresh, as it was before the report. -/
theorem State.freshDraw_tallied : (s.tallied n restart r).freshDraw n =
    if (s.work n).fresh = true then (s.work n).reading else none := by
  obtain ⟨-, -, -, work, -⟩ := State.live_tallied law live unspent
  rw [State.freshDraw, work]

theorem State.report_of_restart (place : (s.terms n).outlet = some o) (again : restart = true) :
    ((s.watched n o restart r).endReport n r.closed).recState n = .shed ∧
    (((s.watched n o restart r).endReport n r.closed).work n).holdoff = 0 ∧
    (((s.watched n o restart r).endReport n r.closed).account n).cause = some .unexpectedOpen ∧
    (((s.watched n o restart r).endReport n r.closed).account n).recent = (s.account n).recent ∧
    (((s.watched n o restart r).endReport n r.closed).outlet o).closed = false := by
  obtain ⟨state, terms, -, -, recent, -, -⟩ := State.live_tallied (restart := restart) (r := r) law live unspent
  obtain ⟨shed, holdoff, -, cause, recent', outlet⟩ := State.report_of_shed (s := s) (o := o) (restart := restart) (r := r)
    (State.unspent_storePower law live unspent) ((congrArg Terms.outlet terms).trans place)
    (State.watchReport_of_restart state again)
  exact ⟨shed, holdoff, cause, recent'.trans recent, outlet⟩

theorem State.overCap_tallied : (s.tallied n restart r).overCap n r = s.overCap n r := by
  obtain ⟨-, terms, -⟩ := State.live_tallied (restart := restart) (r := r) law live unspent
  rw [State.overCap, State.overCap, terms]

/-- The state before the open watch. -/
theorem State.facts_metered :
    ((s.tallied n restart r).metered n r).recState n = .live ∧
    (((s.tallied n restart r).metered n r).terms n) = s.terms n ∧
    ((s.tallied n restart r).metered n r).quotaSpent n = false ∧
    (((s.tallied n restart r).metered n r).work n).openRun = (s.work n).openRun ∧
    (((s.tallied n restart r).metered n r).work n).overRun =
      (if s.overCap n r = true then (s.work n).overRun + 1 else 0) ∧
    (((s.tallied n restart r).metered n r).account n).recent = (s.account n).recent ∧
    ((s.tallied n restart r).metered n r).outlet o = s.outlet o ∧
    ((s.tallied n restart r).metered n r).svl = s.svl := by
  obtain ⟨state, terms, spent, work, recent, outlet, svl⟩ :=
    State.live_tallied (restart := restart) (r := r) law live unspent
  refine ⟨state, terms, spent, ?_, ?_, recent, outlet o, svl⟩
  · rw [State.metered, State.work_modWork_same, State.work_storePower, work]
  · rw [State.metered, State.work_modWork_same, State.overCap_tallied law live unspent, work]

section Steady

variable (steady : restart = false)
include steady

theorem State.report_of_trip (place : (s.terms n).outlet = some o) (above : s.overCap n r = true)
    (trips : s.svl.settings.tripCount ≤ (s.work n).overRun + 1) :
    ((s.watched n o restart r).endReport n r.closed).recState n = .tripped ∧
    (((s.watched n o restart r).endReport n r.closed).work n).cooloff = s.svl.settings.tripCooloff ∧
    (((s.watched n o restart r).endReport n r.closed).work n).preShed = none ∧
    (((s.watched n o restart r).endReport n r.closed).outlet o).closed = false := by
  obtain ⟨state, terms, -, work, -, -, svl⟩ := State.live_tallied (restart := restart) (r := r) law live unspent
  have watched : s.watched n o restart r =
      (((s.tallied n restart r).storePower n r.power).tripRecord n).closedWatch n o r.closed :=
    State.watchReport_of_trip state steady ((State.overCap_tallied law live unspent).trans above)
      (by rw [svl, work]; exact trips)
  obtain ⟨tripped, -, outlet, run, work'⟩ :=
    (((s.tallied n restart r).storePower n r.power).tripRecord n).views_closedWatch (n := n) (o := o) r.closed
  rw [← watched] at tripped outlet work'
  rw [State.recState_tripRecord] at tripped
  rw [State.endReport_of_settled (by rw [tripped]; decide) (by rw [tripped]; decide)]
  rw [State.tripRecord, State.work_modWork_same] at work'
  refine ⟨tripped, ?_, ?_, ?_⟩
  · rw [work']
    exact congrArg (fun v : Svl => v.settings.tripCooloff) svl
  · rw [work']
  · rw [outlet]
    have place' : (((s.tallied n restart r).storePower n r.power).terms n).outlet = some o :=
      (congrArg Terms.outlet terms).trans place
    rw [State.tripRecord, State.outlet_congr (s := ((s.tallied n restart r).storePower n r.power).become n .tripped)
      (by simp), State.outlet_become _ _ _ _ (by decide), if_pos place']

section Metered

variable (under : s.overCap n r = false ∨ (s.work n).overRun + 1 < s.svl.settings.tripCount)
  (ordered : (s.outlet o).closed = true)
include under

theorem State.watched_of_no_trip : s.watched n o restart r =
    (((s.tallied n restart r).metered n r).openWatch n o r.closed
      (if (s.work n).fresh = true then (s.work n).reading else none)).closedWatch n o r.closed := by
  obtain ⟨state, -, -, work, -, -, svl⟩ := State.live_tallied (restart := restart) (r := r) law live unspent
  rw [State.watched, State.freshDraw_tallied law live unspent]
  refine State.watchReport_of_no_trip state steady ?_
  rw [State.overCap_tallied law live unspent, work, svl]
  exact under

include ordered

theorem State.report_of_open (place : (s.terms n).outlet = some o) (isOpen : r.closed = false)
    (second : 1 ≤ (s.work n).openRun) :
    ((s.watched n o restart r).endReport n r.closed).recState n = .shed ∧
    (((s.watched n o restart r).endReport n r.closed).account n).cause = some .unexpectedOpen ∧
    (((s.watched n o restart r).endReport n r.closed).work n).preShed =
      (if (s.work n).fresh = true then (s.work n).reading else none) ∧
    (((s.watched n o restart r).endReport n r.closed).work n).holdoff =
      min 160 (s.svl.settings.holdoff * 2 ^ (min 4 ((s.account n).recent + 1) - 1)) := by
  obtain ⟨state, terms, spent, openRun, -, recent, outlet, svl⟩ :=
    State.facts_metered (o := o) (restart := restart) (r := r) law live unspent
  have watched := State.watched_of_no_trip (o := o) law live unspent steady under
  rw [State.openWatch_of_open state (by rw [outlet]; exact ordered) isOpen (by rw [openRun]; exact second)] at watched
  obtain ⟨shed, holdoff, preShed, cause, -⟩ := State.report_of_shed spent ((congrArg Terms.outlet terms).trans place)
    watched
  refine ⟨shed, cause, preShed, holdoff.trans ?_⟩
  rw [svl, recent]
  rfl

theorem State.report_of_live (count : r.closed = true ∨ (s.work n).openRun = 0) :
    ((s.watched n o restart r).endReport n r.closed).recState n = .live ∧
    (((s.watched n o restart r).endReport n r.closed).work n).overRun =
      (if s.overCap n r = true then (s.work n).overRun + 1 else 0) ∧
    (((s.watched n o restart r).endReport n r.closed).work n).openRun = (if r.closed = true then 0 else 1) ∧
    ((s.watched n o restart r).endReport n r.closed).outlet o = s.outlet o := by
  obtain ⟨state, -, -, openRun, overRun, -, outlet, -⟩ :=
    State.facts_metered (o := o) (restart := restart) (r := r) law live unspent
  have watched := State.watched_of_no_trip (o := o) law live unspent steady under
  rw [State.openWatch_of_count state (by rw [outlet]; exact ordered) (by rw [openRun]; exact count)] at watched
  obtain ⟨state', -, outlet', run, work⟩ := (((s.tallied n restart r).metered n r).modWork n fun w =>
    { w with openRun := if r.closed = true then 0 else 1 }).views_closedWatch (n := n) (o := o) r.closed
  rw [← watched] at state' outlet' work
  have state'' : (s.watched n o restart r).recState n = .live := state'.trans state
  rw [State.endReport_of_settled (by rw [state'']; decide) (by rw [state'']; decide)]
  rw [State.work_modWork_same] at work
  refine ⟨state'', ?_, ?_, outlet'.trans outlet⟩
  · rw [work]
    exact overRun
  · rw [work]

end Metered
end Steady
end Live

/-! ### The other records -/

theorem RecState.underQuota_ne_live {spent : Bool} {st : RecState} (h : st ≠ .live) : st.underQuota spent ≠ .live := by
  cases st <;> cases spent <;> simp_all [RecState.underQuota]

theorem State.recState_tallied : (s.tallied n restart r).recState n =
    (s.recState n).underQuota ((s.tallyEnergy n restart r.energy).quotaSpent n) := by
  have state : (s.tallyEnergy n restart r.energy).recState n = s.recState n :=
    congrArg Terms.state (s.terms_tallyEnergy n restart r.energy)
  have terms := State.terms_quotaTest (s.tallyEnergy n restart r.energy) n
  rw [State.tallied, State.recState_eq, terms, state]

theorem State.closedRun_tallied : ((s.tallied n restart r).work n).closedRun = (s.work n).closedRun := by
  rw [State.tallied, State.quotaTest_eq]
  split
  · rw [State.work_tallyEnergy]
  · rw [State.work_become, if_pos rfl, (Working.reading_became _ _ _).2.2.2, State.work_tallyEnergy]

theorem State.watched_of_not_live (h : s.recState n ≠ .live) : s.watched n o restart r =
    ((s.tallied n restart r).storePower n r.power).closedWatch n o r.closed := by
  refine State.watchReport_of_not_live ?_
  rw [State.recState_tallied]
  exact RecState.underQuota_ne_live h

theorem State.recState_watched_of_not_live (h : s.recState n ≠ .live) :
    (s.watched n o restart r).recState n = (s.tallied n restart r).recState n := by
  rw [State.watched_of_not_live h]
  exact (((s.tallied n restart r).storePower n r.power).views_closedWatch r.closed).1

/-- An outlet that disobeys for the third time (R26). -/
theorem State.report_of_disobedience (place : (s.terms n).outlet = some o) (trusted : s.recState n ≠ .suspect)
    (h : s.recState n ≠ .live) (isClosed : r.closed = true) (ordered : (s.outlet o).closed = false)
    (third : (s.work n).closedRun = 2) :
    ((s.watched n o restart r).endReport n r.closed).flag .nodeDisobeys = true := by
  have tally : s.ReportFrame n o (s.tallied n restart r) :=
    (State.ReportFrame.tallyEnergy s restart r.energy).trans (State.frame_tallied place trusted).toReportFrame
  have run : (((s.tallied n restart r).storePower n r.power).work n).closedRun = 2 := by
    rw [State.work_storePower]
    exact State.closedRun_tallied.trans third
  have flag : (s.watched n o restart r).flag .nodeDisobeys = true := by
    rw [State.watched_of_not_live h]
    exact State.flag_closedWatch isClosed (tally.opened ordered) run
  rw [State.endReport_of_stays fun _ => isClosed, State.flag, (State.confirm_keeps n r.closed _).2.2.2.2.2.1]
  exact flag

/-- A retirement that ends (R16). -/
theorem State.report_of_retiring (place : (s.terms n).outlet = some o) (h : s.recState n = .retiring)
    (isOpen : r.closed = false) : (s.watched n o restart r).endReport n r.closed = (s.watched n o restart r).vacate n ∧
    s.ReportFrame n o (s.watched n o restart r) := by
  refine ⟨State.endReport_of_retiring ?_ isOpen, State.frame_watched place (by rw [h]; decide)⟩
  rw [State.recState_watched_of_not_live (by rw [h]; decide), State.recState_tallied, h]
  rfl

/-- A report leaves the other records and the other outlets alone. -/
theorem State.others_report (place : (s.terms n).outlet = some o) (trusted : s.recState n ≠ .suspect) :
    (∀ k : RecNo, k ≠ n → s.recordKept ((s.watched n o restart r).endReport n r.closed) k) ∧
    ∀ p : OutletId, p ≠ o → ((s.watched n o restart r).endReport n r.closed).outlet p = s.outlet p := by
  by_cases ends : s.recState n = .retiring ∧ r.closed = false
  · obtain ⟨e, frame⟩ := State.report_of_retiring (restart := restart) place ends.1 ends.2
    rw [e]
    exact ⟨fun k hk => (frame.others k hk).trans (State.recordKept_vacate _ hk), fun p hp =>
      (State.outlet_congr (congrArg Fcl.outlets (State.vacate_keeps n _).1) p).trans (frame.outlets p hp)⟩
  · have frame : s.ReportFrame n o (s.watched n o restart r) := State.frame_watched place trusted
    have whole := frame.trans (State.endReport_keeps (r := r) fun h =>
      Bool.eq_true_of_not_eq_false fun isOpen => ends ⟨frame.waits h, isOpen⟩).toReportFrame
    exact ⟨whole.others, whole.outlets⟩

section Restoring

variable (law : s.quotaLaw) (h : s.recState n = .restoring) (unspent : s.spentWith n (s.energyOf n restart r) = false)
include law h unspent

theorem State.recState_watched_of_restoring : (s.watched n o restart r).recState n = .restoring := by
  rw [State.recState_watched_of_not_live (by rw [h]; decide), State.recState_tallied,
    State.quotaSpent_of_unspent law (.inr (.inl h)) unspent, h]
  rfl

theorem State.report_of_restoring_open (isOpen : r.closed = false) :
    ((s.watched n o restart r).endReport n r.closed).recState n = .restoring := by
  have restoring : (s.watched n o restart r).recState n = .restoring := State.recState_watched_of_restoring law h unspent
  rw [State.endReport_of_other (fun e => by simp [restoring] at e) fun _ => isOpen, restoring]

theorem State.endReport_of_restoring :
    (s.watched n o restart r).endReport n r.closed = (s.watched n o restart r).confirm n r.closed := by
  have restoring : (s.watched n o restart r).recState n = .restoring := State.recState_watched_of_restoring law h unspent
  exact State.endReport_of_stays fun e => by simp [restoring] at e

end Restoring

end Report

/-! ## The reset handshake (R5, R27) -/

section Handshake

variable {s : State} {o : OutletId}

theorem State.answerReset_of_dropped (bound : Option RecNo) (answered : (s.outlet o).answered = true) :
    s.answerReset o bound false = s.modOutlet o fun x => { x with answered := false } := by
  unfold State.answerReset
  rw [answered]

theorem State.answerReset_of_new (n : RecNo) (answered : (s.outlet o).answered = false) :
    s.answerReset o (some n) true = (s.modOutlet o fun x => { x with answered := true }).takeReset n := by
  unfold State.answerReset
  rw [answered]

theorem State.answerReset_of_new_unbound (answered : (s.outlet o).answered = false) :
    s.answerReset o none true = s.modOutlet o fun x => { x with answered := true } := by
  unfold State.answerReset
  rw [answered]

theorem State.takeReset_of_other {n : RecNo} (h : s.recState n ≠ .tripped ∨ (s.work n).cooloff ≠ 0) :
    s.takeReset n = s := if_neg fun e => h.elim (fun h => h e.1) fun h => h e.2

theorem State.takeReset_of_cool {n : RecNo} (h : s.recState n = .tripped) (cool : (s.work n).cooloff = 0) :
    s.takeReset n = s.become n (s.shedOrOut n) := (if_pos ⟨h, cool⟩).trans (s.enterShed_eq n)

theorem State.answered_become {n : RecNo} {st : RecState} (h : st ≠ .suspect) :
    ((s.become n st).outlet o).answered = (s.outlet o).answered := by
  rw [State.outlet_become _ _ _ _ h]
  split <;> rfl

theorem State.answered_takeReset (n : RecNo) : ((s.takeReset n).outlet o).answered = (s.outlet o).answered := by
  by_cases cool : s.recState n = .tripped ∧ (s.work n).cooloff = 0
  · rw [State.takeReset_of_cool cool.1 cool.2, State.answered_become (s.shedOrOut_ne_suspect n)]
  · rw [State.takeReset_of_other (Decidable.not_and_iff_or_not.1 cool)]

end Handshake

/-- Settles O49: a report along the path its record's state sends it, and the handshake by its four cases. -/
theorem outletReportIsTaken : Obligations.OutletReportIsTaken := by
  refine ⟨fun s restart o r n map bound reads found law quiet place trusted _ => ?_, fun s o bound flag => ?_⟩
  · intro t before d spent overCap disobeys
    have report : t = (s.watched n o restart r).endReport n r.closed :=
      State.takeReport_eq map bound reads found place trusted quiet
    have energy : d = s.energyOf n restart r := (energyStep_eq _ _ _).symm
    have quota : spent = s.spentWith n (s.energyOf n restart r) := by
      rw [← energy]
      rfl
    clear_value t d spent
    subst report energy quota
    have stays (h : ¬ (s.recState n = .retiring ∧ r.closed = false)) : s.recState n = .retiring → r.closed = true :=
      fun e => Bool.eq_true_of_not_eq_false fun open' => h ⟨e, open'⟩
    obtain ⟨kept, outlets⟩ := State.others_report (restart := restart) (r := r) place trusted
    refine ⟨kept, outlets, fun h => ?_, fun h spent => ?_, fun live unspent again => ?_,
      fun live unspent steady above trips => ?_, fun live unspent steady under ordered isOpen second => ?_,
      fun live unspent steady under ordered count => ?_, fun off disobeys third => ?_, fun retiring isOpen => ?_,
      fun restoring unspent isClosed => ?_, fun restoring unspent isOpen => ?_⟩
    · obtain ⟨map', counts⟩ := State.counts_report place trusted (stays h) _ rfl
      exact ⟨map'.symm, counts⟩
    · exact State.report_of_spent place law h spent
    · exact State.report_of_restart law live unspent place again
    · exact State.report_of_trip law live unspent steady place above trips
    · exact State.report_of_open law live unspent steady under ordered place isOpen second
    · exact State.report_of_live law live unspent steady under ordered count
    · obtain ⟨isClosed, ordered⟩ : r.closed = true ∧ (s.outlet o).closed = false := by
        simpa using (Bool.and_eq_true_iff.1 disobeys)
      exact State.report_of_disobedience place trusted off isClosed ordered third
    · obtain ⟨e, frame⟩ := State.report_of_retiring (restart := restart) place retiring isOpen
      rw [e]
      refine ⟨(State.slots_vacate _ _ _).trans (if_pos rfl), ?_⟩
      rw [State.boundTo_vacate _ _ (by rw [frame.map, map]; decide), State.boundTo_congr frame.map, bound, if_pos rfl]
    · rw [State.endReport_of_restoring law restoring unspent]
      exact State.facts_confirm (State.recState_watched_of_restoring law restoring unspent) isClosed
    · exact State.report_of_restoring_open law restoring unspent isOpen
  · refine ⟨State.answerReset_same bound, fun dropped answered => ?_, fun new answered => ⟨?_, ?_, ?_, ?_⟩⟩
    · rw [dropped]
      exact State.answerReset_of_dropped bound answered
    · rw [new]
      cases bound with
      | none =>
        rw [State.answerReset_of_new_unbound answered]
        simp
      | some n =>
        rw [State.answerReset_of_new n answered, State.answered_takeReset]
        simp
    · rintro rfl
      exact new ▸ State.answerReset_of_new_unbound answered
    · rintro n rfl warm
      exact new ▸ (State.answerReset_of_new n answered).trans (State.takeReset_of_other warm)
    · rintro n rfl tripped cool
      have same : (s.modOutlet o fun x => { x with answered := true }).shedOrOut n = s.shedOrOut n := rfl
      rw [new, State.answerReset_of_new n answered,
        State.takeReset_of_cool (s := s.modOutlet o fun x => { x with answered := true }) tripped cool, same]
      refine ⟨(State.terms_become _ _ _ _).trans (if_pos rfl), fun unspent => ?_⟩
      rw [State.shedOrOut_of_unspent _ _ unspent, State.work_become, if_pos rfl]
      rfl

end Sys2Proof.Machine

namespace Sys2Proof.Machine

/-! ## The silent nodes at the round end (R42, R43) -/

/-- A fold that comes upon an element once: what holds before it, what its step makes of that, and what the steps after
it leave. -/
theorem foldl_at {α γ : Type} {P Q : α → Prop} {f : α → γ → α} {l : List γ} {a : γ} {s : α} (mem : a ∈ l)
    (nodup : l.Nodup) (start : P s) (before : ∀ t, ∀ b ∈ l, b ≠ a → P t → P (f t b)) (hit : ∀ t, P t → Q (f t a))
    (after : ∀ t, ∀ b ∈ l, b ≠ a → Q t → Q (f t b)) : Q (l.foldl f s) := by
  have keep {R : α → Prop} (l' : List γ) (step : ∀ t, ∀ b ∈ l', R t → R (f t b)) : ∀ t, R t → R (l'.foldl f t) := by
    induction l' with
    | nil => exact fun _ h => h
    | cons b l' ih =>
      exact fun t h => ih (fun t c hc => step t c (List.mem_cons_of_mem b hc)) _ (step t b List.mem_cons_self h)
  obtain ⟨l₁, l₂, rfl⟩ := List.append_of_mem mem
  obtain ⟨-, nodup₂, apart⟩ := List.nodup_append.1 nodup
  rw [List.foldl_append, List.foldl_cons]
  refine keep l₂ (fun t b hb => after t b (by simp [hb]) fun e => ?_) _
    (hit _ (keep l₁ (fun t b hb => before t b (by simp [hb]) fun e => ?_) _ start))
  · exact (List.nodup_cons.1 nodup₂).1 (e ▸ hb)
  · exact apart b hb a (by simp) e

section Silenced

variable {s t u : State}

/-- A slot that a node's silence has made VACANT: no outlet names it, and it has no fresh reading. -/
def State.Emptied (t : State) (n : RecNo) : Prop :=
  t.nva.slots[n] = Slot.vacant ∧ (t.work n).fresh = false ∧ ∀ o, t.boundTo o ≠ some n

/-- What the first two parts of the round end may do, the nodes apart: RETIRING records become VACANT, fresh flags are
cleared, flags are latched and an evaluation falls due. The map reads without an error throughout. -/
structure State.Silenced (s t : State) : Prop where
  slot : ∀ n, t.nva.slots[n] = s.nva.slots[n] ∨ s.recState n = .retiring ∧ t.Emptied n
  bound : ∀ o, t.boundTo o = s.boundTo o ∨ t.boundTo o = none ∧ ∃ n, s.boundTo o = some n ∧ t.Emptied n
  fresh : ∀ n, (s.work n).fresh = false → (t.work n).fresh = false
  mapReads : ∀ o, t.mapReads o
  flags : ∀ f, s.flag f = true → t.flag f = true
  kept : t.fcl.outlets = s.fcl.outlets ∧ t.fcl.phase = s.fcl.phase ∧ t.rsv.table = s.rsv.table ∧ t.sld = s.sld ∧
    t.wgc = s.wgc ∧ t.svl.settings = s.svl.settings

/-- What is emptied stays so. -/
theorem State.Silenced.emptied (h : s.Silenced t) {n : RecNo} (e : s.Emptied n) : t.Emptied n := by
  obtain same | ⟨-, gone⟩ := h.slot n
  · refine ⟨same.trans e.1, h.fresh n e.2.1, fun o => ?_⟩
    obtain same | ⟨none, -⟩ := h.bound o
    · rw [same]
      exact e.2.2 o
    · rw [none]
      exact nofun
  · exact gone

theorem State.Silenced.trans (h : s.Silenced t) (h' : t.Silenced u) : s.Silenced u where
  slot n := by
    obtain same | ⟨retiring, gone⟩ := h.slot n
    · obtain same' | ⟨retiring, gone⟩ := h'.slot n
      · exact .inl (same'.trans same)
      · exact .inr ⟨(congrArg (fun x : Slot => x.terms.value.state) same).symm.trans retiring, gone⟩
    · exact .inr ⟨retiring, h'.emptied gone⟩
  bound o := by
    obtain same | ⟨none, n, was, gone⟩ := h.bound o
    · rw [← same]
      exact h'.bound o
    · obtain same | ⟨none', -⟩ := h'.bound o
      · exact .inr ⟨same.trans none, n, was, h'.emptied gone⟩
      · exact .inr ⟨none', n, was, h'.emptied gone⟩
  fresh n f := h'.fresh n (h.fresh n f)
  mapReads := h'.mapReads
  flags f set := h'.flags f (h.flags f set)
  kept := by
    obtain ⟨a, b, c, d, e, f⟩ := h.kept
    obtain ⟨a', b', c', d', e', f'⟩ := h'.kept
    exact ⟨a'.trans a, b'.trans b, c'.trans c, d'.trans d, e'.trans e, f'.trans f⟩

/-- A bound RETIRING record is as it was, or emptied. -/
theorem State.Silenced.retiring (h : s.Silenced t) {o : OutletId} {n : RecNo} (bound : s.boundTo o = some n)
    (retiring : s.recState n = .retiring) : t.recState n = .retiring ∧ t.boundTo o = some n ∨ t.Emptied n := by
  obtain same | ⟨-, m, was, gone⟩ := h.bound o
  · obtain slot | ⟨-, gone⟩ := h.slot n
    · exact .inl ⟨(congrArg (fun x : Slot => x.terms.value.state) slot).trans retiring, same.trans bound⟩
    · exact .inr gone
  · obtain rfl : m = n := Option.some.inj (was.symm.trans bound)
    exact .inr gone

/-- Such changes after which a slot is emptied. -/
def State.SilencedTo (s : State) (n : RecNo) (t : State) : Prop := s.Silenced t ∧ t.Emptied n

theorem State.SilencedTo.trans {n : RecNo} (h : s.SilencedTo n t) (h' : t.Silenced u) : s.SilencedTo n u :=
  ⟨h.1.trans h', h'.emptied h.2⟩

/-- A change that leaves the records and the map as they are. -/
theorem State.Silenced.of_eq (reads : ∀ o, s.mapReads o) (nva : t.nva = s.nva)
    (fresh : ∀ n, (s.work n).fresh = false → (t.work n).fresh = false)
    (flags : ∀ f, s.flag f = true → t.flag f = true)
    (kept : t.fcl.outlets = s.fcl.outlets ∧ t.fcl.phase = s.fcl.phase ∧ t.rsv.table = s.rsv.table ∧ t.sld = s.sld ∧
      t.wgc = s.wgc ∧ t.svl.settings = s.svl.settings) : s.Silenced t where
  slot n := .inl (by rw [nva])
  bound o := .inl (State.boundTo_congr (congrArg Nva.map nva) o)
  fresh := fresh
  mapReads o := by rw [State.mapReads, nva]; exact reads o
  flags := flags
  kept := kept

theorem State.silenced_refl (reads : ∀ o, s.mapReads o) : s.Silenced s :=
  .of_eq reads rfl (fun _ h => h) (fun _ h => h) ⟨rfl, rfl, rfl, rfl, rfl, rfl⟩

theorem State.silenced_modNode (reads : ∀ o, s.mapReads o) (a : NodeNo) (f : Node → Node) :
    s.Silenced (s.modNode a f) :=
  .of_eq reads rfl (fun _ h => h) (fun _ h => h) ⟨rfl, rfl, rfl, rfl, rfl, rfl⟩

theorem State.silenced_promptEvaluation (reads : ∀ o, s.mapReads o) : s.Silenced s.promptEvaluation :=
  .of_eq reads rfl (fun _ h => h) (fun _ h => h) ⟨rfl, rfl, rfl, rfl, rfl, rfl⟩

theorem State.silenced_latch (reads : ∀ o, s.mapReads o) (f : Flag) : s.Silenced (s.latch f) := by
  refine .of_eq reads rfl (fun _ h => h) (fun g set => ?_) ⟨rfl, rfl, rfl, rfl, rfl, rfl⟩
  rw [State.flag] at set ⊢
  show (s.svl.flags ||| _).getLsbD _ = true
  rw [BitVec.getLsbD_or, set, Bool.true_or]

theorem State.silenced_modWork (reads : ∀ o, s.mapReads o) (n : RecNo) :
    s.Silenced (s.modWork n fun w => { w with fresh := false }) := by
  refine .of_eq reads rfl (fun m h => ?_) (fun _ h => h) ⟨rfl, rfl, rfl, rfl, rfl, rfl⟩
  rw [State.work_modWork]
  split
  · rfl
  · exact h

theorem State.emptied_vacate (reads : ∀ o, s.mapReads o) (n : RecNo) : (s.vacate n).Emptied n := by
  refine ⟨by rw [State.slots_vacate, if_pos rfl], by rw [State.work_vacate, if_pos rfl]; rfl, fun o => ?_⟩
  rw [State.boundTo_vacate _ _ (by rw [reads o]; decide)]
  split
  · exact nofun
  · assumption

theorem State.silenced_vacate (reads : ∀ o, s.mapReads o) {n : RecNo} (retiring : s.recState n = .retiring) :
    s.Silenced (s.vacate n) where
  slot m := by
    by_cases e : m = n
    · subst e
      exact .inr ⟨retiring, State.emptied_vacate reads m⟩
    · exact .inl (by rw [State.slots_vacate, if_neg e])
  bound o := by
    rw [State.boundTo_vacate _ _ (by rw [reads o]; decide)]
    split
    next was => exact .inr ⟨rfl, n, was, State.emptied_vacate reads n⟩
    next => exact .inl rfl
  fresh m h := by
    rw [State.work_vacate]
    split
    · rfl
    · exact h
  mapReads o := by
    rw [State.mapReads, State.map_vacate]
    simp only [State.unbind, State.modNva, Fin.getElem_fin, Vector.getElem_map]
    split
    · rfl
    · exact reads o
  flags f h := by rw [State.flag, (State.vacate_keeps n s).2.2.2.2.2.2.1]; exact h
  kept := by
    have rsv : (s.vacate n).rsv = (s.leave n).rsv := rfl
    have sld : (s.vacate n).sld = (s.leave n).sld := rfl
    refine ⟨by simp, by simp, ?_, ?_, by simp, by simp⟩
    · rw [rsv, State.rsv_leave, retiring]
    · rw [sld, State.sld_leave, retiring]
      rfl

/-! ### A node that enters SILENT -/

/-- What the silence of a node does at one outlet. -/
def State.silenceOutlet (t : State) (o : OutletId) : State :=
  match t.boundTo o with
  | some n => if t.recState n = .retiring then t.vacate n else t
  | none => t

theorem State.silenced_silenceOutlet (reads : ∀ o, s.mapReads o) (o : OutletId) : s.Silenced (s.silenceOutlet o) := by
  unfold State.silenceOutlet
  split
  · split
    next retiring => exact State.silenced_vacate reads retiring
    next => exact State.silenced_refl reads
  · exact State.silenced_refl reads

/-- A fold whose steps are such changes is one. -/
theorem State.silenced_foldl {γ : Type} {f : State → γ → State} (reads : ∀ o, s.mapReads o)
    (step : ∀ (t : State) (a : γ), (∀ o, t.mapReads o) → t.Silenced (f t a)) (l : List γ) :
    s.Silenced (l.foldl f s) :=
  foldl_inv s.Silenced f (fun t a h => h.trans (step t a h.mapReads)) l s (State.silenced_refl reads)

/-- Two folds whose steps agree on the states that the second reaches. -/
theorem foldl_congr_of_inv {α γ : Type} {P : α → Prop} {f g : α → γ → α} (eq : ∀ t a, P t → f t a = g t a)
    (keep : ∀ t a, P t → P (g t a)) (l : List γ) (s : α) (hs : P s) : l.foldl f s = l.foldl g s := by
  induction l generalizing s with
  | nil => rfl
  | cons a l ih =>
    rw [List.foldl_cons, List.foldl_cons, eq s a hs]
    exact ih _ (keep s a hs)

theorem State.enterSilent_eq (reads : ∀ o, s.mapReads o) (a : NodeNo) : s.enterSilent a =
    ((outletsOf a).foldl State.silenceOutlet
      ((s.modNode a fun x => { x with state := .silent }).latch .nodeSilent)).promptEvaluation := by
  refine congrArg State.promptEvaluation ?_
  refine foldl_congr_of_inv (P := fun t => ∀ o, t.mapReads o) (fun t o reads => ?_)
    (fun t o reads => (State.silenced_silenceOutlet reads o).mapReads) _ _ reads
  dsimp only
  rw [t.readBinding_clean o (reads o)]
  unfold State.silenceOutlet
  cases t.boundTo o <;> rfl

/-- The start of a node's silence: its state and the flag. -/
theorem State.silenced_note (reads : ∀ o, s.mapReads o) (a : NodeNo) :
    s.Silenced ((s.modNode a fun x => { x with state := .silent }).latch .nodeSilent) :=
  have moved := State.silenced_modNode reads a fun x => { x with state := .silent }
  moved.trans (State.silenced_latch moved.mapReads .nodeSilent)

theorem State.silenced_enterSilent (reads : ∀ o, s.mapReads o) (a : NodeNo) : s.Silenced (s.enterSilent a) := by
  rw [State.enterSilent_eq reads]
  have noted := State.silenced_note reads a
  have outlets := State.silenced_foldl noted.mapReads (fun t o h => State.silenced_silenceOutlet h o) (outletsOf a)
  exact (noted.trans outlets).trans (State.silenced_promptEvaluation outlets.mapReads)

theorem State.fcl_silenceOutlet (t : State) (o : OutletId) : (t.silenceOutlet o).fcl = t.fcl := by
  unfold State.silenceOutlet
  split
  · split
    · exact (State.vacate_keeps _ t).1
    · rfl
  · rfl

theorem State.node_enterSilent (reads : ∀ o, s.mapReads o) (a k : NodeNo) :
    (s.enterSilent a).node k = if k = a then { s.node a with state := .silent } else s.node k := by
  have fcl : (s.enterSilent a).fcl = (s.modNode a fun x => { x with state := .silent }).fcl := by
    rw [State.enterSilent_eq reads, (State.promptEvaluation_keeps _).2.2.1,
      foldl_keeps State.fcl _ State.fcl_silenceOutlet, (State.latch_keeps _ _).2.2.1]
  rw [State.node_congr (congrArg Fcl.nodes fcl), State.node_modNode]

theorem State.flag_enterSilent (reads : ∀ o, s.mapReads o) (a : NodeNo) :
    (s.enterSilent a).flag .nodeSilent = true := by
  rw [State.enterSilent_eq reads]
  have outlets := State.silenced_foldl (State.silenced_note reads a).mapReads
    (fun t o h => State.silenced_silenceOutlet h o) (outletsOf a)
  exact (State.silenced_promptEvaluation outlets.mapReads).flags _ (outlets.flags _ (State.flag_latch_self _ _))

theorem mem_outletsOf (o : OutletId) : o ∈ outletsOf o.node := by
  obtain ⟨a, k⟩ := o
  refine List.mem_map_of_mem ?_
  revert k
  decide

theorem nodup_outletsOf (a : NodeNo) : (outletsOf a).Nodup :=
  List.Nodup.map (fun _ _ e => congrArg OutletId.outlet e) (by decide)

/-- A RETIRING record that an outlet of the node is bound to is emptied (R16). -/
theorem State.emptied_enterSilent (reads : ∀ o, s.mapReads o) {o : OutletId} {n : RecNo} (bound : s.boundTo o = some n)
    (retiring : s.recState n = .retiring) : (s.enterSilent o.node).Emptied n := by
  have outlets : s.SilencedTo n ((outletsOf o.node).foldl State.silenceOutlet
      ((s.modNode o.node fun x => { x with state := .silent }).latch .nodeSilent)) := by
    refine foldl_at (mem_outletsOf o) (nodup_outletsOf _) (State.silenced_note reads _)
      (fun t b _ _ h => h.trans (State.silenced_silenceOutlet h.mapReads b)) (fun t h => ?_)
      fun t b _ _ h => h.trans (State.silenced_silenceOutlet h.1.mapReads b)
    have step := State.silenced_silenceOutlet h.mapReads o
    obtain ⟨state, same⟩ | gone := h.retiring bound retiring
    · refine ⟨h.trans step, ?_⟩
      rw [State.silenceOutlet, same]
      dsimp only
      rw [if_pos state]
      exact State.emptied_vacate h.mapReads n
    · exact ⟨h.trans step, step.emptied gone⟩
  rw [State.enterSilent_eq reads]
  exact (State.silenced_promptEvaluation outlets.1.mapReads).emptied outlets.2

/-! ### The nodes of the poll list -/

/-- A node of the poll list at the round end (R41, R42). -/
def Node.rounded (x : Node) : Node :=
  if x.replied = true then x
  else match x.state with
    | .joining => { x with state := .absent, missed := 0 }
    | .present => { x with missed := min 3 (x.missed + 1), state := if 2 ≤ x.missed then .silent else .present }
    | .absent | .silent => x

theorem Node.replied_rounded (x : Node) : x.rounded.replied = x.replied := by
  unfold Node.rounded
  split
  · rfl
  · split <;> rfl

/-- The third round without a reply makes a node SILENT. -/
theorem State.nodeRoundEnd_of_third {a : NodeNo} (quiet : (s.node a).replied = false)
    (present : (s.node a).state = .present) (third : 2 ≤ (s.node a).missed) :
    s.nodeRoundEnd a = (s.modNode a fun x => { x with missed := min 3 (x.missed + 1) }).enterSilent a := by
  unfold State.nodeRoundEnd
  dsimp only
  rw [if_neg (by rw [quiet]; decide), present]
  dsimp only
  rw [if_pos]
  rw [State.node_modNode_same]
  show min 3 ((s.node a).missed + 1) = 3
  omega

theorem State.nodeRoundEnd_of_early {a : NodeNo} (quiet : (s.node a).replied = false)
    (present : (s.node a).state = .present) (early : ¬ 2 ≤ (s.node a).missed) :
    s.nodeRoundEnd a = s.modNode a fun x => { x with missed := min 3 (x.missed + 1) } := by
  unfold State.nodeRoundEnd
  dsimp only
  rw [if_neg (by rw [quiet]; decide), present]
  dsimp only
  rw [if_neg]
  rw [State.node_modNode_same]
  show min 3 ((s.node a).missed + 1) ≠ 3
  omega

/-- The four things that the round end may do at a node of the poll list. -/
theorem State.nodeRoundEnd_cases (s : State) (a : NodeNo) :
    s.nodeRoundEnd a = s ∧ (s.node a).rounded = s.node a ∨
    s.nodeRoundEnd a = (s.modNode a fun x => { x with missed := min 3 (x.missed + 1) }).enterSilent a ∧
      (s.node a).rounded = { s.node a with missed := min 3 ((s.node a).missed + 1), state := .silent } ∨
    ∃ f, s.nodeRoundEnd a = s.modNode a f ∧ (s.node a).rounded = f (s.node a) := by
  cases quiet : (s.node a).replied with
  | true => exact .inl ⟨if_pos quiet, if_pos quiet⟩
  | false =>
    cases state : (s.node a).state with
    | joining =>
      exact .inr (.inr ⟨fun x => { x with state := .absent, missed := 0 }, by simp [State.nodeRoundEnd, quiet, state],
        by simp [Node.rounded, quiet, state]⟩)
    | present =>
      by_cases third : 2 ≤ (s.node a).missed
      · exact .inr (.inl ⟨State.nodeRoundEnd_of_third quiet state third, by simp [Node.rounded, quiet, state, third]⟩)
      · refine .inr (.inr ⟨_, State.nodeRoundEnd_of_early quiet state third, ?_⟩)
        simp [Node.rounded, quiet, state, third]
    | absent => exact .inl ⟨by simp [State.nodeRoundEnd, quiet, state], by simp [Node.rounded, quiet, state]⟩
    | silent => exact .inl ⟨by simp [State.nodeRoundEnd, quiet, state], by simp [Node.rounded, quiet, state]⟩

theorem State.silenced_nodeRoundEnd (reads : ∀ o, s.mapReads o) (a : NodeNo) : s.Silenced (s.nodeRoundEnd a) := by
  obtain ⟨e, -⟩ | ⟨e, -⟩ | ⟨f, e, -⟩ := s.nodeRoundEnd_cases a <;> rw [e]
  · exact State.silenced_refl reads
  · have counted := State.silenced_modNode reads a fun x => { x with missed := min 3 (x.missed + 1) }
    exact counted.trans (State.silenced_enterSilent counted.mapReads a)
  · exact State.silenced_modNode reads a f

theorem State.node_nodeRoundEnd (reads : ∀ o, s.mapReads o) (a k : NodeNo) :
    (s.nodeRoundEnd a).node k = if k = a then (s.node a).rounded else s.node k := by
  obtain ⟨e, same⟩ | ⟨e, third⟩ | ⟨f, e, changed⟩ := s.nodeRoundEnd_cases a
  · rw [e, same]
    split
    · subst k; rfl
    · rfl
  · rw [e, State.node_enterSilent (s := s.modNode a _) reads, third, State.node_modNode_same, State.node_modNode]
    split <;> rfl
  · rw [e, State.node_modNode, changed]

/-! ### The nodes without a reply -/

/-- What part 2 does at one outlet of a node without a valid reply. -/
def State.staleOutlet (t : State) (o : OutletId) : State :=
  match t.boundTo o with
  | some n => t.modWork n fun w => { w with fresh := false }
  | none => t

theorem State.silenced_staleOutlet (reads : ∀ o, s.mapReads o) (o : OutletId) : s.Silenced (s.staleOutlet o) := by
  unfold State.staleOutlet
  split
  · exact State.silenced_modWork reads _
  · exact State.silenced_refl reads

theorem State.clearFresh_eq (reads : ∀ o, s.mapReads o) (a : NodeNo) :
    s.clearFresh a = if (s.node a).replied = true then s else (outletsOf a).foldl State.staleOutlet s := by
  refine if_congr Iff.rfl rfl ?_
  refine foldl_congr_of_inv (P := fun t => ∀ o, t.mapReads o) (fun t o reads => ?_)
    (fun t o reads => (State.silenced_staleOutlet reads o).mapReads) _ _ reads
  dsimp only
  rw [t.readBinding_clean o (reads o)]
  unfold State.staleOutlet
  cases t.boundTo o <;> rfl

theorem State.silenced_clearFresh (reads : ∀ o, s.mapReads o) (a : NodeNo) : s.Silenced (s.clearFresh a) := by
  rw [State.clearFresh_eq reads]
  split
  · exact State.silenced_refl reads
  · exact State.silenced_foldl reads (fun t o h => State.silenced_staleOutlet h o) _

/-- A record that an outlet is bound to has no fresh reading once part 2 has come to the outlet's node. -/
theorem State.fresh_clearFresh (reads : ∀ o, s.mapReads o) {o : OutletId} {n : RecNo} (bound : s.boundTo o = some n)
    (quiet : (s.node o.node).replied = false) : ((s.clearFresh o.node).work n).fresh = false := by
  rw [State.clearFresh_eq reads, if_neg (by rw [quiet]; decide)]
  have stale : s.Silenced ((outletsOf o.node).foldl State.staleOutlet s) ∧
      (((outletsOf o.node).foldl State.staleOutlet s).work n).fresh = false := by
    refine foldl_at (P := s.Silenced) (Q := fun t => s.Silenced t ∧ (t.work n).fresh = false) (mem_outletsOf o)
      (nodup_outletsOf _) (State.silenced_refl reads)
      (fun t b _ _ h => h.trans (State.silenced_staleOutlet h.mapReads b)) (fun t h => ?_) fun t b _ _ h => ?_
    · refine ⟨h.trans (State.silenced_staleOutlet h.mapReads o), ?_⟩
      obtain same | ⟨-, m, was, gone⟩ := h.bound o
      · rw [State.staleOutlet, same, bound]
        dsimp only
        rw [State.work_modWork_same]
      · obtain rfl : m = n := Option.some.inj (was.symm.trans bound)
        exact (State.silenced_staleOutlet h.mapReads o).fresh m gone.2.1
    · have step := State.silenced_staleOutlet h.1.mapReads b
      exact ⟨h.1.trans step, step.fresh n h.2⟩
  exact stale.2

/-! ### Parts 1 and 2 together -/

/-- The state in which the round end takes up its parts. -/
def State.roundOver (s : State) : State := s.modFcl fun l => { l with phase := .idle, pollList := [], toPoll := [] }

/-- The state that part 1 leaves. -/
def State.endNodes (s : State) : State := s.fcl.pollList.foldl (fun t a => t.nodeRoundEnd a) s.roundOver

/-- The state that parts 1 and 2 leave. -/
def State.endPolls (s : State) : State := allNodes.foldl (fun t a => t.clearFresh a) s.endNodes

theorem State.roundEnd_eq (s : State) : s.roundEnd = s.endPolls.stagedRoundEnd.countRounds.refill := rfl

theorem State.silenced_endNodes (reads : ∀ o, s.mapReads o) : s.roundOver.Silenced s.endNodes :=
  State.silenced_foldl (s := s.roundOver) reads (fun _ a h => State.silenced_nodeRoundEnd h a) _

theorem State.silenced_endPolls_of_endNodes (reads : ∀ o, s.mapReads o) : s.endNodes.Silenced s.endPolls :=
  State.silenced_foldl (State.silenced_endNodes reads).mapReads (fun _ a h => State.silenced_clearFresh h a) _

theorem State.silenced_endPolls (reads : ∀ o, s.mapReads o) : s.roundOver.Silenced s.endPolls :=
  (State.silenced_endNodes reads).trans (State.silenced_endPolls_of_endNodes reads)

theorem State.nodes_endPolls (s : State) : s.endPolls.fcl.nodes = s.endNodes.fcl.nodes := by
  unfold State.endPolls
  exact foldl_keeps (fun t : State => t.fcl.nodes) _ (fun t a => (State.clearFresh_keeps a t).1) _ _

/-- What part 1 has done at a node by the time it comes to it: nothing. -/
def State.NodeAhead (s : State) (k : NodeNo) (t : State) : Prop := s.roundOver.Silenced t ∧ t.node k = s.node k

theorem State.NodeAhead.step {k a : NodeNo} (h : s.NodeAhead k t) (ne : a ≠ k) : s.NodeAhead k (t.nodeRoundEnd a) :=
  ⟨h.1.trans (State.silenced_nodeRoundEnd h.1.mapReads a),
    (State.node_nodeRoundEnd h.1.mapReads a k).trans ((if_neg ne.symm).trans h.2)⟩

theorem State.nodeAhead_start (reads : ∀ o, s.mapReads o) (k : NodeNo) : s.NodeAhead k s.roundOver :=
  ⟨State.silenced_refl (s := s.roundOver) reads, rfl⟩

theorem State.NodeAhead.foldl {k : NodeNo} {l : List NodeNo} (out : k ∉ l) (h : s.NodeAhead k t) :
    s.NodeAhead k (l.foldl (fun t a => t.nodeRoundEnd a) t) := by
  induction l generalizing t with
  | nil => exact h
  | cons a l ih =>
    obtain ⟨ne, out⟩ := not_or.1 (mt List.mem_cons.2 out)
    exact ih out (h.step (Ne.symm ne))

/-- The node once part 1 has come to it. -/
def State.NodeBehind (s : State) (k : NodeNo) (t : State) : Prop :=
  s.roundOver.Silenced t ∧ t.node k = (s.node k).rounded

theorem State.nodeBehind_endNodes (reads : ∀ o, s.mapReads o) (nodup : s.fcl.pollList.Nodup) {k : NodeNo}
    (mem : k ∈ s.fcl.pollList) : s.NodeBehind k s.endNodes := by
  refine foldl_at mem nodup (State.nodeAhead_start reads k) (fun t b _ ne h => h.step ne) (fun t h => ?_)
    fun t b _ ne h => ?_
  · refine ⟨h.1.trans (State.silenced_nodeRoundEnd h.1.mapReads k), ?_⟩
    rw [State.node_nodeRoundEnd h.1.mapReads, if_pos rfl, h.2]
  · refine ⟨h.1.trans (State.silenced_nodeRoundEnd h.1.mapReads b), ?_⟩
    rw [State.node_nodeRoundEnd h.1.mapReads, if_neg ne.symm, h.2]

/-- The node table after part 1. -/
theorem State.node_endNodes (reads : ∀ o, s.mapReads o) (nodup : s.fcl.pollList.Nodup) (k : NodeNo) :
    s.endNodes.node k = if k ∈ s.fcl.pollList then (s.node k).rounded else s.node k := by
  split
  next mem => exact (State.nodeBehind_endNodes reads nodup mem).2
  next out => exact (State.NodeAhead.foldl out (State.nodeAhead_start reads k)).2

/-- A node that entered SILENT: the flag is set, and its RETIRING records are emptied. -/
def State.SilenceNoted (s : State) (k : NodeNo) (t : State) : Prop :=
  s.roundOver.Silenced t ∧ t.flag .nodeSilent = true ∧
    ∀ (o : OutletId) (n : RecNo), o.node = k → s.boundTo o = some n → s.recState n = .retiring → t.Emptied n

theorem State.SilenceNoted.trans {k : NodeNo} (h : s.SilenceNoted k t) (h' : t.Silenced u) : s.SilenceNoted k u := by
  obtain ⟨so, flag, gone⟩ := h
  exact ⟨so.trans h', h'.flags _ flag, fun o n on bound retiring => h'.emptied (gone o n on bound retiring)⟩

theorem State.silenceNoted_endNodes (reads : ∀ o, s.mapReads o) (nodup : s.fcl.pollList.Nodup) {k : NodeNo}
    (mem : k ∈ s.fcl.pollList) (quiet : (s.node k).replied = false) (present : (s.node k).state = .present)
    (third : 2 ≤ (s.node k).missed) : s.SilenceNoted k s.endNodes := by
  refine foldl_at mem nodup (State.nodeAhead_start reads k) (fun t b _ ne h => h.step ne) (fun t h => ?_)
    fun t b _ _ h => h.trans (State.silenced_nodeRoundEnd h.1.mapReads b)
  obtain ⟨so, node⟩ := h
  have step := State.silenced_nodeRoundEnd so.mapReads k
  have e : t.nodeRoundEnd k = (t.modNode k fun x => { x with missed := min 3 (x.missed + 1) }).enterSilent k :=
    State.nodeRoundEnd_of_third (node ▸ quiet) (node ▸ present) (node ▸ third)
  refine ⟨so.trans step, ?_, fun o n on bound retiring => ?_⟩
  · rw [e]
    exact State.flag_enterSilent (State.silenced_modNode so.mapReads k _).mapReads k
  · obtain ⟨state, same⟩ | gone := so.retiring (o := o) bound retiring
    · rw [e]
      subst on
      exact State.emptied_enterSilent (State.silenced_modNode so.mapReads _ _).mapReads same state
    · exact step.emptied gone

/-- Part 2 finds the node table as part 1 left it. -/
def State.FreshAhead (s t : State) : Prop := s.roundOver.Silenced t ∧ t.fcl.nodes = s.endNodes.fcl.nodes

/-- A record without a fresh reading. -/
def State.StaleTo (s : State) (n : RecNo) (t : State) : Prop := s.roundOver.Silenced t ∧ (t.work n).fresh = false

theorem State.StaleTo.trans {n : RecNo} (h : s.StaleTo n t) (h' : t.Silenced u) : s.StaleTo n u :=
  ⟨h.1.trans h', h'.fresh n h.2⟩

/-- The records of a node without a reply have no fresh reading after part 2. -/
theorem State.fresh_endPolls (reads : ∀ o, s.mapReads o) (nodup : s.fcl.pollList.Nodup) {o : OutletId} {n : RecNo}
    (bound : s.boundTo o = some n) (quiet : (s.node o.node).replied = false) : (s.endPolls.work n).fresh = false := by
  have stillQuiet : (s.endNodes.node o.node).replied = false := by
    rw [State.node_endNodes reads nodup]
    split
    · rw [Node.replied_rounded, quiet]
    · exact quiet
  suffices stale : s.StaleTo n s.endPolls from stale.2
  have start : s.FreshAhead s.endNodes := ⟨State.silenced_endNodes reads, rfl⟩
  refine foldl_at (List.mem_finRange o.node) (List.nodup_finRange 16) start (fun t b _ _ h => ?_) (fun t h => ?_)
    fun t b _ _ h => h.trans (State.silenced_clearFresh h.1.mapReads b)
  · exact ⟨h.1.trans (State.silenced_clearFresh h.1.mapReads b), (State.clearFresh_keeps b t).1.trans h.2⟩
  · have step := State.silenced_clearFresh h.1.mapReads o.node
    refine ⟨h.1.trans step, ?_⟩
    obtain same | ⟨-, m, was, gone⟩ := h.1.bound o
    · refine State.fresh_clearFresh h.1.mapReads (same.trans bound) ?_
      rw [State.node_congr h.2]
      exact stillQuiet
    · obtain rfl : m = n := Option.some.inj (was.symm.trans bound)
      exact step.fresh m gone.2.1

end Silenced
end Sys2Proof.Machine

namespace Sys2Proof.Machine

/-! ## The staged sets at the round end (R10) -/

section Staged

variable (s : State) (n : RecNo)

theorem State.supplied_of_state {s t : State} {n : RecNo} (h : t.recState n = s.recState n) :
    t.supplied n = s.supplied n := by
  rw [State.supplied, State.supplied, h]

/-- The class that the round end marks on an outlet for a record: the staged one of a record supplied there (R10). -/
def State.mark (s : State) (n : RecNo) (o : OutletId) : Option AllotClass :=
  if s.supplied n = true ∧ (s.terms n).outlet = some o then (s.terms n).stagedClass else none

/-- An outlet with a class marked on it, if there is one. -/
def Outlet.marked (x : Outlet) (c : Option AllotClass) : Outlet :=
  c.elim x fun c => { x with essential := decide (c = .essential) }

@[simp] theorem Outlet.marked_none (x : Outlet) : x.marked none = x := rfl

theorem Outlet.marked_some (x : Outlet) (c : AllotClass) :
    x.marked (some c) = { x with essential := decide (c = .essential) } := rfl

theorem Outlet.essential_marked (x : Outlet) (c : Option AllotClass) (e : Bool) :
    { x.marked c with essential := e } = { x with essential := e } := by
  cases c <;> rfl

/-- The mark of a staged class, as the round end makes it. -/
def State.markStaged (x : Terms) (n : RecNo) (s : State) : State :=
  match x.stagedClass, x.outlet with
  | some c, some o =>
    if s.supplied n then s.modOutlet o fun y => { y with essential := c == AllotClass.essential } else s
  | _, _ => s

theorem State.outlet_markStaged (x : Terms) (o : OutletId) : (s.markStaged x n).outlet o =
    (s.outlet o).marked (if s.supplied n = true ∧ x.outlet = some o then x.stagedClass else none) := by
  unfold State.markStaged
  cases x.stagedClass with
  | none => simp
  | some c =>
    cases x.outlet with
    | none => simp
    | some p =>
      by_cases on : s.supplied n = true
      · simp only [on, if_true, true_and, Option.some.injEq, State.outlet_modOutlet]
        by_cases e : o = p
        · subst e
          simp only [if_true, Outlet.marked_some]
          exact congrArg (fun b => { s.outlet o with essential := b }) (by cases c <;> rfl)
        · rw [if_neg e, if_neg (Ne.symm e)]
          rfl
      · simp [on]

theorem State.frame_markStaged (x : Terms) : s.RecordFrame (s.markStaged x n) := by
  unfold State.markStaged
  split
  · exact .of_ite (fun _ => ⟨_, _, _, _, _, _, _, rfl⟩) fun _ => .refl s
  · exact .refl s

theorem State.views_markStaged (x : Terms) : (s.markStaged x n).nva = s.nva ∧ (s.markStaged x n).atb = s.atb ∧
    (s.markStaged x n).rsv = s.rsv ∧ (s.markStaged x n).sld = s.sld := by
  unfold State.markStaged
  split
  · split <;> exact ⟨rfl, rfl, rfl, rfl⟩
  · exact ⟨rfl, rfl, rfl, rfl⟩

theorem State.applyStaged_of_trusted {s : State} {n : RecNo} (taken : s.recState n ≠ .vacant)
    (staged : (s.terms n).staged = true) (trusted : s.recState n ≠ .suspect) : s.applyStaged n =
      ((s.modTerms n Terms.applyStaged).markStaged (s.terms n) n).promptEvaluation := by
  unfold State.applyStaged State.markStaged
  dsimp only
  refine (if_neg (not_or.2 ⟨taken, by rw [staged]; decide⟩)).trans ((if_neg trusted).trans ?_)
  cases (s.terms n).stagedClass <;> cases (s.terms n).outlet <;> rfl

theorem State.applyStaged_of_suspect {s : State} {n : RecNo} (staged : (s.terms n).staged = true)
    (suspect : s.recState n = .suspect) :
    s.applyStaged n = s.modTerms n fun x => { x with stagedClass := none, stagedRank := none } := by
  have taken : s.recState n ≠ .vacant := by rw [suspect]; decide
  exact (if_neg (not_or.2 ⟨taken, by rw [staged]; decide⟩)).trans (if_pos suspect)

theorem State.applyStaged_of_plain {s : State} {n : RecNo}
    (plain : s.recState n = .vacant ∨ (s.terms n).staged = false) : s.applyStaged n = s := if_pos plain

theorem State.mark_of_vacant {s : State} {n : RecNo} (h : s.recState n = .vacant) (o : OutletId) :
    s.mark n o = none := by
  simp [State.mark, State.supplied, h]

theorem State.mark_of_suspect {s : State} {n : RecNo} (h : s.recState n = .suspect) (o : OutletId) :
    s.mark n o = none := by
  simp [State.mark, State.supplied, h]

theorem State.mark_of_plain {s : State} {n : RecNo} (h : (s.terms n).staged = false) (o : OutletId) :
    s.mark n o = none := by
  unfold State.mark
  split
  · simp only [Terms.staged, Bool.or_eq_false_iff] at h
    exact Option.isSome_eq_false_iff.1 h.1 |> Option.isNone_iff_eq_none.1
  · rfl

/-- What the application of one record's staged set does. -/
structure State.StagedApplied (s : State) (n : RecNo) (t : State) : Prop where
  vacant : s.recState n = .vacant → t.nva.slots[n] = s.nva.slots[n]
  terms : s.recState n ≠ .vacant → t.terms n = (s.terms n).unstaged
  account : t.account n = s.account n
  others : ∀ m, m ≠ n → t.nva.slots[m] = s.nva.slots[m]
  outlet : ∀ o, t.outlet o = (s.outlet o).marked (s.mark n o)
  frame : s.RecordFrame t
  kept : t.nva.map = s.nva.map ∧ t.atb = s.atb ∧ t.rsv.table = s.rsv.table ∧ t.sld = s.sld

theorem State.stagedApplied_modTerms {f : Terms → Terms} (taken : s.recState n ≠ .vacant)
    (h : f (s.terms n) = (s.terms n).unstaged) (unmarked : ∀ o, s.mark n o = none) : s.StagedApplied n (s.modTerms n f) where
  vacant h := absurd h taken
  terms _ := (s.terms_modTerms_same n f).trans h
  account := s.account_modTerms n n f
  others m hm := by rw [State.slots_modTerms, if_neg hm]
  outlet o := by
    rw [unmarked]
    rfl
  frame := .modTerms s n f
  kept := ⟨rfl, rfl, rfl, rfl⟩

theorem State.stagedApplied_applyStaged : s.StagedApplied n (s.applyStaged n) := by
  by_cases plain : s.recState n = .vacant ∨ (s.terms n).staged = false
  · rw [State.applyStaged_of_plain plain]
    refine ⟨fun _ => rfl, fun taken => ?_, rfl, fun _ _ => rfl, fun o => ?_, .refl s, rfl, rfl, rfl, rfl⟩
    · exact (Terms.unstaged_of_plain (plain.resolve_left taken)).symm
    · obtain h | h := plain
      · rw [State.mark_of_vacant h]
        rfl
      · rw [State.mark_of_plain h]
        rfl
  · obtain ⟨taken, staged⟩ := not_or.1 plain
    have staged : (s.terms n).staged = true := Bool.eq_true_of_not_eq_false staged
    by_cases suspect : s.recState n = .suspect
    · rw [State.applyStaged_of_suspect staged suspect]
      exact s.stagedApplied_modTerms n taken (Terms.unstaged_of_suspect suspect).symm (State.mark_of_suspect suspect)
    · rw [State.applyStaged_of_trusted taken staged suspect]
      obtain ⟨nva, atb, rsv, sld⟩ := (s.modTerms n Terms.applyStaged).views_markStaged n (s.terms n)
      have slots := congrArg Nva.slots nva
      refine ⟨fun h => absurd h taken, fun _ => ?_, ?_, fun m hm => ?_, fun o => ?_, ?_, ?_⟩
      · show State.terms (State.markStaged _ _ _) n = _
        rw [State.terms_congr slots, State.terms_modTerms_same, Terms.unstaged_of_trusted suspect]
      · show State.account (State.markStaged _ _ _) n = _
        rw [State.account_congr slots, State.account_modTerms]
      · show (State.markStaged _ _ _).nva.slots[m] = _
        rw [nva, State.slots_modTerms, if_neg hm]
      · show State.outlet (State.markStaged _ _ _) o = _
        have on := State.supplied_of_state (s := s) (t := s.modTerms n Terms.applyStaged) (n := n)
          (congrArg Terms.state (s.terms_modTerms_same n Terms.applyStaged) :)
        rw [State.outlet_markStaged, on]
        rfl
      · exact ((State.RecordFrame.modTerms s n _).trans (State.frame_markStaged _ n _)).trans (.promptEvaluation _)
      · exact ⟨(congrArg Nva.map nva :), atb, (congrArg Rsv.table rsv :), sld⟩

/-! ### All staged sets, in number order -/

/-- The round end once it has applied the staged sets of the records below `k`. -/
structure State.StagedBelow (s : State) (k : Nat) (t : State) : Prop where
  ahead : ∀ m : RecNo, k ≤ m.val → t.nva.slots[m] = s.nva.slots[m]
  vacant : ∀ m : RecNo, s.recState m = .vacant → t.nva.slots[m] = s.nva.slots[m]
  terms : ∀ m : RecNo, m.val < k → s.recState m ≠ .vacant → t.terms m = (s.terms m).unstaged
  account : ∀ m, t.account m = s.account m
  last : ∀ (m : RecNo) (o : OutletId) (c : AllotClass), m.val < k → s.mark m o = some c →
    (∀ j : RecNo, m < j → j.val < k → s.mark j o = none) →
    t.outlet o = { s.outlet o with essential := decide (c = .essential) }
  unmarked : ∀ o, (∀ m : RecNo, m.val < k → s.mark m o = none) → t.outlet o = s.outlet o
  orders : ∀ o e, { t.outlet o with essential := e } = { s.outlet o with essential := e }
  frame : s.RecordFrame t
  kept : t.nva.map = s.nva.map ∧ t.atb = s.atb ∧ t.rsv.table = s.rsv.table ∧ t.sld = s.sld

theorem State.stagedBelow_zero : s.StagedBelow 0 s where
  ahead _ _ := rfl
  vacant _ _ := rfl
  terms _ h := absurd h (Nat.not_lt_zero _)
  account _ := rfl
  last _ _ _ h := absurd h (Nat.not_lt_zero _)
  unmarked _ _ := rfl
  orders _ _ := rfl
  frame := .refl s
  kept := ⟨rfl, rfl, rfl, rfl⟩

variable {s n} {t u : State}

theorem State.mark_congr (h : t.nva.slots[n] = s.nva.slots[n]) (o : OutletId) : t.mark n o = s.mark n o := by
  have terms : t.terms n = s.terms n := congrArg (fun x : Slot => x.terms.value) h
  rw [State.mark, State.mark, State.supplied_of_state (congrArg Terms.state terms), terms]

theorem State.StagedBelow.succ (h : s.StagedBelow n t) (h' : t.StagedApplied n u) : s.StagedBelow (n + 1) u where
  ahead m hm := by
    have ne : m ≠ n := by rintro rfl; omega
    exact (h'.others m ne).trans (h.ahead m (by omega))
  vacant m none := by
    by_cases e : m = n
    · subst e
      have slot := h.ahead m le_rfl
      exact (h'.vacant ((congrArg (fun x : Slot => x.terms.value.state) slot).trans none)).trans slot
    · exact (h'.others m e).trans (h.vacant m none)
  terms m hm taken := by
    by_cases e : m = n
    · subst e
      have slot := h.ahead m le_rfl
      have terms : t.terms m = s.terms m := congrArg (fun x : Slot => x.terms.value) slot
      rw [h'.terms (by rw [State.recState_eq, terms]; exact taken), terms]
    · have same : u.terms m = t.terms m := congrArg (fun x : Slot => x.terms.value) (h'.others m e)
      exact same.trans (h.terms m (by have := Fin.val_ne_of_ne e; omega) taken)
  account m := by
    by_cases e : m = n
    · subst e
      exact h'.account.trans (h.account m)
    · have same : u.account m = t.account m := congrArg (fun x : Slot => x.account.value) (h'.others m e)
      exact same.trans (h.account m)
  last m o c hm marked later := by
    have own := State.mark_congr (h.ahead n le_rfl) o
    rw [h'.outlet, own]
    obtain lt | eq := Nat.lt_succ_iff_lt_or_eq.1 hm
    · rw [later n lt (Nat.lt_succ_self _)]
      exact h.last m o c lt marked fun j hj below => later j hj (Nat.lt_succ_of_lt below)
    · obtain rfl : m = n := Fin.ext eq
      rw [marked, Outlet.marked_some, h.orders]
  unmarked o none := by
    rw [h'.outlet, State.mark_congr (h.ahead n le_rfl), none n (Nat.lt_succ_self _)]
    exact h.unmarked o fun m hm => none m (Nat.lt_succ_of_lt hm)
  orders o e := by rw [h'.outlet, Outlet.essential_marked, h.orders]
  frame := h.frame.trans h'.frame
  kept := by
    obtain ⟨map, atb, table, sld⟩ := h.kept
    obtain ⟨map', atb', table', sld'⟩ := h'.kept
    exact ⟨map'.trans map, atb'.trans atb, table'.trans table, sld'.trans sld⟩

theorem State.stagedBelow_eachRecord (s : State) : s.StagedBelow 64 (s.eachRecord State.applyStaged) :=
  State.eachRecord_induction s.stagedBelow_zero fun n t h => h.succ (t.stagedApplied_applyStaged n)

end Staged
end Sys2Proof.Machine

namespace Sys2Proof.Machine

/-! ## The records that the round end sheds and cancels (R102, R114, R116) -/

section Dimmed

variable {s t u v : State} {n m : RecNo}

/-- What sheds and cancellations may do: records that are supplied change their state and lose it, outlets of such
records are ordered open, and entries of the reservation table and the restoration watch go. -/
structure State.Dimmed (s t : State) : Prop where
  frame : s.RecordFrame t
  map : t.nva.map = s.nva.map
  terms : ∀ n, ∃ st, t.terms n = { s.terms n with state := st }
  supplied : ∀ n, s.supplied n = false → t.supplied n = false
  fresh : ∀ n, (s.work n).fresh = false → (t.work n).fresh = false
  holds : ∀ h, s.holds h = false → t.holds h = false
  watched : (t.sld.watch.map Restoration.record).Sublist (s.sld.watch.map Restoration.record)
  outlet : ∀ o, t.outlet o = s.outlet o ∨
    t.outlet o = { s.outlet o with closed := false, essential := false } ∧
      ∃ n, (s.terms n).outlet = some o ∧ s.supplied n = true ∧ t.supplied n = false

theorem State.Dimmed.place (h : s.Dimmed t) (n : RecNo) : (t.terms n).outlet = (s.terms n).outlet := by
  obtain ⟨st, e⟩ := h.terms n
  rw [e]

theorem State.Dimmed.refl (s : State) : s.Dimmed s where
  frame := .refl s
  map := rfl
  terms n := ⟨(s.terms n).state, rfl⟩
  supplied _ h := h
  fresh _ h := h
  holds _ h := h
  watched := .refl _
  outlet _ := .inl rfl

theorem State.Dimmed.trans (h : s.Dimmed t) (h' : t.Dimmed u) : s.Dimmed u where
  frame := h.frame.trans h'.frame
  map := h'.map.trans h.map
  terms n := by
    obtain ⟨st, e⟩ := h.terms n
    obtain ⟨st', e'⟩ := h'.terms n
    exact ⟨st', by rw [e', e]⟩
  supplied n off := h'.supplied n (h.supplied n off)
  fresh n stale := h'.fresh n (h.fresh n stale)
  holds x none := h'.holds x (h.holds x none)
  watched := h'.watched.trans h.watched
  outlet o := by
    obtain same | ⟨opened, n, place, on, off⟩ := h.outlet o
    · obtain same' | ⟨opened, n, place, on, off⟩ := h'.outlet o
      · exact .inl (same'.trans same)
      · refine .inr ⟨opened.trans (by rw [same]), n, (h.place n).symm.trans place, ?_, off⟩
        exact Bool.eq_true_of_not_eq_false fun dark => by simp [h.supplied n dark] at on
    · refine .inr ⟨?_, n, place, on, h'.supplied n off⟩
      obtain same' | ⟨opened', -⟩ := h'.outlet o
      · exact same'.trans opened
      · rw [opened', opened]

/-- An outlet that is open without a mark stays so. -/
theorem State.Dimmed.stays_open (h : s.Dimmed t) {o : OutletId} {x : Outlet}
    (opened : s.outlet o = { x with closed := false, essential := false }) :
    t.outlet o = { x with closed := false, essential := false } := by
  obtain same | ⟨opened', -⟩ := h.outlet o
  · exact same.trans opened
  · rw [opened', opened]

/-- A record that such a change leaves as it was, its watch entry with it. -/
structure State.Passed (s : State) (n : RecNo) (t : State) : Prop where
  dimmed : s.Dimmed t
  kept : s.recordKept t n
  watch : ∀ e ∈ s.sld.watch, e.record = n → e ∈ t.sld.watch

theorem State.Passed.trans (h : s.Passed n t) (h' : t.Passed n u) : s.Passed n u :=
  ⟨h.dimmed.trans h'.dimmed, h.kept.trans h'.kept, fun e he of => h'.watch e (h.watch e he of) of⟩

theorem State.Passed.refl (s : State) (n : RecNo) : s.Passed n s := ⟨.refl s, ⟨rfl, rfl⟩, fun _ he _ => he⟩

theorem State.recordKept.terms (h : s.recordKept t n) : t.terms n = s.terms n :=
  congrArg (fun x : Slot => x.terms.value) h.1

theorem State.recordKept.account (h : s.recordKept t n) : t.account n = s.account n :=
  congrArg (fun x : Slot => x.account.value) h.1

theorem State.recordKept.recState (h : s.recordKept t n) : t.recState n = s.recState n := congrArg Terms.state h.terms

theorem State.recordKept.quotaSpent (h : s.recordKept t n) : t.quotaSpent n = s.quotaSpent n := by
  unfold State.quotaSpent
  rw [h.terms, h.account]

theorem State.recordKept.supplied (h : s.recordKept t n) : t.supplied n = s.supplied n :=
  State.supplied_of_state h.recState

/-! ### One shed -/

theorem Working.fresh_became (before after : RecState) (w : Working) : (w.became before after).fresh = w.fresh := by
  unfold Working.became Working.left
  split <;> cases before <;> rfl

theorem State.holds_become (st : RecState) (x : Holder) (none : s.holds x = false) :
    (s.become n st).holds x = false := by
  simp only [State.holds, List.any_eq_false] at none ⊢
  intro e he
  refine none e ?_
  rw [State.rsv_become, State.rsv_leave] at he
  cases state : s.recState n <;> rw [state] at he
  case restoring => exact (List.mem_filter.1 he).1
  all_goals exact he

theorem State.sublist_watch_become (st : RecState) : (s.become n st).sld.watch.Sublist s.sld.watch := by
  rw [State.sld_become, State.sld_leave]
  dsimp only
  split
  · exact List.filter_sublist
  · exact .refl _

theorem State.watch_become_of_ne (st : RecState) (ne : m ≠ n) :
    ∀ e ∈ s.sld.watch, e.record = m → e ∈ (s.become n st).sld.watch := by
  rintro e he rfl
  rw [State.sld_become, State.sld_leave]
  dsimp only
  split
  · exact List.mem_filter.2 ⟨he, by simpa using ne⟩
  · exact he

theorem State.supplied_become_of_off {st : RecState} (off : st = .shed ∨ st = .quotaOut) :
    (s.become n st).supplied n = false := by
  rw [State.supplied, State.recState_become, if_pos rfl]
  obtain rfl | rfl := off <;> rfl

theorem State.dimmed_become {st : RecState} (on : s.supplied n = true) (off : st = .shed ∨ st = .quotaOut) :
    s.Dimmed (s.become n st) where
  frame := .become s n st
  map := s.map_become n st
  terms m := by
    rw [State.terms_become]
    split
    next e => exact ⟨st, by rw [e]⟩
    next => exact ⟨(s.terms m).state, rfl⟩
  supplied m dark := by
    by_cases e : m = n
    · subst e
      exact State.supplied_become_of_off off
    · exact (s.recordKept_become st e).supplied.trans dark
  fresh m stale := by
    rw [State.work_become]
    split
    next e => rw [Working.fresh_became, ← e, stale]
    next => exact stale
  holds x none := State.holds_become st x none
  watched := (State.sublist_watch_become st).map _
  outlet o := by
    rw [State.outlet_become _ _ _ _ (by obtain rfl | rfl := off <;> decide)]
    split
    next place => exact .inr ⟨rfl, n, place, on, State.supplied_become_of_off off⟩
    next => exact .inl rfl

theorem State.passed_become {st : RecState} (on : s.supplied n = true) (off : st = .shed ∨ st = .quotaOut)
    (ne : m ≠ n) : s.Passed m (s.become n st) :=
  ⟨State.dimmed_become on off, s.recordKept_become st ne, State.watch_become_of_ne st ne⟩

theorem State.dimmed_modAccount (s : State) (n : RecNo) (f : Account → Account) : s.Dimmed (s.modAccount n f) where
  frame := .modAccount s n f
  map := rfl
  terms m := ⟨(s.terms m).state, s.terms_modAccount n m f⟩
  supplied m h := (State.supplied_of_state (congrArg Terms.state (s.terms_modAccount n m f))).trans h
  fresh _ h := h
  holds _ h := h
  watched := .refl _
  outlet _ := .inl rfl

theorem State.dimmed_modWork (s : State) (n : RecNo) {f : Working → Working} (stale : ∀ w, (f w).fresh = w.fresh) :
    s.Dimmed (s.modWork n f) where
  frame := .modWork s n f
  map := rfl
  terms m := ⟨(s.terms m).state, rfl⟩
  supplied _ h := h
  fresh m h := by
    rw [State.work_modWork]
    split
    next e => rw [stale, ← e, h]
    next => exact h
  holds _ h := h
  watched := .refl _
  outlet _ := .inl rfl

/-- A shed is the change of state, and for a record in its quota the marks that follow it. -/
theorem State.shedWith_eq_of_unspent (k : ShedKind) (cause : ShedCause) (draw : Option Nat)
    (h : s.quotaSpent n = false) : s.shedWith k cause draw n =
      ((s.become n .shed).modAccount n fun a =>
        { a with cause := some cause, recent := k.recent (s.account n).recent }).modWork n fun w =>
          { w with
            preShed := draw
            holdoff := k.holdoff s.set.holdoff (k.recent (s.account n).recent)
            holdoffFrac := 0 } :=
  if_neg (by rw [h]; decide)

theorem State.dimmed_shed (k : ShedKind) (cause : ShedCause) (on : s.supplied n = true) :
    s.Dimmed (s.shed k cause n) := by
  unfold State.shed
  cases spent : s.quotaSpent n with
  | true =>
    rw [State.shedWith_of_spent _ _ _ _ _ spent]
    exact State.dimmed_become on (.inr rfl)
  | false =>
    rw [State.shedWith_eq_of_unspent _ _ _ spent]
    exact ((State.dimmed_become on (.inl rfl)).trans (State.dimmed_modAccount _ n _)).trans
      (State.dimmed_modWork _ n fun _ => rfl)

theorem State.passed_shed (k : ShedKind) (cause : ShedCause) (on : s.supplied n = true) (ne : m ≠ n) :
    s.Passed m (s.shed k cause n) := by
  refine ⟨State.dimmed_shed k cause on, ?_, ?_⟩ <;> unfold State.shed <;> cases spent : s.quotaSpent n
  case refine_1.false =>
    rw [State.shedWith_eq_of_unspent _ _ _ spent]
    exact ((s.recordKept_become _ ne).trans (State.recordKept_modAccount _ _ ne)).trans
      (State.recordKept_modWork _ _ ne)
  case refine_1.true =>
    rw [State.shedWith_of_spent _ _ _ _ _ spent]
    exact s.recordKept_become _ ne
  case refine_2.false =>
    rw [State.shedWith_eq_of_unspent _ _ _ spent]
    exact State.watch_become_of_ne .shed ne
  case refine_2.true =>
    rw [State.shedWith_of_spent _ _ _ _ _ spent]
    exact State.watch_become_of_ne .quotaOut ne

/-- A shed makes of its record what R102 and R103 say. -/
theorem State.recordShed_shed (s : State) (n : RecNo) (k : ShedKind) (cause : ShedCause) :
    s.recordShed k cause (s.shed k cause n) n := by
  refine ⟨?_, fun o place => State.outlet_shedWith k cause _ place, fun restoring => ?_⟩
  · split
    next spent =>
      rw [State.shed, State.shedWith_of_spent _ _ _ _ _ spent]
      refine ⟨by rw [State.terms_become, if_pos rfl], State.account_become _ _ _ _, ?_⟩
      rw [State.work_become, if_pos rfl, Working.preShed_became]
    next unspent =>
      have unspent : s.quotaSpent n = false := Bool.eq_false_of_not_eq_true unspent
      have work := State.work_shedWith_of_unspent k cause (s.shedDraw n) unspent
      refine ⟨?_, State.account_shedWith_of_unspent k cause _ unspent, ?_, ?_⟩
      · have slot := State.slots_shedWith_of_unspent s n n k cause (s.shedDraw n) unspent
        rw [if_pos rfl] at slot
        exact (congrArg (fun x : Slot => x.terms.value) slot :)
      · exact (congrArg Working.holdoff work :)
      · exact (congrArg Working.preShed work :)
  · unfold State.shed
    cases spent : s.quotaSpent n with
    | true =>
      rw [State.shedWith_of_spent _ _ _ _ _ spent]
      exact (s.tables_become_of_restoring .quotaOut restoring).1
    | false =>
      rw [State.shedWith_eq_of_unspent _ _ _ spent]
      exact (s.tables_become_of_restoring .shed restoring).1

/-- A record shed from RESTORING leaves the restoration watch. -/
theorem State.unwatched_shed (k : ShedKind) (cause : ShedCause) (restoring : s.recState n = .restoring) :
    n ∉ (s.shed k cause n).sld.watch.map Restoration.record := by
  have gone (st : RecState) : n ∉ (s.become n st).sld.watch.map Restoration.record := fun mem => by
    obtain ⟨e, he, of⟩ := List.mem_map.1 mem
    exact (s.tables_become_of_restoring st restoring).2 e he of
  unfold State.shed
  cases spent : s.quotaSpent n with
  | true =>
    rw [State.shedWith_of_spent _ _ _ _ _ spent]
    exact gone .quotaOut
  | false =>
    rw [State.shedWith_eq_of_unspent _ _ _ spent]
    exact gone .shed

/-- A shed between two changes that keep its record. -/
theorem State.recordShed_of_kept {k : ShedKind} {cause : ShedCause} (dim : s.Dimmed t) (kept : s.recordKept t n)
    (shed : t.recordShed k cause u n) (dim' : u.Dimmed v) (kept' : u.recordKept v n) : s.recordShed k cause v n := by
  obtain ⟨fields, outlets, holds⟩ := shed
  have settings : t.svl = s.svl := by
    obtain ⟨_, _, _, _, _, _, _, rfl⟩ := dim.frame
    rfl
  have draw : t.shedDraw n = s.shedDraw n := by
    simp only [State.shedDraw, kept.recState, kept.2]
  rw [kept.quotaSpent, kept.terms, kept.account, kept.2, draw, State.set, settings] at fields
  rw [kept.terms] at outlets
  rw [kept.recState] at holds
  refine ⟨?_, fun o place => dim'.stays_open ?_, fun restoring => dim'.holds _ (holds restoring)⟩
  · rw [kept'.terms, kept'.account, kept'.2]
    exact fields
  · obtain same | ⟨opened, -⟩ := dim.outlet o
    · rw [outlets o place, same]
    · rw [outlets o place, opened]

/-! ### A fold of such changes over some records -/

/-- A step at a record that passes the others by. -/
def DimsOne (g : State → RecNo → State) : Prop :=
  ∀ (t : State) (n : RecNo), t.Dimmed (g t n) ∧ ∀ m, m ≠ n → t.Passed m (g t n)

variable {g : State → RecNo → State} {l : List RecNo}

theorem DimsOne.dimmed (step : DimsOne g) (l : List RecNo) (s : State) : s.Dimmed (l.foldl g s) :=
  foldl_inv s.Dimmed g (fun t n h => h.trans (step t n).1) l s (.refl s)

theorem DimsOne.passed (step : DimsOne g) (out : n ∉ l) (s : State) : s.Passed n (l.foldl g s) := by
  induction l generalizing s with
  | nil => exact .refl s n
  | cons m l ih =>
    obtain ⟨ne, out⟩ := not_or.1 (mt List.mem_cons.2 out)
    exact ((step s m).2 n ne).trans (ih out (g s m))

/-- A record of the list: the fold comes to it as it was, and leaves it as its own step makes it. -/
theorem DimsOne.hit (step : DimsOne g) (mem : n ∈ l) (nodup : l.Nodup) (s : State) :
    ∃ u, s.Passed n u ∧ (g u n).Passed n (l.foldl g s) :=
  foldl_at (P := s.Passed n) (Q := fun t => ∃ u, s.Passed n u ∧ (g u n).Passed n t) mem nodup (.refl s n)
    (fun t b _ ne h => h.trans ((step t b).2 n ne.symm)) (fun t h => ⟨t, h, .refl _ n⟩)
    fun t b _ ne ⟨u, h, h'⟩ => ⟨u, h, h'.trans ((step t b).2 n ne.symm)⟩

end Dimmed
end Sys2Proof.Machine

namespace Sys2Proof.Machine

/-! ## What becomes of one record in the last three parts of the round end (R43) -/

section LastParts

variable {s t : State} {n m : RecNo}

/-! ### The sheds of WATER-SHORT -/

/-- The shed of one record whose class has just become DEFERRABLE (R116). -/
def State.shedOne (t : State) (n : RecNo) : State := if t.supplied n then t.shed .plain .waterShort n else t

theorem dimsOne_shedOne : DimsOne State.shedOne := by
  intro t n
  unfold State.shedOne
  split
  next on => exact ⟨State.dimmed_shed .plain .waterShort on, fun m ne => State.passed_shed .plain .waterShort on ne⟩
  next => exact ⟨.refl t, fun m _ => .refl t m⟩

/-- The sheds of part 3. -/
def State.shedTurned (turned : List RecNo) (s : State) : State :=
  if s.plant = .waterShort then turned.foldl State.shedOne s else s

theorem State.stagedRoundEnd_eq (s : State) : s.stagedRoundEnd =
    (s.eachRecord State.applyStaged).shedTurned (allRecords.filter fun n => (s.terms n).turnsDeferrable) := rfl

variable {turned : List RecNo}

theorem State.dimmed_shedTurned (s : State) (turned : List RecNo) : s.Dimmed (s.shedTurned turned) := by
  unfold State.shedTurned
  split
  · exact dimsOne_shedOne.dimmed turned s
  · exact .refl s

/-- A record that part 3 does not shed, it passes by. -/
theorem State.passed_shedTurned (nodup : turned.Nodup)
    (spared : ¬ (s.plant = .waterShort ∧ n ∈ turned ∧ s.supplied n = true)) : s.Passed n (s.shedTurned turned) := by
  unfold State.shedTurned
  split
  next short =>
    by_cases mem : n ∈ turned
    · obtain ⟨u, before, after⟩ := dimsOne_shedOne.hit mem nodup s
      have off : ¬ u.supplied n = true := fun on => spared ⟨short, mem, before.kept.supplied.symm.trans on⟩
      rw [State.shedOne, if_neg off] at after
      exact before.trans after
    · exact dimsOne_shedOne.passed mem s
  next => exact .refl s n

/-- A record that part 3 sheds: it is in the watch no more, and was RESTORING if it was in it. -/
theorem State.recordShed_shedTurned (nodup : turned.Nodup) (short : s.plant = .waterShort) (mem : n ∈ turned)
    (on : s.supplied n = true) : s.recordShed .plain .waterShort (s.shedTurned turned) n ∧
      ((n ∈ s.sld.watch.map Restoration.record → s.recState n = .restoring) →
        n ∉ (s.shedTurned turned).sld.watch.map Restoration.record) := by
  rw [State.shedTurned, if_pos short]
  obtain ⟨u, before, after⟩ := dimsOne_shedOne.hit mem nodup s
  rw [State.shedOne, if_pos (before.kept.supplied.trans on)] at after
  refine ⟨State.recordShed_of_kept before.dimmed before.kept (u.recordShed_shed n _ _) after.dimmed after.kept,
    fun watched watching => ?_⟩
  by_cases restoring : s.recState n = .restoring
  · exact State.unwatched_shed .plain .waterShort (before.kept.recState.trans restoring)
      (after.dimmed.watched.subset watching)
  · have dim := before.dimmed.trans ((State.dimmed_shed .plain .waterShort (before.kept.supplied.trans on)).trans
      after.dimmed)
    exact restoring (watched (dim.watched.subset watching))

/-! ### The restoration watch -/

/-- The end of a watch entry whose count has reached 3 (R114). -/
def State.cancelOne (t : State) (n : RecNo) : State := if t.isRestoring n then t.cancel n else t.dropRestoration n

theorem State.passed_dropRestoration (ne : m ≠ n) : s.Passed m (s.dropRestoration n) where
  dimmed :=
    { frame := .dropRestoration s n
      map := rfl
      terms := fun m => ⟨(s.terms m).state, rfl⟩
      supplied := fun _ h => h
      fresh := fun _ h => h
      holds := fun _ h => h
      watched := List.filter_sublist.map _
      outlet := fun _ => .inl rfl }
  kept := ⟨rfl, rfl⟩
  watch e he of := List.mem_filter.2 ⟨he, by simpa [of] using ne⟩

theorem dimsOne_cancelOne : DimsOne State.cancelOne := by
  intro t n
  unfold State.cancelOne
  split
  next restoring =>
    have on : t.supplied n = true := by
      simp only [State.isRestoring, decide_eq_true_eq] at restoring
      simp [State.supplied, restoring]
    exact ⟨State.dimmed_shed .cancel .restoreFail on, fun m ne => State.passed_shed .cancel .restoreFail on ne⟩
  next =>
    obtain ⟨m, ne⟩ := exists_ne n
    exact ⟨(State.passed_dropRestoration ne).dimmed, fun m ne => State.passed_dropRestoration ne⟩

/-- Every watch entry with one round more. -/
def State.roundsCounted (s : State) : State :=
  s.modSld fun l => { l with watch := l.watch.map fun e => { e with rounds := e.rounds + 1 } }

/-- The records whose watch entry has counted 3 rounds. -/
def State.overdue (s : State) : List RecNo := (s.sld.watch.filter fun e => 3 ≤ e.rounds).map Restoration.record

theorem State.countRounds_eq (s : State) :
    s.countRounds = s.roundsCounted.overdue.foldl State.cancelOne s.roundsCounted := rfl

theorem State.records_roundsCounted (s : State) :
    s.roundsCounted.sld.watch.map Restoration.record = s.sld.watch.map Restoration.record := by
  show (s.sld.watch.map _).map _ = _
  rw [List.map_map]
  rfl

theorem State.dimmed_roundsCounted (s : State) : s.Dimmed s.roundsCounted where
  frame := ⟨_, _, _, _, _, _, _, rfl⟩
  map := rfl
  terms m := ⟨(s.terms m).state, rfl⟩
  supplied _ h := h
  fresh _ h := h
  holds _ h := h
  watched := by rw [State.records_roundsCounted]
  outlet _ := .inl rfl

theorem State.dimmed_countRounds (s : State) : s.Dimmed s.countRounds := by
  rw [State.countRounds_eq]
  exact s.dimmed_roundsCounted.trans (dimsOne_cancelOne.dimmed _ _)

theorem State.mem_overdue_roundsCounted :
    n ∈ s.roundsCounted.overdue ↔ ∃ e ∈ s.sld.watch, e.record = n ∧ 2 ≤ e.rounds := by
  simp only [State.overdue, State.roundsCounted, State.modSld, List.mem_map, List.mem_filter, decide_eq_true_eq]
  constructor
  · rintro ⟨_, ⟨⟨e, he, rfl⟩, late⟩, of⟩
    exact ⟨e, he, of, by simpa using late⟩
  · rintro ⟨e, he, of, late⟩
    exact ⟨_, ⟨⟨e, he, rfl⟩, by simpa using late⟩, of⟩

theorem State.nodup_overdue (nodup : (s.sld.watch.map Restoration.record).Nodup) : s.roundsCounted.overdue.Nodup := by
  rw [← State.records_roundsCounted] at nodup
  exact nodup.sublist (List.filter_sublist.map _)

/-- A record without an overdue entry is kept by part 4, its entry with one round more. -/
theorem State.kept_countRounds (early : n ∉ s.roundsCounted.overdue) : s.recordKept s.countRounds n ∧
    ∀ e ∈ s.sld.watch, e.record = n → ⟨n, e.rounds + 1⟩ ∈ s.countRounds.sld.watch := by
  rw [State.countRounds_eq]
  have passed := dimsOne_cancelOne.passed early s.roundsCounted
  refine ⟨passed.kept, ?_⟩
  rintro e he rfl
  exact passed.watch _ (List.mem_map_of_mem he) rfl

/-- A RESTORING record with an overdue entry is cancelled. -/
theorem State.recordShed_countRounds (nodup : (s.sld.watch.map Restoration.record).Nodup)
    (late : n ∈ s.roundsCounted.overdue) (restoring : s.recState n = .restoring) :
    s.recordShed .cancel .restoreFail s.countRounds n := by
  rw [State.countRounds_eq]
  obtain ⟨u, before, after⟩ := dimsOne_cancelOne.hit late (State.nodup_overdue nodup) s.roundsCounted
  have stands : u.isRestoring n = true := decide_eq_true (before.kept.recState.trans restoring)
  rw [State.cancelOne, if_pos stands] at after
  exact State.recordShed_of_kept (s.dimmed_roundsCounted.trans before.dimmed) before.kept (u.recordShed_shed n _ _)
    after.dimmed after.kept

/-! ### The two together -/

variable (turned) in
/-- Parts 3 and 4 from the sheds on. -/
def State.lastParts (s : State) : State := (s.shedTurned turned).countRounds

theorem State.dimmed_lastParts (s : State) (turned : List RecNo) : s.Dimmed (s.lastParts turned) :=
  (s.dimmed_shedTurned turned).trans (State.dimmed_countRounds _)

/-- A record shed in part 3 stays as it was shed. -/
theorem State.recordShed_lastParts (nodup : turned.Nodup)
    (watched : n ∈ s.sld.watch.map Restoration.record → s.recState n = .restoring)
    (shed : s.plant = .waterShort ∧ n ∈ turned ∧ s.supplied n = true) :
    s.recordShed .plain .waterShort (s.lastParts turned) n := by
  obtain ⟨short, mem, on⟩ := shed
  obtain ⟨shed, gone⟩ := State.recordShed_shedTurned nodup short mem on
  have early : n ∉ (s.shedTurned turned).roundsCounted.overdue := fun late => by
    obtain ⟨e, he, of, -⟩ := State.mem_overdue_roundsCounted.1 late
    exact gone watched (List.mem_map.2 ⟨e, he, of⟩)
  exact State.recordShed_of_kept (.refl s) ⟨rfl, rfl⟩ shed (State.dimmed_countRounds _) (State.kept_countRounds early).1

/-- A record that is not shed in part 3 and has no overdue entry is as it was, its entry with one round more. -/
theorem State.kept_lastParts (nodup : turned.Nodup)
    (spared : ¬ (s.plant = .waterShort ∧ n ∈ turned ∧ s.supplied n = true))
    (early : ∀ e ∈ s.sld.watch, e.record = n → e.rounds < 2)
    (watched : (s.sld.watch.map Restoration.record).Nodup) : s.recordKept (s.lastParts turned) n ∧
      ∀ e ∈ s.sld.watch, e.record = n → ⟨n, e.rounds + 1⟩ ∈ (s.lastParts turned).sld.watch := by
  have passed := State.passed_shedTurned nodup spared
  have once := watched.sublist passed.dimmed.watched
  have unlate : n ∉ (s.shedTurned turned).roundsCounted.overdue := fun late => by
    obtain ⟨e', entry', of', late⟩ := State.mem_overdue_roundsCounted.1 late
    obtain ⟨e, entry, of⟩ := List.mem_map.1 (passed.dimmed.watched.subset (List.mem_map.2 ⟨e', entry', of'⟩))
    obtain rfl : e = e' := List.inj_on_of_nodup_map once (passed.watch e entry of) entry' (of.trans of'.symm)
    exact absurd late (Nat.not_le.2 (early e entry of))
  obtain ⟨kept, counted⟩ := State.kept_countRounds unlate
  exact ⟨passed.kept.trans kept, fun e entry of => counted e (passed.watch e entry of) of⟩

/-- A RESTORING record that is not shed in part 3 and has an overdue entry is cancelled. -/
theorem State.recordCancelled_lastParts (nodup : turned.Nodup)
    (spared : ¬ (s.plant = .waterShort ∧ n ∈ turned ∧ s.supplied n = true)) {e : Restoration} (entry : e ∈ s.sld.watch)
    (of : e.record = n) (late : 2 ≤ e.rounds) (watched : (s.sld.watch.map Restoration.record).Nodup)
    (restoring : s.recState n = .restoring) : s.recordShed .cancel .restoreFail (s.lastParts turned) n := by
  have passed := State.passed_shedTurned nodup spared
  have cancelled := State.recordShed_countRounds (watched.sublist passed.dimmed.watched)
    (State.mem_overdue_roundsCounted.2 ⟨e, passed.watch e entry of, of, late⟩) (passed.kept.recState.trans restoring)
  exact State.recordShed_of_kept passed.dimmed passed.kept cancelled (.refl _) ⟨rfl, rfl⟩

end LastParts
end Sys2Proof.Machine

namespace Sys2Proof.Machine

/-! ## The round end as a whole (R43) -/

/-- What a change of records leaves of the node chain, the settings and the plant. -/
theorem State.RecordFrame.kept {s t : State} (h : s.RecordFrame t) : t.fcl.phase = s.fcl.phase ∧
    t.fcl.nodes = s.fcl.nodes ∧ t.svl = s.svl ∧ t.wgc = s.wgc := by
  obtain ⟨_, _, _, _, _, _, _, rfl⟩ := h
  exact ⟨rfl, rfl, rfl, rfl⟩

section RoundEnd

variable {s t : State} {n : RecNo} {o : OutletId}

/-- The state in which part 3 begins its sheds. -/
def State.endStaged (s : State) : State := s.endPolls.eachRecord State.applyStaged

/-- The records whose class part 3 makes DEFERRABLE. -/
def State.turned (s : State) : List RecNo := allRecords.filter fun n => (s.endPolls.terms n).turnsDeferrable

theorem State.roundEnd_eq_lastParts (s : State) : s.roundEnd = (s.endStaged.lastParts s.turned).refill := by
  rw [State.roundEnd_eq, State.stagedRoundEnd_eq]
  rfl

theorem State.nodup_turned (s : State) : s.turned.Nodup := (List.nodup_finRange 64).filter _

theorem State.stagedBelow_endStaged (s : State) : s.endPolls.StagedBelow 64 s.endStaged :=
  s.endPolls.stagedBelow_eachRecord

theorem State.StagedBelow.recState (h : s.StagedBelow 64 t) (n : RecNo) : t.recState n = s.recState n := by
  by_cases vacant : s.recState n = .vacant
  · exact congrArg (fun x : Slot => x.terms.value.state) (h.vacant n vacant)
  · exact (congrArg Terms.state (h.terms n n.isLt vacant)).trans (Terms.state_unstaged _)

/-! ### A record by its slot -/

theorem Outlet.opened_congr {x y : Outlet} (h : ∀ e, { x with essential := e } = { y with essential := e }) :
    { x with closed := false, essential := false } = { y with closed := false, essential := false } := by
  have answered := congrArg Outlet.answered (h false)
  exact congrArg (Outlet.mk false false) answered

theorem State.terms_of_slot (h : t.nva.slots[n] = s.nva.slots[n]) : t.terms n = s.terms n :=
  congrArg (fun x : Slot => x.terms.value) h

theorem State.account_of_slot (h : t.nva.slots[n] = s.nva.slots[n]) : t.account n = s.account n :=
  congrArg (fun x : Slot => x.account.value) h

theorem State.recState_of_slot (h : t.nva.slots[n] = s.nva.slots[n]) : t.recState n = s.recState n :=
  congrArg Terms.state (State.terms_of_slot h)

theorem State.Emptied.recState (h : t.Emptied n) : t.recState n = .vacant :=
  congrArg (fun x : Slot => x.terms.value.state) h.1

theorem State.recState_roundOver (s : State) (n : RecNo) : s.roundOver.recState n = s.recState n := rfl

/-! ### What stands when the sheds begin -/

section Standing

variable (reads : ∀ o, s.mapReads o)
include reads

theorem State.slot_endPolls (n : RecNo) : s.endPolls.nva.slots[n] = s.nva.slots[n] ∨
    s.recState n = .retiring ∧ s.endPolls.Emptied n := by
  have h := (State.silenced_endPolls reads).slot n
  rwa [State.recState_roundOver] at h

theorem State.slots_endPolls (stays : s.recState n ≠ .retiring) : s.endPolls.nva.slots[n] = s.nva.slots[n] :=
  (State.slot_endPolls reads n).resolve_right fun gone => stays gone.1

theorem State.recState_endPolls : s.endPolls.recState n = s.recState n ∨
    s.recState n = .retiring ∧ s.endPolls.recState n = .vacant := by
  obtain same | ⟨retiring, gone⟩ := State.slot_endPolls reads n
  · exact .inl (State.recState_of_slot same)
  · exact .inr ⟨retiring, gone.recState⟩

theorem State.recState_endStaged : s.endStaged.recState n = s.recState n ∨
    s.recState n = .retiring ∧ s.endStaged.recState n = .vacant := by
  rw [s.stagedBelow_endStaged.recState]
  exact State.recState_endPolls reads

theorem State.supplied_endStaged (n : RecNo) : s.endStaged.supplied n = s.supplied n := by
  obtain same | ⟨retiring, vacant⟩ := State.recState_endStaged reads (n := n)
  · exact State.supplied_of_state same
  · simp [State.supplied, retiring, vacant]

theorem State.restoring_endStaged (n : RecNo) : s.endStaged.recState n = .restoring ↔ s.recState n = .restoring := by
  obtain same | ⟨retiring, vacant⟩ := State.recState_endStaged reads (n := n)
  · rw [same]
  · simp [retiring, vacant]

theorem State.terms_endStaged (taken : s.recState n ≠ .vacant) (stays : s.recState n ≠ .retiring) :
    s.endStaged.terms n = (s.terms n).unstaged := by
  have terms := State.terms_of_slot (State.slots_endPolls reads stays)
  rw [s.stagedBelow_endStaged.terms n n.isLt (by rw [State.recState_eq, terms]; exact taken), terms]

theorem State.account_endStaged (stays : s.recState n ≠ .retiring) : s.endStaged.account n = s.account n :=
  (s.stagedBelow_endStaged.account n).trans
    (State.account_of_slot (State.slots_endPolls reads stays))

theorem State.quotaSpent_endStaged (taken : s.recState n ≠ .vacant) (stays : s.recState n ≠ .retiring) :
    s.endStaged.quotaSpent n = s.quotaSpent n := by
  unfold State.quotaSpent
  rw [State.terms_endStaged reads taken stays, State.account_endStaged reads stays]
  rfl

theorem State.mark_endPolls (n : RecNo) (o : OutletId) : s.endPolls.mark n o = s.mark n o := by
  obtain same | ⟨retiring, gone⟩ := State.slot_endPolls reads n
  · exact State.mark_congr same o
  · have dark : s.supplied n = false := by simp [State.supplied, retiring]
    rw [State.mark_of_vacant gone.recState, State.mark, if_neg (by simp [dark])]

theorem State.outlet_endPolls (o : OutletId) : s.endPolls.outlet o = s.outlet o :=
  State.outlet_congr (State.silenced_endPolls reads).kept.1 o

theorem State.orders_endStaged (o : OutletId) (e : Bool) :
    { s.endStaged.outlet o with essential := e } = { s.outlet o with essential := e } := by
  rw [s.stagedBelow_endStaged.orders, State.outlet_endPolls reads]

theorem State.opened_endStaged (o : OutletId) : { s.endStaged.outlet o with closed := false, essential := false } =
    { s.outlet o with closed := false, essential := false } :=
  Outlet.opened_congr (State.orders_endStaged reads o)

theorem State.sld_endStaged : s.endStaged.sld = s.sld :=
  s.stagedBelow_endStaged.kept.2.2.2.trans (State.silenced_endPolls reads).kept.2.2.2.1

theorem State.holds_endStaged (h : Holder) : s.endStaged.holds h = s.holds h :=
  State.holds_congr (s.stagedBelow_endStaged.kept.2.2.1.trans (State.silenced_endPolls reads).kept.2.2.1) h

theorem State.settings_endStaged : s.endStaged.svl.settings = s.svl.settings :=
  (congrArg Svl.settings s.stagedBelow_endStaged.frame.kept.2.2.1).trans (State.silenced_endPolls reads).kept.2.2.2.2.2

theorem State.plant_endStaged : s.endStaged.plant = s.plant :=
  congrArg Wgc.plant (s.stagedBelow_endStaged.frame.kept.2.2.2.trans (State.silenced_endPolls reads).kept.2.2.2.2.1)

theorem State.mem_turned (on : s.supplied n = true) : n ∈ s.turned ↔
    (s.terms n).stagedClass = some .deferrable ∧ (s.terms n).cls ≠ some .deferrable := by
  have stays : s.recState n ≠ .retiring := fun e => by simp [State.supplied, e] at on
  have trusted : (s.terms n).state ≠ .suspect := fun e => by simp [State.supplied, State.recState_eq, e] at on
  have terms := State.terms_of_slot (State.slots_endPolls reads stays)
  simp [State.turned, allRecords, Terms.turnsDeferrable, terms, trusted]

/-- Which records part 3 sheds (R116). -/
theorem State.sheds_iff (n : RecNo) : (s.plant == .waterShort && s.supplied n &&
      (s.terms n).stagedClass == some .deferrable && (s.terms n).cls != some .deferrable) = true ↔
    s.endStaged.plant = .waterShort ∧ n ∈ s.turned ∧ s.endStaged.supplied n = true := by
  rw [State.plant_endStaged reads, State.supplied_endStaged reads]
  cases on : s.supplied n with
  | false => simp
  | true =>
    rw [State.mem_turned reads on]
    simp [and_assoc]

end Standing

/-! ### What becomes of one record -/

/-- A shed by its parts: the state, and what a record in its quota is marked with. -/
theorem State.recordShed.parts {k : ShedKind} {cause : ShedCause} (h : s.recordShed k cause t n) :
    t.recState n = (if s.quotaSpent n = true then .quotaOut else .shed) ∧
    (s.quotaSpent n = true → t.account n = s.account n) ∧
    (s.quotaSpent n = false →
      t.account n = { s.account n with cause := some cause, recent := k.recent (s.account n).recent } ∧
      (t.work n).holdoff = k.holdoff s.set.holdoff (k.recent (s.account n).recent)) := by
  obtain ⟨fields, -⟩ := h
  cases spent : s.quotaSpent n <;> rw [spent] at fields
  · obtain ⟨terms, account, holdoff, -⟩ := fields
    exact ⟨congrArg Terms.state terms, nofun, fun _ => ⟨account, holdoff⟩⟩
  · obtain ⟨terms, account, -⟩ := fields
    exact ⟨congrArg Terms.state terms, fun _ => account, nofun⟩

end RoundEnd
end Sys2Proof.Machine

namespace Sys2Proof.Machine

/-! ## The claims about the round end (R43) -/

section Claims

variable {s t : State} {n : RecNo} {o : OutletId}

/-- The state after parts 1 to 4. -/
def State.afterRound (s : State) : State := s.endStaged.lastParts s.turned

theorem State.roundEnd_eq_afterRound (s : State) : s.roundEnd = s.afterRound.refill := s.roundEnd_eq_lastParts

theorem State.dimmed_afterRound (s : State) : s.endStaged.Dimmed s.afterRound := State.dimmed_lastParts _ _

theorem State.taken_of_supplied (on : s.supplied n = true) : s.recState n ≠ .vacant ∧ s.recState n ≠ .retiring := by
  constructor <;> intro e <;> simp [State.supplied, e] at on

/-- A supplied record's staged class marks nothing where it has none. -/
theorem State.mark_of_unstaged {m : RecNo}
    (h : (s.terms m).outlet = some o → s.supplied m = true → (s.terms m).stagedClass = none) : s.mark m o = none := by
  unfold State.mark
  split
  next here => exact h here.2 here.1
  next => rfl

section Law

variable (reads : ∀ o, s.mapReads o) (law : s.reserveLaw)
include reads law

/-- The restoration watch when the sheds begin. -/
theorem State.watched_endStaged : (s.endStaged.sld.watch.map Restoration.record).Nodup ∧
    ∀ n, n ∈ s.endStaged.sld.watch.map Restoration.record ↔ s.endStaged.recState n = .restoring := by
  obtain ⟨-, -, -, -, -, nodup, watched, -⟩ := law
  rw [State.sld_endStaged reads]
  exact ⟨nodup, fun n => (watched n).trans (State.restoring_endStaged reads n).symm⟩

/-- The three things that become of a record: part 3 sheds it, part 4 cancels it, or both keep it. -/
theorem State.afterRound_cases (n : RecNo) :
    let sheds := s.endStaged.plant = .waterShort ∧ n ∈ s.turned ∧ s.endStaged.supplied n = true
    sheds ∧ s.endStaged.recordShed .plain .waterShort s.afterRound n ∨
    ¬ sheds ∧ s.recState n = .restoring ∧ (∃ e ∈ s.sld.watch, e.record = n ∧ 2 ≤ e.rounds) ∧
      s.endStaged.recordShed .cancel .restoreFail s.afterRound n ∨
    ¬ sheds ∧ s.endStaged.recordKept s.afterRound n ∧
      ∀ e ∈ s.sld.watch, e.record = n → e.rounds < 2 ∧ ⟨n, e.rounds + 1⟩ ∈ s.afterRound.sld.watch := by
  unfold State.afterRound
  intro sheds
  obtain ⟨nodup, watched⟩ := State.watched_endStaged reads law
  have sld := State.sld_endStaged reads
  by_cases shed : sheds
  · exact .inl ⟨shed, State.recordShed_lastParts s.nodup_turned (watched n).1 shed⟩
  · refine .inr ?_
    by_cases late : ∃ e ∈ s.sld.watch, e.record = n ∧ 2 ≤ e.rounds
    · obtain ⟨e, entry, of, rounds⟩ := late
      rw [← sld] at entry
      have restoring := (watched n).1 (List.mem_map.2 ⟨e, entry, of⟩)
      exact .inl ⟨shed, (State.restoring_endStaged reads n).1 restoring, ⟨e, sld ▸ entry, of, rounds⟩,
        State.recordCancelled_lastParts s.nodup_turned shed entry of rounds nodup restoring⟩
    · have early : ∀ e ∈ s.sld.watch, e.record = n → e.rounds < 2 := fun e entry of =>
        Nat.lt_of_not_le fun rounds => late ⟨e, entry, of, rounds⟩
      obtain ⟨kept, counted⟩ := State.kept_lastParts s.nodup_turned shed (by rwa [sld]) nodup
      rw [sld] at counted
      exact .inr ⟨shed, kept, fun e entry of => ⟨early e entry of, counted e entry of⟩⟩

/-- A record that the round end sheds or cancels, by the state before the round end. -/
theorem State.shed_afterRound {k : ShedKind} {cause : ShedCause} (taken : s.recState n ≠ .vacant)
    (stays : s.recState n ≠ .retiring) (shed : s.endStaged.recordShed k cause s.afterRound n) :
    s.afterRound.recState n = (if s.quotaSpent n = true then .quotaOut else .shed) ∧
    s.afterRound.holds (.allotment n) = false ∧
    (∀ o, (s.terms n).outlet = some o →
      s.afterRound.outlet o = { s.outlet o with closed := false, essential := false }) ∧
    (s.quotaSpent n = true → s.afterRound.account n = s.account n) ∧
    (s.quotaSpent n = false →
      s.afterRound.account n =
        { s.account n with cause := some cause, recent := k.recent (s.account n).recent } ∧
      (s.afterRound.work n).holdoff = k.holdoff s.svl.settings.holdoff (k.recent (s.account n).recent)) := by
  obtain ⟨state, out, marked⟩ := shed.parts
  rw [State.quotaSpent_endStaged reads taken stays, State.account_endStaged reads stays] at *
  refine ⟨state, ?_, fun o place => ?_, out, fun unspent => ?_⟩
  · by_cases restoring : s.recState n = .restoring
    · exact shed.2.2 ((State.restoring_endStaged reads n).2 restoring)
    · refine s.dimmed_afterRound.holds _ ?_
      obtain ⟨-, -, -, held, -⟩ := law
      rw [State.holds_endStaged reads]
      exact Bool.eq_false_of_not_eq_true fun h => restoring ((held n).1 h)
  · have place : (s.endStaged.terms n).outlet = some o := by
      rw [State.terms_endStaged reads taken stays]
      exact place
    exact (shed.2.1 o place).trans (State.opened_endStaged reads o)
  · obtain ⟨account, holdoff⟩ := marked unspent
    rw [State.set, State.settings_endStaged reads] at holdoff
    exact ⟨account, holdoff⟩

/-- A supplied record that is not supplied after the round end leaves its outlet open. -/
theorem State.outlet_afterRound_of_lost (place : (s.terms n).outlet = some o) (on : s.supplied n = true)
    (off : s.afterRound.supplied n = false) :
    s.afterRound.outlet o = { s.outlet o with closed := false, essential := false } := by
  obtain ⟨taken, stays⟩ := State.taken_of_supplied on
  obtain ⟨-, shed⟩ | ⟨-, -, -, shed⟩ | ⟨-, kept, -⟩ := State.afterRound_cases reads law n
  · exact (State.shed_afterRound reads law taken stays shed).2.2.1 o place
  · exact (State.shed_afterRound reads law taken stays shed).2.2.1 o place
  · rw [kept.supplied, State.supplied_endStaged reads, on] at off
    exact absurd off (by decide)

/-- A record that part 3 sheds (R116). -/
theorem State.record_shed_afterRound (taken : s.recState n ≠ .vacant) (stays : s.recState n ≠ .retiring)
    (shed : (s.plant == .waterShort && s.supplied n && (s.terms n).stagedClass == some .deferrable &&
      (s.terms n).cls != some .deferrable) = true) :
    s.afterRound.recState n = (if s.quotaSpent n = true then .quotaOut else .shed) ∧
    s.afterRound.holds (.allotment n) = false ∧
    (∀ o, (s.terms n).outlet = some o →
      s.afterRound.outlet o = { s.outlet o with closed := false, essential := false }) ∧
    (s.quotaSpent n = true → s.afterRound.account n = s.account n) ∧
    (s.quotaSpent n = false →
      s.afterRound.account n =
        { s.account n with cause := some .waterShort, recent := min 4 ((s.account n).recent + 1) } ∧
      (s.afterRound.work n).holdoff =
        ShedKind.holdoff .plain s.svl.settings.holdoff (min 4 ((s.account n).recent + 1))) := by
  have sheds := (State.sheds_iff reads n).1 shed
  obtain ⟨-, shed⟩ | ⟨spared, -⟩ | ⟨spared, -⟩ := State.afterRound_cases reads law n
  · exact State.shed_afterRound reads law taken stays shed
  · exact absurd sheds spared
  · exact absurd sheds spared

/-- A record that part 3 does not shed (R114). -/
theorem State.spared_afterRound (taken : s.recState n ≠ .vacant) (stays : s.recState n ≠ .retiring)
    (spared : (s.plant == .waterShort && s.supplied n && (s.terms n).stagedClass == some .deferrable &&
      (s.terms n).cls != some .deferrable) = false) :
    (s.recState n ≠ .restoring →
      s.afterRound.recState n = s.recState n ∧ s.afterRound.account n = s.account n) ∧
    ∀ e ∈ s.sld.watch, e.record = n → s.recState n = .restoring →
      (e.rounds < 2 → s.afterRound.recState n = .restoring ∧ ⟨n, e.rounds + 1⟩ ∈ s.afterRound.sld.watch) ∧
      (2 ≤ e.rounds → s.quotaSpent n = false → s.afterRound.recState n = .shed ∧
        (s.afterRound.account n).cause = some .restoreFail ∧ s.afterRound.holds (.allotment n) = false ∧
        (s.afterRound.work n).holdoff =
          ShedKind.holdoff .cancel s.svl.settings.holdoff (min 4 ((s.account n).recent + 1))) := by
  have before := (State.recState_endStaged reads (n := n)).resolve_right fun gone => stays gone.1
  obtain ⟨shed, -⟩ | ⟨-, restoring, ⟨e', entry', of', late'⟩, cancelled⟩ | ⟨-, kept, counted⟩ :=
    State.afterRound_cases reads law n
  · exact absurd ((State.sheds_iff reads n).2 shed) (by rw [spared]; decide)
  · obtain ⟨state, holds, -, -, marked⟩ := State.shed_afterRound reads law taken stays cancelled
    refine ⟨fun other => absurd restoring other, fun e entry of _ => ⟨fun early => ?_, fun _ unspent => ?_⟩⟩
    · obtain ⟨nodup, -⟩ := State.watched_endStaged reads law
      rw [State.sld_endStaged reads] at nodup
      obtain rfl : e = e' := List.inj_on_of_nodup_map nodup entry entry' (of.trans of'.symm)
      exact absurd late' (Nat.not_le.2 early)
    · obtain ⟨account, holdoff⟩ := marked unspent
      rw [unspent] at state
      exact ⟨state, congrArg Account.cause account, holds, holdoff⟩
  · refine ⟨fun _ => ⟨kept.recState.trans before, kept.account.trans (State.account_endStaged reads stays)⟩,
      fun e entry of restoring => ?_⟩
    obtain ⟨early, entry⟩ := counted e entry of
    exact ⟨fun _ => ⟨(kept.recState.trans before).trans restoring, entry⟩, fun late => absurd late (Nat.not_le.2 early)⟩

end Law

variable (reads : ∀ o, s.mapReads o)
include reads

/-- An outlet whose supplied records all stay supplied has its order when the sheds begin. -/
theorem State.outlet_afterRound_of_lasting
    (lasting : ∀ m : RecNo, (s.terms m).outlet = some o → s.supplied m = true → s.afterRound.supplied m = true) :
    s.afterRound.outlet o = s.endStaged.outlet o := by
  refine (s.dimmed_afterRound.outlet o).resolve_right ?_
  rintro ⟨-, m, place, on, off⟩
  rw [State.supplied_endStaged reads] at on
  obtain ⟨taken, stays⟩ := State.taken_of_supplied on
  rw [State.terms_endStaged reads taken stays] at place
  rw [lasting m place on] at off
  exact absurd off (by decide)

theorem State.outlet_endStaged_of_last {c : AllotClass} (marked : s.mark n o = some c)
    (last : ∀ m, n < m → s.mark m o = none) :
    s.endStaged.outlet o = { s.outlet o with essential := decide (c = .essential) } := by
  rw [s.stagedBelow_endStaged.last n o c n.isLt ((State.mark_endPolls reads n o).trans marked)
    fun m hm _ => (State.mark_endPolls reads m o).trans (last m hm), State.outlet_endPolls reads]

theorem State.outlet_endStaged_of_unmarked (unmarked : ∀ m, s.mark m o = none) : s.endStaged.outlet o = s.outlet o := by
  rw [s.stagedBelow_endStaged.unmarked o fun m _ => (State.mark_endPolls reads m o).trans (unmarked m),
    State.outlet_endPolls reads]

/-- The terms of a record after the round end: unstaged, with the state that the round end gives it. -/
theorem State.terms_afterRound (taken : s.recState n ≠ .vacant) (stays : s.recState n ≠ .retiring) :
    ∃ st, s.afterRound.terms n = { (s.terms n).unstaged with state := st } := by
  obtain ⟨st, e⟩ := s.dimmed_afterRound.terms n
  exact ⟨st, by rw [e, State.terms_endStaged reads taken stays]⟩

/-- The node table after the round end (R41, R42). -/
theorem State.node_afterRound (nodup : s.fcl.pollList.Nodup) (k : NodeNo) :
    s.afterRound.node k = if k ∈ s.fcl.pollList then (s.node k).rounded else s.node k := by
  rw [← State.node_endNodes reads nodup]
  refine State.node_congr ?_ k
  rw [s.dimmed_afterRound.frame.kept.2.1, s.stagedBelow_endStaged.frame.kept.2.1, State.nodes_endPolls]

/-- What parts 3 and 4 leave of the node chain and of the flags. -/
theorem State.kept_afterRound : s.afterRound.fcl.phase = .idle ∧ s.afterRound.svl = s.endPolls.svl := by
  obtain ⟨phase, -, svl, -⟩ := s.dimmed_afterRound.frame.kept
  obtain ⟨phase', -, svl', -⟩ := s.stagedBelow_endStaged.frame.kept
  exact ⟨(phase.trans phase').trans (State.silenced_endPolls reads).kept.2.1, svl.trans svl'⟩

/-- A slot emptied by a node's silence is VACANT after the round end. -/
theorem State.vacant_afterRound (law : s.reserveLaw) (retiring : s.recState n = .retiring)
    (gone : s.endPolls.Emptied n) : s.afterRound.nva.slots[n] = Slot.vacant := by
  have off : s.supplied n = false := by simp [State.supplied, retiring]
  have slot := s.stagedBelow_endStaged.vacant n gone.recState
  obtain ⟨⟨-, -, on⟩, -⟩ | ⟨-, restoring, -⟩ | ⟨-, kept, -⟩ := State.afterRound_cases reads law n
  · rw [State.supplied_endStaged reads, off] at on
    exact absurd on (by decide)
  · exact absurd (retiring.symm.trans restoring) (by decide)
  · exact kept.1.trans (slot.trans gone.1)

theorem State.outlet_afterRound_of_last {c : AllotClass} (place : (s.terms n).outlet = some o)
    (on : s.supplied n = true) (staged : (s.terms n).stagedClass = some c)
    (lasting : ∀ m : RecNo, (s.terms m).outlet = some o → s.supplied m = true → s.afterRound.supplied m = true)
    (last : ∀ m : RecNo, n < m → (s.terms m).outlet = some o → s.supplied m = true → (s.terms m).stagedClass = none) :
    s.afterRound.outlet o = { s.outlet o with essential := decide (c = .essential) } := by
  rw [State.outlet_afterRound_of_lasting reads lasting]
  refine State.outlet_endStaged_of_last reads ?_ fun m hm => State.mark_of_unstaged (last m hm)
  rw [State.mark, if_pos ⟨on, place⟩, staged]

theorem State.outlet_afterRound_of_plain
    (plain : ∀ m : RecNo, (s.terms m).outlet = some o → s.supplied m = true →
      (s.terms m).stagedClass = none ∧ s.afterRound.supplied m = true) : s.afterRound.outlet o = s.outlet o := by
  rw [State.outlet_afterRound_of_lasting reads fun m place on => (plain m place on).2]
  exact State.outlet_endStaged_of_unmarked reads fun m => State.mark_of_unstaged fun place on => (plain m place on).1

/-- The third round without a reply sets NODE_SILENT (R42). -/
theorem State.flag_afterRound (nodup : s.fcl.pollList.Nodup) (third : ∃ k ∈ s.fcl.pollList,
    (s.node k).replied = false ∧ (s.node k).state = .present ∧ 2 ≤ (s.node k).missed) :
    s.afterRound.flag .nodeSilent = true := by
  obtain ⟨k, mem, quiet, present, third⟩ := third
  have noted := State.silenceNoted_endNodes reads nodup mem quiet present third
  rw [State.flag, (State.kept_afterRound reads).2]
  exact (State.silenced_endPolls_of_endNodes reads).flags _ noted.2.1

/-- A RETIRING record of a node that enters SILENT is gone after the round end (R16). -/
theorem State.retired_afterRound (law : s.reserveLaw) (nodup : s.fcl.pollList.Nodup) (bound : s.boundTo o = some n)
    (retiring : s.recState n = .retiring) (mem : o.node ∈ s.fcl.pollList) (quiet : (s.node o.node).replied = false)
    (present : (s.node o.node).state = .present) (third : 2 ≤ (s.node o.node).missed) :
    s.afterRound.nva.slots[n] = Slot.vacant ∧ s.afterRound.boundTo o = none := by
  have noted := State.silenceNoted_endNodes reads nodup mem quiet present third
  have gone := (State.silenced_endPolls_of_endNodes reads).emptied (noted.2.2 o n rfl bound retiring)
  refine ⟨State.vacant_afterRound reads law retiring gone, ?_⟩
  rw [State.boundTo_congr (s.dimmed_afterRound.map.trans s.stagedBelow_endStaged.kept.1)]
  obtain same | ⟨none, -⟩ := (State.silenced_endPolls reads).bound o
  · exact absurd (same.trans bound) (gone.2.2 o)
  · exact none

theorem State.stale_afterRound (nodup : s.fcl.pollList.Nodup) (bound : s.boundTo o = some n)
    (quiet : (s.node o.node).replied = false) : (s.afterRound.work n).fresh = false := by
  refine s.dimmed_afterRound.fresh n ?_
  rw [State.work_congr s.stagedBelow_endStaged.kept.2.1]
  exact State.fresh_endPolls reads nodup bound quiet

end Claims

theorem State.nextFrame_of_last {s : State} (drained : s.fcl.toPoll = []) (called : s.fcl.callDone = true) :
    s.nextFrame = s.roundEnd := by
  unfold State.nextFrame
  rw [drained]
  exact if_pos called

theorem exec_replyWindowExpiry_of_last {s : State} {a : NodeNo} {call : Bool} {left : Nat} (released : s.held = false)
    (window : s.fcl.phase = .window a call left) (drained : s.fcl.toPoll = []) (called : s.fcl.callDone = true) :
    exec .replyWindowExpiry s = .next s.afterRound.refill.settle := by
  show execReplyWindowExpiry s = _
  unfold execReplyWindowExpiry
  rw [unlessHeld_of_released _ released]
  rw [window, State.nextFrame_of_last drained called, State.roundEnd_eq_afterRound]

/-- Settles O50: parts 1 and 2 by what they leave at a node, part 3 by the records in number order, and each record's
shed or cancellation by what comes before and after it. -/
theorem roundEndDoesItsFiveParts : Obligations.RoundEndDoesItsFiveParts := by
  intro s a call left released _ reads window drained called nodup law
  have answered := exec_replyWindowExpiry_of_last released window drained called
  have phase := (State.kept_afterRound reads).1
  have node := State.node_afterRound reads nodup
  have flag := State.flag_afterRound reads nodup
  have terms := fun n => State.terms_afterRound reads (n := n)
  have sheds := fun n => State.record_shed_afterRound reads law (n := n)
  have spared := fun n => State.spared_afterRound reads law (n := n)
  have lost := fun n o => State.outlet_afterRound_of_lost reads law (n := n) (o := o)
  have last := fun n o c => State.outlet_afterRound_of_last reads (n := n) (o := o) (c := c)
  have plain := fun o => State.outlet_afterRound_of_plain reads (o := o)
  have retired := fun o n => State.retired_afterRound reads law nodup (o := o) (n := n)
  have stale := fun o n => State.stale_afterRound reads nodup (o := o) (n := n)
  generalize s.afterRound = v at *
  refine ⟨v.refill, answered, phase, rfl, rfl, fun k => (node k).trans ?_, flag, fun n taken stays => ?_,
    ⟨lost, last, plain⟩, retired, stale⟩
  · unfold Node.rounded
    by_cases mem : k ∈ s.fcl.pollList
    · cases state : (s.node k).state <;> simp [mem, state]
    · simp [mem]
  · obtain ⟨st, unstaged⟩ := terms n taken stays
    refine ⟨fun trusted => ?_, congrArg Terms.stagedClass unstaged, congrArg Terms.stagedRank unstaged,
      fun shed => sheds n taken stays shed, fun dry => spared n taken stays dry⟩
    exact ⟨(congrArg Terms.cls unstaged).trans (if_neg trusted), (congrArg Terms.rank unstaged).trans (if_neg trusted)⟩

end Sys2Proof.Machine

namespace Sys2Proof.Machine

/-! # The supply law (R33, R115, R122, R158, R161 to R163)

Most operations leave the plant state alone and take load off the supply: `State.Eased` says so once for all that the law
speaks of, and each operation gets one lemma, `State.Eased.<operation>`. The operations that change the plant state, grant a
claim, apply the staged sets or reset the part get a lemma about the law itself. -/

/-- A record of class DEFERRABLE that is supplied. -/
def State.feedsDeferrable (s : State) (n : RecNo) : Prop := s.supplied n = true ∧ (s.terms n).cls = some .deferrable

/-- The timers of one plant state run in that state alone (R161 to R163). -/
def Wgc.timersLaw (w : Wgc) : Prop :=
  (w.sync.isSome = true → w.plant = .runUp) ∧ (w.runup.isSome = true → w.plant = .runUp) ∧
  (w.short.isSome = true → w.plant = .onLine) ∧ (w.recovery.isSome = true → w.plant = .waterShort)

/-- What a change that gives the supply no new load keeps: the plant state and its trip cause, the law of the plant's
timers; and no outlet closes, no clutch goes on and no DEFERRABLE record is supplied anew. -/
structure State.Eased (s t : State) : Prop where
  plant : t.plant = s.plant
  cause : t.plantRecord.cause = s.plantRecord.cause
  timers : s.wgc.timersLaw → t.wgc.timersLaw
  closed : ∀ o, (t.outlet o).closed = true → (s.outlet o).closed = true
  clutch : ∀ i, (t.station i).clutch = true → (s.station i).clutch = true
  engaging : ∀ i, (t.station i).state = .engaging → (s.station i).state = .engaging
  deferrable : ∀ n, t.feedsDeferrable n → s.feedsDeferrable n

section Relation

variable {r s t : State}

theorem State.Eased.refl (s : State) : s.Eased s :=
  ⟨rfl, rfl, id, fun _ => id, fun _ => id, fun _ => id, fun _ => id⟩

theorem State.Eased.trans (h : r.Eased s) (h' : s.Eased t) : r.Eased t where
  plant := h'.plant.trans h.plant
  cause := h'.cause.trans h.cause
  timers := h'.timers ∘ h.timers
  closed o := h.closed o ∘ h'.closed o
  clutch i := h.clutch i ∘ h'.clutch i
  engaging i := h.engaging i ∘ h'.engaging i
  deferrable n := h.deferrable n ∘ h'.deferrable n

theorem State.supplyLaw_iff : s.supplyLaw ↔
    (∀ o : OutletId, (s.outlet o).closed = true → s.supplying = true) ∧
    (∀ i : StationNo, (s.station i).clutch = true → s.supplying = true) ∧
    (s.plant = .tripped ↔ s.plantRecord.cause.isSome = true) ∧ s.wgc.timersLaw ∧
    (s.plant = .waterShort →
      (∀ i : StationNo, (s.station i).state ≠ .engaging) ∧ ∀ n : RecNo, ¬ s.feedsDeferrable n) := by
  simp only [State.supplyLaw, Wgc.timersLaw, State.feedsDeferrable, State.plant, not_and, ne_eq, and_assoc]

theorem State.supplying_congr (h : t.plant = s.plant) : t.supplying = s.supplying := by
  rw [State.supplying, State.supplying, h]

theorem State.Eased.supplyLaw (e : s.Eased t) (h : s.supplyLaw) : t.supplyLaw := by
  obtain ⟨outlets, clutches, tripped, timers, short⟩ := State.supplyLaw_iff.1 h
  refine State.supplyLaw_iff.2 ⟨fun o on => ?_, fun i on => ?_, ?_, e.timers timers,
    fun ws => ⟨fun i on => ?_, fun n on => ?_⟩⟩
  · rw [State.supplying_congr e.plant]
    exact outlets o (e.closed o on)
  · rw [State.supplying_congr e.plant]
    exact clutches i (e.clutch i on)
  · rw [e.plant, e.cause]
    exact tripped
  · exact (short (e.plant.symm.trans ws)).1 i (e.engaging i on)
  · exact (short (e.plant.symm.trans ws)).2 n (e.deferrable n on)

end Relation

/-! ## Elementary changes -/

section Elementary

variable {r s t : State}

/-- A change of nothing that the law speaks of. -/
theorem State.Eased.frame (h : r.Eased s) (e : t.nva.slots = s.nva.slots ∧ t.nva.plantRecord = s.nva.plantRecord ∧
    t.fcl.outlets = s.fcl.outlets ∧ t.spu = s.spu ∧ t.wgc = s.wgc) : r.Eased t := by
  obtain ⟨slots, plant, outlets, stations, wgc⟩ := e
  refine h.trans ⟨?_, ?_, ?_, fun o => ?_, fun i => ?_, fun i => ?_, fun n => ?_⟩
  · rw [State.plant, wgc, State.plant]
  · rw [State.plantRecord, plant, State.plantRecord]
  · rw [wgc]
    exact id
  · rw [State.outlet_congr outlets]
    exact id
  · rw [State.station, stations]
    exact id
  · rw [State.station, stations]
    exact id
  · rw [State.feedsDeferrable, State.supplied, State.recState_congr slots, State.terms_congr slots]
    exact id

theorem State.Eased.modFsu (h : r.Eased s) (f : Fsu → Fsu) : r.Eased (s.modFsu f) := h.frame ⟨rfl, rfl, rfl, rfl, rfl⟩
theorem State.Eased.modBgv (h : r.Eased s) (f : Bgv → Bgv) : r.Eased (s.modBgv f) := h.frame ⟨rfl, rfl, rfl, rfl, rfl⟩
theorem State.Eased.modRsv (h : r.Eased s) (f : Rsv → Rsv) : r.Eased (s.modRsv f) := h.frame ⟨rfl, rfl, rfl, rfl, rfl⟩
theorem State.Eased.modSld (h : r.Eased s) (f : Sld → Sld) : r.Eased (s.modSld f) := h.frame ⟨rfl, rfl, rfl, rfl, rfl⟩
theorem State.Eased.modMsq (h : r.Eased s) (f : Msq → Msq) : r.Eased (s.modMsq f) := h.frame ⟨rfl, rfl, rfl, rfl, rfl⟩
theorem State.Eased.modSvl (h : r.Eased s) (f : Svl → Svl) : r.Eased (s.modSvl f) := h.frame ⟨rfl, rfl, rfl, rfl, rfl⟩
theorem State.Eased.latch (h : r.Eased s) (f : Flag) : r.Eased (s.latch f) := h.modSvl _
theorem State.Eased.promptEvaluation (h : r.Eased s) : r.Eased s.promptEvaluation := h.modRsv _
theorem State.Eased.modNode (h : r.Eased s) (a : NodeNo) (f : Node → Node) : r.Eased (s.modNode a f) :=
  h.frame ⟨rfl, rfl, rfl, rfl, rfl⟩
theorem State.Eased.modWork (h : r.Eased s) (n : RecNo) (f : Working → Working) : r.Eased (s.modWork n f) :=
  h.frame ⟨rfl, rfl, rfl, rfl, rfl⟩
theorem State.Eased.unbind (h : r.Eased s) (n : RecNo) : r.Eased (s.unbind n) := h.frame ⟨rfl, rfl, rfl, rfl, rfl⟩
theorem State.Eased.setBinding (h : r.Eased s) (o : OutletId) (x : Option RecNo) : r.Eased (s.setBinding o x) :=
  h.frame ⟨rfl, rfl, rfl, rfl, rfl⟩

theorem State.Eased.modFcl (h : r.Eased s) (f : Fcl → Fcl) (same : (f s.fcl).outlets = s.fcl.outlets) :
    r.Eased (s.modFcl f) := h.frame ⟨rfl, rfl, same, rfl, rfl⟩

/-- A change of the Water and Gate Controller's own registers. -/
theorem State.Eased.modWgc (h : r.Eased s) (f : Wgc → Wgc) (plant : (f s.wgc).plant = s.wgc.plant)
    (timers : s.wgc.timersLaw → (f s.wgc).timersLaw) : r.Eased (s.modWgc f) :=
  h.trans ⟨plant, rfl, timers, fun _ => id, fun _ => id, fun _ => id, fun _ => id⟩

theorem State.Eased.modOutlet (h : r.Eased s) (o : OutletId) (f : Outlet → Outlet)
    (opens : (f (s.outlet o)).closed = true → (s.outlet o).closed = true) : r.Eased (s.modOutlet o f) := by
  refine h.trans ⟨rfl, rfl, id, fun p => ?_, fun _ => id, fun _ => id, fun _ => id⟩
  rw [State.outlet_modOutlet]
  split
  next e => rwa [e]
  next => exact id

theorem State.Eased.modStation (h : r.Eased s) (i : StationNo) (f : Station → Station)
    (clutch : (f (s.station i)).clutch = true → (s.station i).clutch = true)
    (engaging : (f (s.station i)).state = .engaging → (s.station i).state = .engaging) : r.Eased (s.modStation i f) := by
  refine h.trans ⟨rfl, rfl, id, fun _ => id, fun j => ?_, fun j => ?_, fun _ => id⟩ <;>
    rw [State.station_modStation] <;> split
  case refine_1.isTrue e => rwa [e]
  case refine_2.isTrue e => rwa [e]
  all_goals exact id

/-- A change of a station that keeps its state. -/
theorem State.Eased.modStation_same (h : r.Eased s) (i : StationNo) (f : Station → Station)
    (state : (f (s.station i)).state = (s.station i).state) : r.Eased (s.modStation i f) :=
  h.modStation i f (by simp only [Station.clutch, state]; exact id) (by rw [state]; exact id)

theorem State.Eased.modPlantRecord (h : r.Eased s) (f : PlantRecord → PlantRecord)
    (cause : (f s.plantRecord).cause = s.plantRecord.cause) : r.Eased (s.modPlantRecord f) :=
  h.trans ⟨rfl, cause, id, fun _ => id, fun _ => id, fun _ => id, fun _ => id⟩

theorem State.feedsDeferrable_iff {n : RecNo} : s.feedsDeferrable n ↔
    ((s.terms n).state = .live ∨ (s.terms n).state = .restoring) ∧ (s.terms n).cls = some .deferrable := by
  simp only [State.feedsDeferrable, State.supplied, Bool.or_eq_true, decide_eq_true_eq]
  rfl

theorem State.Eased.modTerms (h : r.Eased s) (n : RecNo) (f : Terms → Terms)
    (eased : (s.modTerms n f).feedsDeferrable n → s.feedsDeferrable n) : r.Eased (s.modTerms n f) := by
  refine h.trans ⟨rfl, rfl, id, fun _ => id, fun _ => id, fun _ => id, fun m => ?_⟩
  by_cases e : m = n
  · rwa [e]
  · rw [State.feedsDeferrable_iff, State.terms_modTerms, if_neg e, ← State.feedsDeferrable_iff]
    exact id

/-- A change of a record that takes it off the supply. -/
theorem State.Eased.modTerms_off (h : r.Eased s) (n : RecNo) (f : Terms → Terms) (live : (f (s.terms n)).state ≠ .live)
    (restoring : (f (s.terms n)).state ≠ .restoring) : r.Eased (s.modTerms n f) :=
  h.modTerms n f fun on => by
    rw [State.feedsDeferrable_iff, State.terms_modTerms, if_pos rfl] at on
    exact absurd on.1 (not_or.2 ⟨live, restoring⟩)

/-- A change of a record that keeps its state and class. -/
theorem State.Eased.modTerms_same (h : r.Eased s) (n : RecNo) (f : Terms → Terms)
    (state : (f (s.terms n)).state = (s.terms n).state) (cls : (f (s.terms n)).cls = (s.terms n).cls) :
    r.Eased (s.modTerms n f) :=
  h.modTerms n f fun on => by
    rwa [State.feedsDeferrable_iff, State.terms_modTerms, if_pos rfl, state, cls, ← State.feedsDeferrable_iff] at on

theorem State.Eased.modAccount (h : r.Eased s) (n : RecNo) (f : Account → Account) : r.Eased (s.modAccount n f) := by
  refine h.trans ⟨rfl, rfl, id, fun _ => id, fun _ => id, fun _ => id, fun m => ?_⟩
  rw [State.feedsDeferrable_iff, State.terms_modAccount, ← State.feedsDeferrable_iff]
  exact id

theorem State.Eased.setSlot (h : r.Eased s) (n : RecNo) (x : Slot) (live : x.terms.value.state ≠ .live)
    (restoring : x.terms.value.state ≠ .restoring) : r.Eased (s.setSlot n x) := by
  refine h.trans ⟨rfl, rfl, id, fun _ => id, fun _ => id, fun _ => id, fun m => ?_⟩
  rw [State.feedsDeferrable_iff, State.terms_eq, State.slots_setSlot]
  split
  · exact fun on => absurd on.1 (not_or.2 ⟨live, restoring⟩)
  · rw [← State.terms_eq, ← State.feedsDeferrable_iff]
    exact id

theorem State.Eased.ite (c : Prop) [Decidable c] (ha : r.Eased s) (hb : r.Eased t) : r.Eased (if c then s else t) := by
  split
  exacts [ha, hb]

theorem State.Eased.foldl {γ : Type} (h : r.Eased s) {f : State → γ → State}
    (step : ∀ (t : State) (x : γ), t.Eased (f t x)) (l : List γ) : r.Eased (l.foldl f s) :=
  foldl_inv r.Eased f (fun t x ht => ht.trans (step t x)) l s h

theorem State.Eased.eachRecord (h : r.Eased s) {f : RecNo → State → State} (step : ∀ n (t : State), t.Eased (f n t)) :
    r.Eased (s.eachRecord f) := h.foldl (fun t n => step n t) allRecords

theorem State.Eased.eachStation (h : r.Eased s) {f : StationNo → State → State}
    (step : ∀ i (t : State), t.Eased (f i t)) :
    r.Eased (s.eachStation f) := h.foldl (fun t i => step i t) allStations

end Elementary

/-! ## Orders, record states and reads -/

section Records

variable {r s : State}

theorem State.Eased.openOutlet (h : r.Eased s) (o : OutletId) : r.Eased (s.openOutlet o) := h.modOutlet o _ nofun

theorem State.Eased.openRecord (h : r.Eased s) (n : RecNo) : r.Eased (s.openRecord n) := by
  unfold State.openRecord
  split
  · exact h.openOutlet _
  · exact h

theorem State.closed_openEveryOutlet (s : State) (o : OutletId) : (s.openEveryOutlet.outlet o).closed = false := by
  simp [State.openEveryOutlet, State.outlet, State.modFcl]

theorem State.Eased.openEveryOutlet (h : r.Eased s) : r.Eased s.openEveryOutlet :=
  h.trans ⟨rfl, rfl, id, fun o on => absurd on (by simp [State.closed_openEveryOutlet]), fun _ => id, fun _ => id,
    fun _ => id⟩

theorem State.Eased.dropReservation (h : r.Eased s) (x : Holder) : r.Eased (s.dropReservation x) :=
  .ite _ (h.modRsv _) h

theorem State.Eased.leave (h : r.Eased s) (n : RecNo) : r.Eased (s.leave n) := by
  unfold State.leave
  split
  · exact h.modWork n _
  · exact (h.modWork n _).promptEvaluation
  · exact h.modWork n _
  · exact (h.modSld _).dropReservation _
  · exact h

theorem State.Eased.become (h : r.Eased s) (n : RecNo) (st : RecState) (live : st ≠ .live)
    (restoring : st ≠ .restoring) : r.Eased (s.become n st) :=
  have opened := ((h.leave n).modTerms_off n (fun x => { x with state := st }) live restoring).openRecord n
  .ite _ (opened.modWork n _).promptEvaluation opened

theorem State.Eased.vacate (h : r.Eased s) (n : RecNo) : r.Eased (s.vacate n) :=
  (((h.leave n).unbind n).setSlot n _ (by decide) (by decide)).modWork n _

theorem State.Eased.enterShed (h : r.Eased s) (n : RecNo) : r.Eased (s.enterShed n) :=
  .ite _ (h.become n _ (by decide) (by decide)) (h.become n _ (by decide) (by decide))

theorem State.Eased.quotaTest (h : r.Eased s) (n : RecNo) : r.Eased (s.quotaTest n) := by
  unfold State.quotaTest
  split
  case h_4 => exact .ite _ h (h.become n _ (by decide) (by decide))
  case h_5 => exact h
  all_goals exact .ite _ (h.become n _ (by decide) (by decide)) h

theorem State.Eased.shedWith (h : r.Eased s) (k : ShedKind) (cause : ShedCause) (draw : Option Nat) (n : RecNo) :
    r.Eased (s.shedWith k cause draw n) :=
  .ite _ (h.become n _ (by decide) (by decide))
    (((h.become n _ (by decide) (by decide)).modAccount n _).modWork n _)

theorem State.Eased.shed (h : r.Eased s) (k : ShedKind) (cause : ShedCause) (n : RecNo) : r.Eased (s.shed k cause n) :=
  h.shedWith k cause _ n

theorem State.Eased.cancel (h : r.Eased s) (n : RecNo) : r.Eased (s.cancel n) := h.shed _ _ n

theorem State.Eased.readBinding (h : r.Eased s) (o : OutletId) : r.Eased (s.readBinding o) := by
  unfold State.readBinding State.rebuildBinding
  split
  · exact h
  · exact (h.setBinding o _).latch _
  · exact (State.Eased.ite _ ((h.setBinding o _).openOutlet o) (h.setBinding o _)).latch _

theorem State.Eased.readMap (h : r.Eased s) : r.Eased s.readMap :=
  h.foldl (fun t o => (State.Eased.refl t).readBinding o) allOutlets

theorem State.Eased.readPlace (h : r.Eased s) (n : RecNo) : r.Eased (s.readPlace n) := .ite _ h.readMap h

theorem State.Eased.correctRecord (h : r.Eased s) (n : RecNo) : r.Eased (s.correctRecord n) :=
  ((h.modTerms_same n id rfl rfl).modAccount n _).latch _

theorem State.Eased.suspectRecord (h : r.Eased s) (n : RecNo) (o : OutletId) : r.Eased (s.suspectRecord n o) :=
  have rewritten := (((((h.modSld _).dropReservation _).modTerms_off n _ (by simp) (by simp)).modAccount n
    _).openOutlet o).modWork n _
  have marked := (State.Eased.ite _ (rewritten.latch _) rewritten).latch _
  .ite _ marked.promptEvaluation marked

theorem State.Eased.vacateLost (h : r.Eased s) (n : RecNo) : r.Eased (s.vacateLost n) :=
  (((h.modSld _).dropReservation _).vacate n).latch _

theorem State.Eased.readRecord (h : r.Eased s) (n : RecNo) : r.Eased (s.readRecord n) := by
  obtain ⟨e, -⟩ | ⟨e, -⟩ | ⟨-, ⟨o, -, e⟩ | ⟨-, e⟩⟩ := s.readRecord_cases n <;> rw [e]
  · exact h
  · exact h.correctRecord n
  · exact h.readMap.suspectRecord n o
  · exact h.readMap.vacateLost n

theorem State.Eased.readEach (h : r.Eased s) (p : State → RecNo → Bool) : r.Eased (s.readEach p) :=
  h.foldl (fun t n => .ite _ ((State.Eased.refl t).readRecord n) (.refl t)) allRecords

end Records

/-! ## Stations -/

section Stations

variable {r s : State}

/-- A station that takes a state with its clutch off. -/
theorem State.Eased.stationTo (h : r.Eased s) (i : StationNo) (st : SawState) (engaging : st ≠ .engaging)
    (running : st ≠ .running) : r.Eased (s.stationTo i st) :=
  have taken := h.modStation i (fun x => { x with state := st, refusal := none })
    (fun on => absurd on (by simp [Station.clutch, engaging, running])) fun on => absurd on engaging
  .ite _ taken.promptEvaluation taken

theorem State.Eased.abortStation (h : r.Eased s) (i : StationNo) (why : SawOutcome) : r.Eased (s.abortStation i why) :=
  .ite _ (((h.stationTo i .idle (by decide) (by decide)).modStation_same i _ rfl).dropReservation _) h

theorem State.Eased.windDown (h : r.Eased s) (i : StationNo) : r.Eased (s.windDown i) :=
  .ite _ ((h.stationTo i .windingDown (by decide) (by decide)).modStation_same i _ rfl) h

theorem State.Eased.abortEngaging (h : r.Eased s) (why : SawOutcome) : r.Eased (s.abortEngaging why) :=
  h.eachStation fun i t => (State.Eased.refl t).abortStation i why

/-- The end of an engagement takes no clutch on: it was on while the station engaged. -/
theorem State.Eased.stationTo_running (h : r.Eased s) (i : StationNo) (engaging : (s.station i).state = .engaging) :
    r.Eased (s.stationTo i .running) :=
  have taken := h.modStation i (fun x => { x with state := .running, refusal := none })
    (fun _ => by simp [Station.clutch, engaging]) fun _ => engaging
  .ite _ taken.promptEvaluation taken

theorem State.Eased.stationWindow (h : r.Eased s) (i : StationNo) : r.Eased (s.stationWindow i) := by
  unfold State.stationWindow
  cases state : (s.station i).state with
  | engaging =>
    exact .ite _ (((h.stationTo_running i state).modStation_same i _ rfl).dropReservation _) h
  | running => exact h.modStation_same i _ rfl
  | windingDown => exact .ite _ (h.stationTo i .idle (by decide) (by decide)) h
  | idle | waiting | lockedOut => exact h

theorem State.Eased.dipTest (h : r.Eased s) : r.Eased s.dipTest := by
  have state (i : StationNo) : (s.dipTest.station i).state = (s.station i).state := by
    simp only [State.dipTest, State.station, State.modSpu, Fin.getElem_fin, Vector.getElem_map]
    split <;> rfl
  refine h.trans ⟨rfl, rfl, id, fun _ => id, fun i => ?_, fun i => ?_, fun _ => id⟩
  · simp only [Station.clutch, state]
    exact id
  · rw [state]
    exact id

theorem State.Eased.inputChange (h : r.Eased s) (i : StationNo) (input : StationInput) (level : Bool) :
    r.Eased (s.inputChange i input level) := h.modStation_same i _ (by cases input <;> rfl)

theorem State.Eased.inputRaw (h : r.Eased s) (i : StationNo) (input : StationInput) (level : Bool) :
    r.Eased (s.inputRaw i input level) := h.modStation_same i _ (by cases input <;> rfl)

theorem State.Eased.takeStart (h : r.Eased s) (i : StationNo) : r.Eased (s.takeStart i) :=
  .ite _ (.ite _ (h.modStation_same i _ rfl) (.ite _ ((h.stationTo i .waiting (by decide) (by decide)).modStation_same
    i _ rfl) (h.modStation_same i _ rfl))) h

theorem State.Eased.takeStop (h : r.Eased s) (i : StationNo) : r.Eased (s.takeStop i) := by
  unfold State.takeStop
  cases (s.station i).state with
  | waiting => exact (h.stationTo i .idle (by decide) (by decide)).modStation_same i _ rfl
  | engaging => exact h.abortStation i _
  | running => exact h.windDown i
  | idle | windingDown | lockedOut => exact h

theorem State.Eased.filterExpiry (h : r.Eased s) (i : StationNo) (input : StationInput) :
    r.Eased (s.filterExpiry i input) := by
  cases input with
  | start =>
    have filtered := h.modStation_same i (fun x => { x with startFilter := none, startPressed := x.rawStart }) rfl
    exact .ite _ (filtered.takeStart i) filtered
  | stop =>
    have filtered := h.modStation_same i (fun x => { x with stopFilter := none, stopOpen := x.rawStop }) rfl
    exact .ite _ (filtered.takeStop i) filtered

theorem State.Eased.waitExpiry (h : r.Eased s) (i : StationNo) : r.Eased (s.waitExpiry i) :=
  (h.stationTo i .idle (by decide) (by decide)).modStation_same i _ rfl

theorem State.Eased.jamExpiry (h : r.Eased s) (i : StationNo) : r.Eased (s.jamExpiry i) :=
  (((h.stationTo i .lockedOut (by decide) (by decide)).modStation_same i _ rfl).latch _).modPlantRecord _ rfl

theorem State.Eased.releaseStation (h : r.Eased s) (i : StationNo) : r.Eased (s.releaseStation i) :=
  (h.stationTo i .idle (by decide) (by decide)).modPlantRecord _ rfl

theorem State.Eased.judgeVoltage (h : r.Eased s) (v : Int) : r.Eased (s.judgeVoltage v) :=
  h.eachStation fun i t =>
    have same := State.Eased.refl t
    .ite _ (.ite _ (same.modStation_same i _ rfl) (same.abortStation i _)) same

end Stations

/-! ## The ladder -/

section Ladder

variable {r s : State}

theorem State.Eased.shedEntry (h : r.Eased s) (cause : ShedCause) (x : Holder) : r.Eased (s.shedEntry cause x) := by
  cases x with
  | allotment n => exact h.shed _ _ n
  | station i => exact h.windDown i

theorem State.Eased.takeStep (h : r.Eased s) : r.Eased s.takeStep := by
  have first := h.readEach State.isRestoring
  unfold State.takeStep
  dsimp only
  split
  case h_1 n _ => exact first.cancel n
  case h_2 => exact first
  case h_3 =>
    have second := first.readEach State.recordOnLadder
    split
    case h_1 x _ => exact second.shedEntry _ x
    case h_2 => exact second

theorem State.Eased.stepExpiry (h : r.Eased s) : r.Eased s.stepExpiry := by
  unfold State.stepExpiry
  exact h.takeStep.modSld _

/-- Read a record that a test finds, and do something to it if the test still holds. -/
theorem State.Eased.readAnd (h : r.Eased s) {n : RecNo} {c d : Prop} [Decidable c] [Decidable d] {t : State}
    (eased : (s.readRecord n).Eased t) : r.Eased (if c then (if d then t else s.readRecord n) else s) :=
  .ite _ (.ite _ ((h.readRecord n).trans eased) (h.readRecord n)) h

theorem State.Eased.collapseFirst (h : r.Eased s) : r.Eased s.collapseFirst := by
  refine State.Eased.abortEngaging (State.Eased.eachRecord (State.Eased.eachStation (h.eachRecord fun n t => ?_)
    fun i t => (State.Eased.refl t).windDown i) fun n t => ?_) _
  · exact (State.Eased.refl t).readAnd ((State.Eased.refl _).shed .plain .collapse n)
  · exact (State.Eased.refl t).readAnd ((State.Eased.refl _).cancel n)

theorem State.Eased.collapseSecond (h : r.Eased s) : r.Eased s.collapseSecond :=
  h.collapseFirst.eachRecord fun n t => (State.Eased.refl t).readAnd ((State.Eased.refl _).shed .zero .collapse n)

theorem State.Eased.waterShortShed (h : r.Eased s) : r.Eased s.waterShortShed :=
  (h.eachRecord fun n t => .ite _ ((State.Eased.refl t).shed .plain .waterShort n) (.refl t)).abortEngaging _

theorem State.Eased.plantShed (h : r.Eased s) : r.Eased s.plantShed :=
  (h.eachRecord fun n t => .ite _ ((State.Eased.refl t).shed .zero .plant n) (.refl t)).openEveryOutlet.modSld _

theorem State.Eased.countRounds (h : r.Eased s) : r.Eased s.countRounds :=
  (h.modSld _).foldl (fun t n => .ite _ ((State.Eased.refl t).cancel n) ((State.Eased.refl t).modSld _)) _

end Ladder

/-! ## Outlet reports and the chain -/

section Chain

variable {r s : State}

theorem State.Eased.tallyEnergy (h : r.Eased s) (n : RecNo) (restart : Bool) (counter : Nat) :
    r.Eased (s.tallyEnergy n restart counter) := by
  unfold State.tallyEnergy
  exact (State.Eased.ite _ h (h.modAccount n _)).modWork n _

theorem State.Eased.overCapStep (h : r.Eased s) (n : RecNo) (power : Nat) : r.Eased (s.overCapStep n power) :=
  .ite _ (.ite _ (.ite _ ((h.become n _ (by decide) (by decide)).modWork n _) (h.modWork n _)) (h.modWork n _)) h

theorem State.Eased.openWatch (h : r.Eased s) (n : RecNo) (o : OutletId) (closed : Bool) (draw : Option Nat) :
    r.Eased (s.openWatch n o closed draw) :=
  .ite _ (.ite _ (h.modWork n _) (.ite _ (h.shedWith _ _ _ n) (h.modWork n _))) h

theorem State.Eased.closedWatch (h : r.Eased s) (n : RecNo) (o : OutletId) (closed : Bool) :
    r.Eased (s.closedWatch n o closed) :=
  .ite _ (.ite _ ((h.modWork n _).latch _) (h.modWork n _)) (h.modWork n _)

theorem State.Eased.watchReport (h : r.Eased s) (n : RecNo) (o : OutletId) (restart : Bool) (x : Report)
    (draw : Option Nat) : r.Eased (s.watchReport n o restart x draw) :=
  have restarted : r.Eased ((s.storePower n x.power).restartStep n restart draw) :=
    .ite _ (State.Eased.shedWith (h.modWork n _) _ _ _ n) (h.modWork n _)
  ((restarted.overCapStep n x.power).openWatch n o x.closed draw).closedWatch n o x.closed

theorem State.Eased.answerReset (h : r.Eased s) (o : OutletId) (bound : Option RecNo) (flag : Bool) :
    r.Eased (s.answerReset o bound flag) := by
  unfold State.answerReset
  split
  · have answered := h.modOutlet o (fun x => { x with answered := true }) id
    cases bound with
    | some n => exact .ite _ (answered.enterShed n) answered
    | none => exact answered
  · exact h.modOutlet o _ id
  · exact h

/-- A confirmation keeps a record on the supply that was on it. -/
theorem State.Eased.confirm (h : r.Eased s) (n : RecNo) (closed : Bool) : r.Eased (s.confirm n closed) := by
  unfold State.confirm
  split
  case isFalse => exact h
  case isTrue found =>
    refine State.Eased.modWork (State.Eased.modTerms (h.leave n) n _ fun on => ?_) n _
    rw [State.feedsDeferrable_iff, State.terms_modTerms, if_pos rfl] at on
    rw [State.feedsDeferrable_iff, ← State.recState, State.recState_congr (congrArg Nva.slots (State.leave_keeps n s).1)]
    exact ⟨.inr found.2, on.2⟩

theorem State.Eased.workReport (h : r.Eased s) (n : RecNo) (o : OutletId) (restart : Bool) (x : Report) :
    r.Eased (s.workReport n o restart x) := by
  rw [State.workReport_eq]
  have answered := ((((h.tallyEnergy n restart x.energy).quotaTest n).watchReport n o restart x
    (((s.tallyEnergy n restart x.energy).quotaTest n).freshDraw n)).answerReset o (some n) x.reset)
  exact (State.Eased.ite _ (answered.vacate n) answered).confirm n x.closed

theorem State.Eased.takeReport (h : r.Eased s) (restart : Bool) (o : OutletId) (x : Report) :
    r.Eased (s.takeReport restart o x) := by
  have bound := h.readBinding o
  unfold State.takeReport
  dsimp only
  split
  case h_1 => exact bound.answerReset o none _
  case h_2 n _ => exact .ite _ (bound.readRecord n) ((bound.readRecord n).workReport n o restart x)

theorem State.Eased.enterSilent (h : r.Eased s) (a : NodeNo) : r.Eased (s.enterSilent a) := by
  refine State.Eased.promptEvaluation (State.Eased.foldl ((h.modNode a _).latch _) (fun t o => ?_) _)
  have bound := (State.Eased.refl t).readBinding o
  dsimp only
  split
  · exact .ite _ (bound.vacate _) bound
  · exact bound

theorem State.Eased.nodeRoundEnd (h : r.Eased s) (a : NodeNo) : r.Eased (s.nodeRoundEnd a) := by
  refine .ite _ h ?_
  cases (s.node a).state with
  | joining => exact h.modNode a _
  | present =>
    have missed := h.modNode a fun x => { x with missed := min 3 (x.missed + 1) }
    exact .ite _ (missed.enterSilent a) missed
  | absent | silent => exact h

theorem State.Eased.clearFresh (h : r.Eased s) (a : NodeNo) : r.Eased (s.clearFresh a) := by
  refine .ite _ h (h.foldl (fun t o => ?_) _)
  have bound := (State.Eased.refl t).readBinding o
  dsimp only
  split
  · exact bound.modWork _ _
  · exact bound

theorem State.Eased.nodeHeard (h : r.Eased s) (a : NodeNo) (call : Bool) : r.Eased (s.nodeHeard a call) := by
  unfold State.nodeHeard
  split
  · exact h.modNode a _
  · exact ((h.modNode a _).latch _).promptEvaluation
  · exact (h.modNode a _).promptEvaluation
  · exact h

theorem State.Eased.validReply (h : r.Eased s) (a : NodeNo) (call : Bool) (l : List Byte) :
    r.Eased (s.validReply a call l) := by
  have heard := State.Eased.nodeHeard (h.modNode a fun x =>
    { x with valid := min 65535 (x.valid + 1), replied := true, missed := 0 }) a call
  have cleared := heard.foldl
    (fun t o => (State.Eased.refl t).modOutlet o (fun x => { x with answered := false }) id) (outletsOf a)
  unfold State.validReply
  refine State.Eased.foldl (.ite _ (State.Eased.modNode ?_ a _) ?_) (fun t k => (State.Eased.refl t).takeReport _ _ _)
    allOutletNos <;> exact .ite _ cleared heard

theorem State.Eased.receiveReply (h : r.Eased s) (a : NodeNo) (call : Bool) (chars : List LineChar) :
    r.Eased (s.receiveReply a call chars) := .ite _ (h.validReply a call _) (h.modNode a _)

end Chain

/-! ## The gate, the governor and the tests -/

section Tests

variable {r s : State}

theorem State.Eased.checkGate (h : r.Eased s) : r.Eased s.checkGate :=
  State.Eased.modMsq (h.modWgc _ rfl id) _

theorem State.Eased.stepToward (h : r.Eased s) (v : Int) : r.Eased (s.stepToward v) := h.modWgc _ rfl id

theorem State.Eased.startMove (h : r.Eased s) : r.Eased s.startMove := by
  have timed := h.modWgc (fun w => { w with timeout := some (seconds 20) }) rfl id
  unfold State.startMove
  dsimp only
  split
  · exact .ite _ timed.checkGate (timed.stepToward _)
  · exact timed.modWgc _ rfl id

theorem State.Eased.setTarget (h : r.Eased s) (target : Nat) : r.Eased (s.setTarget target) :=
  .ite _ h (State.Eased.startMove (h.modWgc _ rfl id))

theorem State.Eased.gateReading (h : r.Eased s) (v : Int) (fromSlot2 : Bool) : r.Eased (s.gateReading v fromSlot2) := by
  unfold State.gateReading
  cases s.wgc.move with
  | stepping => exact .ite _ h.checkGate (h.stepToward v)
  | checking => exact .ite _ (.ite _ (h.modWgc _ rfl id) (h.stepToward v)) h
  | idle | faulted => exact h

theorem State.Eased.shortTest (h : r.Eased s) : r.Eased s.shortTest := by
  unfold State.shortTest
  split
  case isTrue on => exact h.modWgc _ rfl fun ⟨sync, runup, _, recovery⟩ => ⟨sync, runup, fun _ => on, recovery⟩
  case isFalse => exact h

theorem State.Eased.recoveryTest (h : r.Eased s) : r.Eased s.recoveryTest := by
  unfold State.recoveryTest
  split
  case isTrue on => exact h.modWgc _ rfl fun ⟨sync, runup, short, _⟩ => ⟨sync, runup, short, fun _ => on⟩
  case isFalse => exact h

theorem State.Eased.inStepTest (h : r.Eased s) : r.Eased s.inStepTest := by
  unfold State.inStepTest
  split
  case isTrue on => exact h.modWgc _ rfl fun ⟨_, runup, short, recovery⟩ => ⟨fun _ => on, runup, short, recovery⟩
  case isFalse => exact h

theorem State.Eased.freqOverTest (h : r.Eased s) : r.Eased s.freqOverTest := .ite _ (h.modWgc _ rfl id) h

theorem State.Eased.shaftOverTest (h : r.Eased s) : r.Eased s.shaftOverTest := .ite _ (h.modWgc _ rfl id) h

theorem State.Eased.stepTest (h : r.Eased s) : r.Eased s.stepTest := h.modSld _

theorem State.Eased.collapseTests (h : r.Eased s) : r.Eased s.collapseTests := by
  unfold State.collapseTests
  exact h.modSld _

theorem State.Eased.slipTest (h : r.Eased s) : r.Eased s.slipTest := h.modFsu _

theorem State.Eased.waterTakesFrequency (h : r.Eased s) : r.Eased s.waterTakesFrequency := h.inStepTest.freqOverTest

theorem State.Eased.governorUpdate (h : r.Eased s) : r.Eased s.governorUpdate :=
  have tested := h.promptEvaluation.stepTest.shortTest.recoveryTest
  .ite _ (tested.modWgc _ rfl id) tested

theorem State.Eased.governorInactive (h : r.Eased s) : r.Eased s.governorInactive :=
  .ite _ h (State.Eased.governorUpdate (h.modBgv _))

theorem State.Eased.triggerStage (h : r.Eased s) (g : Stage) : r.Eased (s.triggerStage g) := h.modMsq _

theorem State.Eased.governorPeriod (h : r.Eased s) : r.Eased s.governorPeriod := by
  have computed := h.modBgv fun b => b.compute s.set s.fsu.freq
  unfold State.governorPeriod
  exact .ite _ h (State.Eased.governorUpdate (.ite _ (computed.triggerStage .trim) computed))

theorem State.Eased.governorLosesFrequency (h : r.Eased s) : r.Eased s.governorLosesFrequency := .ite _ (h.modBgv _) h

theorem State.Eased.testIfJoined (h : r.Eased s) (before : Banks) (g : Stage) : r.Eased (s.testIfJoined before g) :=
  .ite _ (h.triggerStage g) h

theorem State.Eased.switchingInstant (h : r.Eased s) : r.Eased s.switchingInstant := by
  unfold State.switchingInstant
  exact .ite _ h (((((h.modBgv _).testIfJoined _ .a).testIfJoined _ .b).testIfJoined _ .c).testIfJoined _ .d)

theorem State.Eased.judgeStage (h : r.Eased s) (g : Stage) (v : Int) : r.Eased (s.judgeStage g v) :=
  .ite _ h (.ite _ (h.modBgv _) ((h.modBgv _).latch _))

theorem State.Eased.changeTarget (h : r.Eased s) (target : Nat) : r.Eased (s.changeTarget target) :=
  .ite _ h (h.setTarget target).shortTest

theorem State.Eased.levelEvaluation (h : r.Eased s) (v : Int) : r.Eased (s.levelEvaluation v) := by
  unfold State.levelEvaluation
  exact State.Eased.changeTarget (State.Eased.modWgc (.ite _ (h.latch _) h) _ rfl id) _

theorem State.Eased.enterReading (h : r.Eased s) (c : ChannelNo) (raw : Nat) (v : Int) (src : Source) :
    r.Eased (s.enterReading c raw v src) := by
  unfold State.enterReading
  exact h.modMsq _

theorem State.Eased.freshnessExpiry (h : r.Eased s) (c : ChannelNo) : r.Eased (s.freshnessExpiry c) :=
  have stale := h.modMsq fun m => { m with entries := m.entries.set c { m.entries[c] with state := .stale, timer := none } }
  .ite _ (State.Eased.shortTest (stale.modWgc _ rfl id)) stale

end Tests

/-! ## A change of plant state at the other blocks -/

section PlantChanged

variable {r s t : State}

theorem State.Eased.governorTakesPlant (h : r.Eased s) : r.Eased s.governorTakesPlant := .ite _ h.governorInactive h

theorem State.Eased.ladderTakesPlant (h : r.Eased s) : r.Eased s.ladderTakesPlant := by
  unfold State.ladderTakesPlant
  cases s.plant with
  | waterShort => exact h.waterShortShed
  | runDown | tripped => exact h.plantShed
  | runUp => exact h.openEveryOutlet
  | standstill | onLine => exact h

theorem State.Eased.windEveryDown (h : r.Eased s) : r.Eased (s.eachStation fun i t => t.windDown i) :=
  h.eachStation fun i t => (State.Eased.refl t).windDown i

theorem State.Eased.stationsTakePlant (h : r.Eased s) : r.Eased s.stationsTakePlant := by
  unfold State.stationsTakePlant
  cases s.plant with
  | waterShort => exact h.abortEngaging _
  | runDown | tripped => exact (h.abortEngaging _).windEveryDown
  | runUp | standstill | onLine => exact h

theorem State.Eased.plantChanged (h : r.Eased s) : r.Eased s.plantChanged :=
  h.governorTakesPlant.ladderTakesPlant.stepTest.collapseTests.stationsTakePlant.slipTest.promptEvaluation

/-- A fold of changes that ease the supply, one of which brings about what all of them keep. -/
theorem State.foldl_brings {γ : Type} {f : State → γ → State} {P Q : State → Prop} {l : List γ} {x : γ}
    (step : ∀ (t : State) (y : γ), t.Eased (f t y)) (keepP : ∀ t u : State, t.Eased u → P t → P u)
    (keepQ : ∀ t u : State, t.Eased u → Q t → Q u) (hit : ∀ t, P t → Q (f t x)) (mem : x ∈ l) (start : P s) :
    Q (l.foldl f s) := by
  induction l generalizing s with
  | nil => cases mem
  | cons y l ih =>
    obtain rfl | later := List.mem_cons.1 mem
    · exact keepQ _ _ ((State.Eased.refl _).foldl step l) (hit s start)
    · exact ih later (keepP _ _ (step s y) start)

theorem mem_allStations (i : StationNo) : i ∈ allStations := by fin_cases i <;> simp [allStations]

theorem State.state_stationTo (s : State) (i : StationNo) (st : SawState) : ((s.stationTo i st).station i).state = st := by
  unfold State.stationTo
  dsimp only
  split <;> simp [State.promptEvaluation, State.modRsv, State.modStation, State.modSpu, State.station]

theorem State.not_engaging_abortStation (s : State) (i : StationNo) (why : SawOutcome) :
    ((s.abortStation i why).station i).state ≠ .engaging := by
  unfold State.abortStation
  split
  case isTrue =>
    intro on
    have on := ((State.Eased.refl _).dropReservation (.station i)).engaging i on
    rw [State.station_modStation_same] at on
    exact absurd ((s.state_stationTo i .idle).symm.trans on) (by decide)
  case isFalse engaging => exact engaging

theorem State.not_running_windDown (s : State) (i : StationNo) : ((s.windDown i).station i).state ≠ .running := by
  unfold State.windDown
  split
  case isTrue =>
    rw [State.station_modStation_same]
    exact fun on => absurd ((s.state_stationTo i .windingDown).symm.trans on) (by decide)
  case isFalse running => exact running

theorem State.not_engaging_abortEngaging (s : State) (why : SawOutcome) (i : StationNo) :
    ((s.abortEngaging why).station i).state ≠ .engaging :=
  State.foldl_brings (P := fun _ => True) (Q := fun t => (t.station i).state ≠ .engaging)
    (fun t j => (State.Eased.refl t).abortStation j why) (fun _ _ _ => id) (fun _ _ e off on => off (e.engaging i on))
    (fun t _ => t.not_engaging_abortStation i why) (mem_allStations i) trivial

/-- With no station ENGAGING, every clutch is off once the RUNNING stations wind down. -/
theorem State.clutch_windEveryDown (s : State) (i : StationNo) (engaging : (s.station i).state ≠ .engaging) :
    (((s.eachStation fun j t => t.windDown j).station i).clutch) = false := by
  refine State.foldl_brings (P := fun t => (t.station i).state ≠ .engaging) (Q := fun t => (t.station i).clutch = false)
    (fun t j => (State.Eased.refl t).windDown j) (fun _ _ e off on => off (e.engaging i on))
    (fun _ _ e off => Bool.eq_false_of_not_eq_true fun on => by simp [e.clutch i on] at off)
    (fun t off => ?_) (mem_allStations i) engaging
  have still : ((t.windDown i).station i).state ≠ .engaging :=
    fun on => off (((State.Eased.refl t).windDown i).engaging i on)
  simp [Station.clutch, still, t.not_running_windDown i]

theorem State.not_supplied_shed (s : State) (k : ShedKind) (cause : ShedCause) (n : RecNo) :
    (s.shed k cause n).supplied n = false := by
  rw [State.supplied, State.shed, State.recState_shedWith]
  unfold State.shedOrOut
  split <;> rfl

/-- A shed of a record that is supplied, where a test that every DEFERRABLE one passes finds it. -/
theorem State.not_feedsDeferrable_shed {n : RecNo} {c : Prop} [Decidable c] (k : ShedKind) (cause : ShedCause)
    (found : s.feedsDeferrable n → c) : ¬ (if c then s.shed k cause n else s).feedsDeferrable n := by
  split
  case isTrue => exact fun ⟨on, _⟩ => by simp [s.not_supplied_shed k cause n] at on
  case isFalse out => exact fun on => out (found on)

theorem State.not_feedsDeferrable_waterShortShed (s : State) (n : RecNo) : ¬ s.waterShortShed.feedsDeferrable n := by
  refine fun on => ?_
  have on := ((State.Eased.refl _).abortEngaging .abortWaterShort).deferrable n on
  refine State.foldl_brings (P := fun _ => True) (Q := fun t => ¬ t.feedsDeferrable n)
    (fun t m => .ite _ ((State.Eased.refl t).shed .plain .waterShort m) (.refl t)) (fun _ _ _ => id)
    (fun _ _ e off on => off (e.deferrable n on)) (fun t _ => ?_) (List.mem_finRange n) trivial on
  exact t.not_feedsDeferrable_shed _ _ fun ⟨supplied, cls⟩ => by simp [supplied, cls]

theorem State.not_engaging_waterShortShed (s : State) (i : StationNo) :
    (s.waterShortShed.station i).state ≠ .engaging := by
  unfold State.waterShortShed
  exact State.not_engaging_abortEngaging _ _ i

theorem State.closed_plantShed (s : State) (o : OutletId) : (s.plantShed.outlet o).closed = false := by
  unfold State.plantShed
  refine Bool.eq_false_of_not_eq_true fun on => ?_
  have on := ((State.Eased.refl _).modSld _).closed o on
  simp [State.closed_openEveryOutlet] at on

/-! ### The entries -/

/-- No outlet is ordered closed and no clutch is on. -/
def State.dark (s : State) : Prop :=
  (∀ o : OutletId, (s.outlet o).closed = false) ∧ ∀ i : StationNo, (s.station i).clutch = false

theorem State.supplyLaw.dark (h : s.supplyLaw) (off : s.supplying = false) : s.dark := by
  obtain ⟨outlets, clutches, -⟩ := State.supplyLaw_iff.1 h
  exact ⟨fun o => Bool.eq_false_of_not_eq_true fun on => by simp [outlets o on] at off,
    fun i => Bool.eq_false_of_not_eq_true fun on => by simp [clutches i on] at off⟩

theorem State.supplyLaw_of_dark (dark : s.dark) (short : s.plant ≠ .waterShort)
    (tripped : s.plant = .tripped ↔ s.plantRecord.cause.isSome = true) (timers : s.wgc.timersLaw) : s.supplyLaw :=
  State.supplyLaw_iff.2 ⟨fun o on => by simp [dark.1 o] at on, fun i on => by simp [dark.2 i] at on, tripped, timers,
    fun ws => absurd ws short⟩

theorem State.supplyLaw_of_onLine (on : s.plant = .onLine) (cause : s.plantRecord.cause = none)
    (timers : s.wgc.timersLaw) : s.supplyLaw := by
  have supplying : s.supplying = true := by simp [State.supplying, on]
  exact State.supplyLaw_iff.2 ⟨fun _ _ => supplying, fun _ _ => supplying, by simp [on, cause], timers,
    fun ws => by simp [on] at ws⟩

/-- After an entry to RUN-DOWN or TRIPPED everything is off. -/
theorem State.dark_plantChanged (off : s.plant = .runDown ∨ s.plant = .tripped) : s.plantChanged.dark := by
  have start := (State.Eased.refl s).governorTakesPlant
  have opened : s.governorTakesPlant.ladderTakesPlant = s.governorTakesPlant.plantShed := by
    rw [State.ladderTakesPlant, start.plant]
    obtain e | e := off <;> rw [e]
  have tested := (State.Eased.refl s.governorTakesPlant.ladderTakesPlant).stepTest.collapseTests
  have wound (t : State) (plant : t.plant = s.plant) (i : StationNo) :
      (t.stationsTakePlant.station i).clutch = false := by
    rw [State.stationsTakePlant, plant]
    obtain e | e := off <;> rw [e] <;>
      exact State.clutch_windEveryDown _ i (State.not_engaging_abortEngaging _ _ i)
  have last (t : State) := (State.Eased.refl t).slipTest.promptEvaluation
  refine ⟨fun o => Bool.eq_false_of_not_eq_true fun on => ?_, fun i => Bool.eq_false_of_not_eq_true fun on => ?_⟩
  · have on := (tested.stationsTakePlant.trans (last _)).closed o on
    rw [opened, State.closed_plantShed] at on
    exact absurd on (by decide)
  · have on := (last _).clutch i on
    rw [wound _ ((start.ladderTakesPlant.trans tested).plant)] at on
    exact absurd on (by decide)

/-- An entry to RUN-DOWN or TRIPPED. -/
theorem State.Eased.supplyLaw_plantChanged (e : s.Eased t) (off : s.plant = .runDown ∨ s.plant = .tripped)
    (tripped : s.plant = .tripped ↔ s.plantRecord.cause.isSome = true) (timers : s.wgc.timersLaw) :
    t.plantChanged.supplyLaw := by
  have whole := e.plantChanged
  refine State.supplyLaw_of_dark (State.dark_plantChanged (by rwa [e.plant])) ?_ ?_ (whole.timers timers)
  · rw [whole.plant]
    obtain e | e := off <;> rw [e] <;> decide
  · rw [whole.plant, whole.cause]
    exact tripped

end PlantChanged

section Plant

variable {s t : State}

theorem State.supplyLaw.eased (h : s.supplyLaw) (e : s.Eased t) : t.supplyLaw := e.supplyLaw h

theorem State.supplyLaw.ite (c : Prop) [Decidable c] (ha : s.supplyLaw) (hb : t.supplyLaw) :
    (if c then s else t).supplyLaw := by
  split
  exacts [ha, hb]

theorem State.supplyLaw.timers (h : s.supplyLaw) : s.wgc.timersLaw := by
  obtain ⟨-, -, -, timers, -⟩ := State.supplyLaw_iff.1 h
  exact timers

theorem State.supplyLaw.cause (h : s.supplyLaw) (off : s.plant ≠ .tripped) : s.plantRecord.cause = none := by
  obtain ⟨-, -, tripped, -⟩ := State.supplyLaw_iff.1 h
  exact Option.not_isSome_iff_eq_none.1 (mt tripped.2 off)

theorem State.supplyLaw.trip (h : s.supplyLaw) (cause : TripCause) : (s.trip cause).supplyLaw := by
  have tripped (f : State → State) (e : ∀ u : State, u.Eased (f u)) :
      (f ((s.modPlantRecord fun r => { r with cause := some cause }).modWgc fun w =>
        { w.quiet with plant := .tripped, emergency := true, freqOver := none, shaftOver := none
          })).plantChanged.supplyLaw :=
    (e _).supplyLaw_plantChanged (.inr rfl) ⟨fun _ => rfl, fun _ => rfl⟩ ⟨nofun, nofun, nofun, nofun⟩
  unfold State.trip
  cases s.plant with
  | standstill => exact h
  | tripped => exact .ite _ (h.eased (State.Eased.refl s).startMove) h
  | runUp | onLine | waterShort | runDown =>
    exact tripped (fun u => (u.setTarget 0).latch .trip) fun u => ((State.Eased.refl u).setTarget 0).latch _

theorem State.supplyLaw.runDown (h : s.supplyLaw) : s.runDown.supplyLaw := by
  have down (off : s.plant ≠ .tripped) :
      (((s.modWgc fun w => { w.quiet with plant := .runDown }).setTarget 0).latch .runDown).plantChanged.supplyLaw := by
    refine ((((State.Eased.refl _).setTarget 0).latch .runDown)).supplyLaw_plantChanged (.inl rfl) ⟨nofun, fun on => ?_⟩
      ⟨nofun, nofun, nofun, nofun⟩
    rw [State.plantRecord, State.modWgc_nva, ← State.plantRecord, h.cause off] at on
    exact absurd on (by decide)
  unfold State.runDown
  cases plant : s.plant with
  | runUp | onLine | waterShort => exact down (by rw [plant]; decide)
  | standstill | runDown | tripped => exact h

/-- A change of plant state with everything off, to one that is not WATER-SHORT. -/
theorem State.supplyLaw_modWgc_of_dark (f : Wgc → Wgc) (dark : s.dark) (short : (f s.wgc).plant ≠ .waterShort)
    (tripped : (f s.wgc).plant ≠ .tripped) (cause : s.plantRecord.cause = none) (timers : (f s.wgc).timersLaw) :
    (s.modWgc f).supplyLaw :=
  State.supplyLaw_of_dark dark short
    ⟨fun on => absurd on tripped, fun on => by
      rw [State.plantRecord, State.modWgc_nva, ← State.plantRecord, cause] at on
      exact absurd on (by decide)⟩ timers

theorem State.supplying_eq_false (onLine : s.plant ≠ .onLine) (short : s.plant ≠ .waterShort) :
    s.supplying = false := by
  simp [State.supplying, onLine, short]

/-- No timer of one plant state runs. -/
structure Wgc.untimed (w : Wgc) : Prop where
  sync : w.sync = none
  runup : w.runup = none
  short : w.short = none
  recovery : w.recovery = none

theorem Wgc.timersLaw.idle {w : Wgc} (h : w.timersLaw) (up : w.plant ≠ .runUp) (on : w.plant ≠ .onLine)
    (ws : w.plant ≠ .waterShort) : w.untimed := by
  obtain ⟨sync, runup, short, recovery⟩ := h
  exact ⟨Option.not_isSome_iff_eq_none.1 (mt sync up), Option.not_isSome_iff_eq_none.1 (mt runup up),
    Option.not_isSome_iff_eq_none.1 (mt short on), Option.not_isSome_iff_eq_none.1 (mt recovery ws)⟩

theorem Wgc.untimed.timersLaw {w v : Wgc} (h : w.untimed) (sync : v.sync = w.sync) (runup : v.runup = w.runup)
    (short : v.short = w.short) (recovery : v.recovery = w.recovery) : v.timersLaw := by
  simp [Wgc.timersLaw, sync, runup, short, recovery, h.sync, h.runup, h.short, h.recovery]

theorem State.wgc_plant (s : State) : s.wgc.plant = s.plant := rfl

theorem State.supplyLaw.enterStandstill (h : s.supplyLaw) (down : s.plant = .runDown) :
    s.enterStandstill.supplyLaw := by
  have dark := h.dark (State.supplying_eq_false (by rw [down]; decide) (by rw [down]; decide))
  have idle := h.timers.idle (by simp [State.wgc_plant, down]) (by simp [State.wgc_plant, down])
    (by simp [State.wgc_plant, down])
  refine State.supplyLaw.eased ?_ (State.Eased.refl _).plantChanged
  exact State.supplyLaw_modWgc_of_dark _ dark (by simp) (by simp) (h.cause (by rw [down]; decide)) (idle.timersLaw rfl rfl
    rfl rfl)

theorem State.supplyLaw.clearTrip (h : s.supplyLaw) (tripped : s.plant = .tripped) : s.clearTrip.supplyLaw := by
  have dark := h.dark (State.supplying_eq_false (by rw [tripped]; decide) (by rw [tripped]; decide))
  have idle := h.timers.idle (by simp [State.wgc_plant, tripped]) (by simp [State.wgc_plant, tripped])
    (by simp [State.wgc_plant, tripped])
  have cleared : ((s.modPlantRecord fun r => { r with cause := none }).modWgc fun w =>
      { w with emergency := false, plant := .standstill, freqOver := none, shaftOver := none }).supplyLaw :=
    State.supplyLaw_modWgc_of_dark _ dark (by simp) (by simp) rfl (idle.timersLaw rfl rfl rfl rfl)
  exact cleared.eased (State.Eased.plantChanged (.ite _ (State.Eased.refl _).startMove (.refl _)))

theorem State.supplyLaw.enterRunUp (h : s.supplyLaw) (still : s.plant = .standstill) : s.enterRunUp.supplyLaw := by
  have dark := h.dark (State.supplying_eq_false (by rw [still]; decide) (by rw [still]; decide))
  obtain ⟨-, -, short, recovery⟩ := h.timers.idle (by simp [State.wgc_plant, still]) (by simp [State.wgc_plant, still])
    (by simp [State.wgc_plant, still])
  have entered : (s.modWgc fun w => { w with
      plant := .runUp, emergency := false, runup := some (seconds s.set.runupTime), sync := none }).supplyLaw :=
    State.supplyLaw_modWgc_of_dark _ dark (by simp) (by simp) (h.cause (by rw [still]; decide))
      ⟨fun _ => rfl, fun _ => rfl, by simp [short], by simp [recovery]⟩
  have moved := entered.eased ((State.Eased.refl _).setTarget (min s.set.runupGate s.set.gateCeiling)).plantChanged
  exact .ite _ (moved.trip _) moved

theorem State.supplyLaw.goOnLine (h : s.supplyLaw) (up : s.plant = .runUp) : s.goOnLine.supplyLaw := by
  obtain ⟨-, -, short, recovery⟩ := h.timers
  have entered : (s.modWgc fun w => { w with
      plant := .onLine, sync := none, runup := none, level := some s.levelInterval, waste := true }).supplyLaw :=
    State.supplyLaw_of_onLine rfl (h.cause (by rw [up]; decide)) ⟨nofun, nofun, fun _ => rfl, fun on =>
      absurd ((recovery on).symm.trans up) (by decide)⟩
  exact entered.eased (State.Eased.refl _).shortTest.plantChanged

theorem State.supplyLaw.leaveWaterShort (h : s.supplyLaw) (ws : s.plant = .waterShort) :
    s.leaveWaterShort.supplyLaw := by
  obtain ⟨sync, runup, -, -⟩ := h.timers
  have entered : (s.modWgc fun w => { w with plant := .onLine, recovery := none }).supplyLaw :=
    State.supplyLaw_of_onLine rfl (h.cause (by rw [ws]; decide)) ⟨fun on =>
      absurd ((sync on).symm.trans ws) (by decide), fun on => absurd ((runup on).symm.trans ws) (by decide),
      fun _ => rfl, nofun⟩
  exact entered.eased ((State.Eased.refl _).latch .waterShort).shortTest.plantChanged

/-- After the entry to WATER-SHORT no station engages and no DEFERRABLE record is supplied. -/
theorem State.shed_plantChanged (ws : s.plant = .waterShort) :
    (∀ i, (s.plantChanged.station i).state ≠ .engaging) ∧ ∀ n, ¬ s.plantChanged.feedsDeferrable n := by
  have taken : s.governorTakesPlant.ladderTakesPlant = s.governorTakesPlant.waterShortShed := by
    rw [State.ladderTakesPlant, (State.Eased.refl s).governorTakesPlant.plant, ws]
  have tested := (State.Eased.refl s.governorTakesPlant.ladderTakesPlant).stepTest.collapseTests
  have rest := tested.stationsTakePlant.slipTest.promptEvaluation
  refine ⟨fun i on => ?_, fun n on => ?_⟩
  · have on := rest.engaging i on
    rw [taken] at on
    exact State.not_engaging_waterShortShed _ i on
  · have on := rest.deferrable n on
    rw [taken] at on
    exact State.not_feedsDeferrable_waterShortShed _ n on

theorem State.supplyLaw.enterWaterShort (h : s.supplyLaw) (on : s.plant = .onLine) : s.enterWaterShort.supplyLaw := by
  obtain ⟨sync, runup, -, -⟩ := h.timers
  have entered := ((State.Eased.refl (s.modWgc fun w => { w with plant := .waterShort, short := none })).latch
    .waterShort).plantChanged
  unfold State.enterWaterShort
  have ws : (s.modWgc fun w => { w with plant := .waterShort, short := none }).supplying = true := rfl
  have supplying := (State.supplying_congr entered.plant).trans ws
  refine State.supplyLaw_iff.2 ⟨fun _ _ => supplying, fun _ _ => supplying, ?_, ?_, ?_⟩
  · rw [entered.plant, entered.cause, State.plantRecord, State.modWgc_nva, ← State.plantRecord,
      h.cause (by rw [on]; decide)]
    exact ⟨nofun, nofun⟩
  · exact entered.timers ⟨fun some => absurd ((sync some).symm.trans on) (by decide),
      fun some => absurd ((runup some).symm.trans on) (by decide), nofun, fun _ => rfl⟩
  · exact fun _ => State.shed_plantChanged rfl

end Plant

/-! ## What takes the plant from one state to another -/

section Water

variable {s t : State}

theorem State.supplyLaw.restTest (h : s.supplyLaw) : s.restTest.supplyLaw := by
  unfold State.restTest
  split
  case isTrue rests =>
    simp only [Bool.and_eq_true, decide_eq_true_eq] at rests
    obtain ⟨⟨down, -⟩, -⟩ := rests
    exact h.enterStandstill down
  case isFalse => exact h

theorem State.supplyLaw.reverseTest (h : s.supplyLaw) : s.reverseTest.supplyLaw := .ite _ (h.trip _) h

theorem State.supplyLaw.rackCheck (h : s.supplyLaw) : s.rackCheck.supplyLaw := by
  unfold State.rackCheck
  split
  case h_1 =>
    have latched (c : Prop) [Decidable c] := State.Eased.ite c ((State.Eased.refl s).latch .rackAlarm) (.refl s)
    have alarmed (c : Prop) [Decidable c] (d : Int) (high : Bool) :=
      h.eased ((latched c).modWgc (fun w => { w with rackDiff := some d, rackAlarm := high }) rfl id)
    exact .ite _ (alarmed _ _ _).runDown (alarmed _ _ _)
  case h_2 => exact h

theorem State.supplyLaw.headCheck (h : s.supplyLaw) : s.headCheck.supplyLaw := by
  unfold State.headCheck
  split
  case h_1 level tail _ _ =>
    have shown := h.eased ((State.Eased.refl s).modWgc (fun w => { w with netHead := some (level - tail) }) rfl id)
    exact .ite _ shown.runDown shown
  case h_2 => exact h

theorem State.supplyLaw.levelReading (h : s.supplyLaw) (v : Int) : (s.levelReading v).supplyLaw := by
  have start := h.eased ((State.Eased.refl s).modWgc (fun w => { w with levelLost := none }) rfl id)
  have head := State.supplyLaw.headCheck (.ite (v < s.set.stopLevel) start.runDown start)
  have returned (u : State) (hu : u.supplyLaw) (c : Prop) [Decidable c] :
      (if u.plant = .waterShort ∧ c then u.leaveWaterShort else u).supplyLaw := by
    split
    case isTrue ws => exact hu.leaveWaterShort ws.1
    case isFalse => exact hu
  have evaluated (u : State) : u.Eased ((if u.wgc.evalPending then u.levelEvaluation v else u).shortTest) :=
    State.Eased.shortTest (.ite _ ((State.Eased.refl u).levelEvaluation v) (.refl u))
  exact (returned _ head _).eased (evaluated _)

theorem State.supplyLaw.waterReading (h : s.supplyLaw) (c : ChannelNo) (v : Int) (fromSlot2 : Bool) :
    (s.waterReading c v fromSlot2).supplyLaw := by
  unfold State.waterReading
  split
  · exact h.levelReading v
  · exact h.rackCheck
  · exact h.headCheck
  · exact (h.eased ((State.Eased.refl s).gateReading v fromSlot2)).restTest
  · exact h

theorem State.supplyLaw.levelLostExpiry (h : s.supplyLaw) : s.levelLostExpiry.supplyLaw :=
  (h.eased (((State.Eased.refl s).modWgc (fun w => { w with levelLost := none }) rfl id).latch _)).runDown

/-- A trip after a change of the controller's registers. -/
theorem State.supplyLaw.modWgc_trip (h : s.supplyLaw) (f : Wgc → Wgc) (cause : TripCause)
    (plant : (f s.wgc).plant = s.wgc.plant) (timers : s.wgc.timersLaw → (f s.wgc).timersLaw) :
    ((s.modWgc f).trip cause).supplyLaw := (h.eased ((State.Eased.refl s).modWgc f plant timers)).trip cause

end Water

/-! ## The governor, the frequency and the sequencer -/

section Frequency

variable {s : State}

theorem State.supplyLaw.holdExpiry (h : s.supplyLaw) : s.holdExpiry.supplyLaw := by
  unfold State.holdExpiry
  cases s.plant with
  | runUp | onLine | waterShort => exact (h.eased ((State.Eased.refl s).modBgv _)).trip _
  | runDown | tripped => exact (h.eased (State.Eased.refl s).governorInactive).restTest
  | standstill => exact h

theorem State.supplyLaw.frequencyLost (h : s.supplyLaw) : s.frequencyLost.supplyLaw := by
  have tested := (((State.Eased.refl s).modFsu fun u => { u with freqValid := false }).governorLosesFrequency).stepTest.collapseTests
  have collapsed (u : State) : u.Eased (if u.plant = .onLine then u.collapseFirst else u).dipTest.waterTakesFrequency.slipTest :=
    (State.Eased.ite _ (State.Eased.refl u).collapseFirst (.refl u)).dipTest.waterTakesFrequency.slipTest
  have law := h.eased (tested.trans (collapsed _))
  unfold State.frequencyLost
  exact .ite _ law law.restTest

theorem State.supplyLaw.reject (h : s.supplyLaw) : s.reject.supplyLaw :=
  have counted := h.eased ((State.Eased.refl s).modFsu fun u => { u with rejections := min 3 (u.rejections + 1) })
  .ite _ counted.frequencyLost counted

theorem State.supplyLaw.periodEvent (h : s.supplyLaw) (p : Nat) : (s.periodEvent p).supplyLaw := by
  have computed := ((State.Eased.refl s).modFsu fun u =>
    { u with freq := frequencyOf p, freqValid := true, rejections := 0 }).governorPeriod
  have stepped (u : State) : u.Eased (if s.fsu.freqValid then u else u.stepTest).collapseTests.dipTest.waterTakesFrequency :=
    (State.Eased.ite _ (.refl u) (State.Eased.refl u).stepTest).collapseTests.dipTest.waterTakesFrequency
  have slipped (u : State) : u.Eased (if s.fsu.freqValid then u else u.slipTest) :=
    .ite _ (.refl u) (State.Eased.refl u).slipTest
  have law := h.eased ((computed.trans (stepped _)).trans (slipped _))
  unfold State.periodEvent
  exact .ite _ law law.restTest

theorem State.supplyLaw.modFsu (h : s.supplyLaw) (f : Fsu → Fsu) : (s.modFsu f).supplyLaw :=
  h.eased ((State.Eased.refl s).modFsu f)

theorem State.supplyLaw.judgeCapture (h : s.supplyLaw) (c : BitVec 32) : (s.judgeCapture c).supplyLaw := by
  unfold State.judgeCapture
  split
  · exact h.modFsu _
  · exact .ite _ (h.modFsu _).reject (.ite _ ((h.modFsu _).periodEvent _) (h.modFsu _).reject)

theorem State.supplyLaw.crossing (h : s.supplyLaw) (c : BitVec 32) : (s.crossing c).supplyLaw :=
  .ite _ h (State.supplyLaw.judgeCapture (h.eased ((State.Eased.refl s).modFsu _).switchingInstant) c)

theorem State.supplyLaw.gapExpiry (h : s.supplyLaw) : s.gapExpiry.supplyLaw := (h.modFsu _).reject

theorem State.supplyLaw.shaftValidityChanged (h : s.supplyLaw) : s.shaftValidityChanged.supplyLaw :=
  (h.eased (State.Eased.refl s).slipTest.shaftOverTest).restTest

theorem State.supplyLaw.goodRevolution (h : s.supplyLaw) : s.goodRevolution.supplyLaw :=
  have counted := h.modFsu fun u => { u with goodRun := min 3 (u.goodRun + 1), badRun := 0 }
  .ite _ (counted.modFsu _).shaftValidityChanged counted

theorem State.supplyLaw.badRevolution (h : s.supplyLaw) : s.badRevolution.supplyLaw :=
  have counted := h.modFsu fun u => { u with badRun := min 3 (u.badRun + 1), goodRun := 0 }
  .ite _ ((counted.modFsu _).eased ((State.Eased.refl _).latch _)).shaftValidityChanged counted

theorem State.supplyLaw.lostIndexTest (h : s.supplyLaw) : s.lostIndexTest.supplyLaw :=
  have cleared := h.modFsu fun u => { u with revolution := 0 }
  .ite _ (.ite _ cleared.badRevolution cleared) h

theorem State.supplyLaw.shaftPulse (h : s.supplyLaw) (trackB : Bool) : (s.shaftPulse trackB).supplyLaw :=
  State.supplyLaw.lostIndexTest (.ite _ (h.modFsu _) (h.modFsu _))

theorem State.supplyLaw.indexEdge (h : s.supplyLaw) : s.indexEdge.supplyLaw :=
  have armed := h.modFsu fun u => { u with revolution := 0, armed := true }
  .ite _ (.ite _ armed.goodRevolution armed.badRevolution) armed

theorem State.supplyLaw.windowEnd (h : s.supplyLaw) : s.windowEnd.supplyLaw := by
  have stations := ((State.Eased.refl s).modFsu fun u => u.endWindow s.set).slipTest.eachStation
    fun i u => (State.Eased.refl u).stationWindow i
  exact ((h.eased stations).reverseTest.eased (State.Eased.refl _).shaftOverTest).restTest

theorem State.supplyLaw.raiseAlarm (h : s.supplyLaw) (c : ChannelNo) : (s.raiseAlarm c).supplyLaw := by
  have window := (State.Eased.refl s).latch .window |>.modSvl fun v =>
    { v with windowSet := v.windowSet ||| BitVec.twoPow 16 c.val }
  have law := h.eased window
  unfold State.raiseAlarm
  dsimp only
  split
  · exact law.trip _
  · exact law.trip _
  · exact h.eased (window.latch _)
  · exact h.eased (window.latch _)
  · exact law

theorem State.supplyLaw.watchWindow (h : s.supplyLaw) (c : ChannelNo) (v : Int) : (s.watchWindow c v).supplyLaw := by
  have watched : s.Eased (s.modReading c fun x => x.watch s.set.count[c] (s.outsideWindow c v)) :=
    (State.Eased.refl s).modMsq _
  exact .ite _ ((h.eased watched).raiseAlarm c) (h.eased watched)

theorem State.supplyLaw.handOn (h : s.supplyLaw) (c : ChannelNo) (v : Int) (src : Source) :
    (s.handOn c v src).supplyLaw := by
  unfold State.handOn
  refine State.supplyLaw.waterReading ?_ c v _
  split
  · split
    · exact h.eased ((State.Eased.refl s).judgeStage _ v)
    · exact h
  · exact h.eased ((State.Eased.refl s).judgeVoltage v)
  · exact h

theorem State.supplyLaw.takeReading (h : s.supplyLaw) (c : ChannelNo) (raw : Nat) (src : Source) :
    (s.takeReading c raw src).supplyLaw :=
  ((h.eased ((State.Eased.refl s).enterReading c raw _ src)).watchWindow c _).handOn c _ src

theorem State.supplyLaw.modMsq (h : s.supplyLaw) (f : Msq → Msq) : (s.modMsq f).supplyLaw :=
  h.eased ((State.Eased.refl s).modMsq f)

theorem State.supplyLaw.completeConversion (h : s.supplyLaw) (raw : BitVec 12) :
    (s.completeConversion raw).supplyLaw := by
  unfold State.completeConversion
  split
  · exact ((h.modMsq _).takeReading _ _ _).modMsq _
  · exact h

theorem State.supplyLaw.calibrate (h : s.supplyLaw) (raw : BitVec 12) : (s.calibrate raw).supplyLaw :=
  .ite _ (.ite _ (((h.modMsq _).takeReading _ _ _).modMsq _)
    (.ite _ (h.eased (((State.Eased.refl s).modMsq _).latch _)) (h.eased (((State.Eased.refl s).modMsq _).latch _)))) h

end Frequency

/-! ## Grants -/

section Grants

variable {s : State}

theorem State.claimsRecord_of_head {n : RecNo} (e : s.head = some (.allotment n)) : s.claimsRecord n = true := by
  have mem := State.mem_of_mostImportant e
  simp only [State.claims, List.mem_append, List.mem_map, List.mem_filter, Holder.allotment.injEq, reduceCtorEq,
    and_false, exists_false, or_false, exists_eq_right] at mem
  exact mem.2

theorem State.claimsStation_of_head {i : StationNo} (e : s.head = some (.station i)) : s.claimsStation i = true := by
  have mem := State.mem_of_mostImportant e
  simp only [State.claims, List.mem_append, List.mem_map, List.mem_filter, reduceCtorEq, and_false, exists_false,
    false_or, Holder.station.injEq, exists_eq_right] at mem
  exact mem.2

theorem State.allows_of_claimsRecord {n : RecNo} (e : s.claimsRecord n = true) :
    ∃ c, (s.terms n).cls = some c ∧ s.plant.allows c = true := by
  simp only [State.claimsRecord, Bool.and_eq_true] at e
  cases cls : (s.terms n).cls with
  | none => simp [cls] at e
  | some c => exact ⟨c, rfl, by simpa [cls] using e.2⟩

/-- A plant state that lets a class claim supplies it; in WATER-SHORT that class is not DEFERRABLE (R89). -/
theorem PlantState.eq_of_allows {p : PlantState} {c : AllotClass} (h : p.allows c = true) :
    p = .onLine ∨ p = .waterShort ∧ c ≠ .deferrable := by
  cases p with
  | onLine => exact .inl rfl
  | waterShort =>
    refine .inr ⟨rfl, ?_⟩
    rintro rfl
    cases h
  | standstill | runUp | runDown | tripped => cases h

theorem State.supplyLaw.modTerms (h : s.supplyLaw) (n : RecNo) (f : Terms → Terms)
    (own : s.plant = .waterShort → ¬ (s.modTerms n f).feedsDeferrable n) : (s.modTerms n f).supplyLaw := by
  obtain ⟨outlets, clutches, tripped, timers, short⟩ := State.supplyLaw_iff.1 h
  refine State.supplyLaw_iff.2 ⟨outlets, clutches, tripped, timers, fun ws => ⟨(short ws).1, fun m => ?_⟩⟩
  by_cases e : m = n
  · exact e ▸ own ws
  · rw [State.feedsDeferrable_iff, State.terms_modTerms, if_neg e, ← State.feedsDeferrable_iff]
    exact (short ws).2 m

theorem State.supplyLaw.closeOutlet (h : s.supplyLaw) (o : OutletId) (essential : Bool) (on : s.supplying = true) :
    (s.closeOutlet o essential).supplyLaw := by
  obtain ⟨-, clutches, tripped, timers, short⟩ := State.supplyLaw_iff.1 h
  exact State.supplyLaw_iff.2 ⟨fun _ _ => on, clutches, tripped, timers, short⟩

theorem State.supplyLaw.beginRestoration (h : s.supplyLaw) {n : RecNo} {c : AllotClass}
    (cls : (s.terms n).cls = some c) (allowed : s.plant.allows c = true) : (s.beginRestoration n).supplyLaw := by
  have left := (State.Eased.refl s).leave n
  have supplying : (s.leave n).supplying = true := by
    rw [State.supplying_congr left.plant, State.supplying]
    obtain e | ⟨e, -⟩ := PlantState.eq_of_allows allowed <;> rw [e] <;> rfl
  have restoring : ((s.leave n).modTerms n fun x => { x with state := .restoring }).supplyLaw := by
    refine (h.eased left).modTerms n _ fun ws => ?_
    rw [State.feedsDeferrable_iff, State.terms_modTerms, if_pos rfl,
      State.terms_congr (congrArg Nva.slots (State.leave_keeps n s).1)]
    rintro ⟨-, deferrable⟩
    obtain rfl := Option.some_inj.1 (cls.symm.trans deferrable)
    rw [left.plant] at ws
    rw [ws] at allowed
    cases allowed
  have watched (u : State) : u.Eased ((u.modSld fun l => { l with watch := l.watch ++ [⟨n, 0⟩] }).triggerVoltage) :=
    ((State.Eased.refl u).modSld _).modMsq _
  unfold State.beginRestoration
  refine State.supplyLaw.eased ?_ (watched _)
  split
  · exact restoring.closeOutlet _ _ supplying
  · exact restoring

theorem State.supplyLaw.beginEngagement (h : s.supplyLaw) (i : StationNo) (on : s.plant = .onLine) :
    (s.beginEngagement i).supplyLaw := by
  have kept : (s.beginEngagement i).nva = s.nva ∧ (s.beginEngagement i).wgc = s.wgc := by simp
  obtain ⟨nva, wgc⟩ := kept
  refine State.supplyLaw_of_onLine ?_ ?_ ?_
  · rw [State.plant, wgc]
    exact on
  · rw [State.plantRecord, nva]
    exact h.cause (by rw [on]; decide)
  · rw [wgc]
    exact h.timers

theorem State.supplyLaw.grant (h : s.supplyLaw) {x : Holder} (e : s.head = some x) : (s.grant x).supplyLaw := by
  have entered (f : Rsv → Rsv) : (s.modRsv f).supplyLaw := h.eased ((State.Eased.refl s).modRsv f)
  cases x with
  | allotment n =>
    obtain ⟨c, cls, allowed⟩ := State.allows_of_claimsRecord (State.claimsRecord_of_head e)
    exact (entered _).beginRestoration cls allowed
  | station i =>
    have claims := State.claimsStation_of_head e
    simp only [State.claimsStation, Bool.and_eq_true, decide_eq_true_eq] at claims
    exact (entered _).beginEngagement i claims.2

theorem State.Eased.readForList {r : State} (h : r.Eased s) : r.Eased s.readForList := by
  unfold State.readForList
  exact h.readEach _

theorem State.supplyLaw.evaluate (h : s.supplyLaw) : s.evaluate.supplyLaw := by
  have listed := h.eased (State.Eased.refl s).readForList
  unfold State.evaluate
  dsimp only
  split
  case h_1 x e => exact .ite _ (listed.grant e) listed
  case h_2 => exact listed

theorem State.supplyLaw.settleWith (h : s.supplyLaw) (fuel : Nat) : (s.settleWith fuel).supplyLaw := by
  induction fuel generalizing s with
  | zero => exact h
  | succ fuel ih =>
    unfold State.settleWith
    exact .ite _ (ih (h.eased ((State.Eased.refl s).modRsv _)).evaluate) h

theorem State.supplyLaw.settle (h : s.supplyLaw) : s.settle.supplyLaw := h.settleWith 10

end Grants

/-! ## The round end -/

section RoundEnd

variable {s t : State}

/-- The law but for the records: what stands between a change of their classes and the sheds that follow it. -/
def State.supplyLawBut (s : State) : Prop :=
  (∀ o : OutletId, (s.outlet o).closed = true → s.supplying = true) ∧
  (∀ i : StationNo, (s.station i).clutch = true → s.supplying = true) ∧
  (s.plant = .tripped ↔ s.plantRecord.cause.isSome = true) ∧ s.wgc.timersLaw ∧
  (s.plant = .waterShort → ∀ i : StationNo, (s.station i).state ≠ .engaging)

theorem State.supplyLaw_iff_but :
    s.supplyLaw ↔ s.supplyLawBut ∧ (s.plant = .waterShort → ∀ n : RecNo, ¬ s.feedsDeferrable n) := by
  rw [State.supplyLaw_iff, State.supplyLawBut]
  simp only [imp_and, and_assoc]

/-- A change with no new load restores the law where it leaves no DEFERRABLE record supplied in WATER-SHORT. -/
theorem State.Eased.supplyLaw_of_but (e : s.Eased t) (h : s.supplyLawBut)
    (shed : t.plant = .waterShort → ∀ n, ¬ t.feedsDeferrable n) : t.supplyLaw := by
  obtain ⟨outlets, clutches, tripped, timers, short⟩ := h
  rw [← State.supplying_congr e.plant] at outlets clutches
  rw [← e.plant, ← e.cause] at tripped
  exact State.supplyLaw_iff_but.2 ⟨⟨fun o on => outlets o (e.closed o on), fun i on => clutches i (e.clutch i on), tripped,
    e.timers timers, fun ws i on => short (e.plant.symm.trans ws) i (e.engaging i on)⟩, shed⟩

theorem State.StagedBelow.supplyLawBut (b : s.StagedBelow 64 t) (h : s.supplyLaw) : t.supplyLawBut := by
  have closed (o : OutletId) : (t.outlet o).closed = (s.outlet o).closed :=
    (congrArg Outlet.closed (b.orders o false) :)
  obtain ⟨⟨outlets, clutches, tripped, timers, short⟩, -⟩ := State.supplyLaw_iff_but.1 h
  obtain ⟨_, _, _, _, _, _, _, rfl⟩ := b.frame
  exact ⟨fun o on => outlets o ((closed o).symm.trans on), clutches, tripped, timers, short⟩

/-- The staged sets bring a DEFERRABLE record on the supply by a class that turns DEFERRABLE alone (R116). -/
theorem State.StagedBelow.feedsDeferrable (b : s.StagedBelow 64 t) {n : RecNo} (on : t.feedsDeferrable n) :
    s.feedsDeferrable n ∨ (s.terms n).turnsDeferrable = true := by
  rw [State.feedsDeferrable_iff] at on ⊢
  by_cases vacant : s.recState n = .vacant
  · have same : t.terms n = s.terms n := congrArg (fun x : Slot => x.terms.value) (b.vacant n vacant)
    rw [same] at on
    exact .inl on
  · rw [b.terms n n.isLt vacant] at on
    obtain ⟨supplied, cls⟩ := on
    have trusted : (s.terms n).state ≠ .suspect := by
      rintro suspect
      simp [Terms.unstaged, suspect] at supplied
    rw [Terms.unstaged_of_trusted trusted] at supplied cls
    by_cases was : (s.terms n).cls = some .deferrable
    · exact .inl ⟨supplied, was⟩
    · right
      cases staged : (s.terms n).stagedClass with
      | none => exact absurd (by simpa [Terms.applyStaged, staged] using cls) was
      | some c =>
        have turned : c = .deferrable := by simpa [Terms.applyStaged, staged] using cls
        simp [Terms.turnsDeferrable, trusted, staged, turned, was]

theorem State.supplyLaw.stagedRoundEnd (h : s.supplyLaw) : s.stagedRoundEnd.supplyLaw := by
  have below := s.stagedBelow_eachRecord
  have but := below.supplyLawBut h
  have plant : (s.eachRecord State.applyStaged).plant = s.plant := by
    obtain ⟨_, _, _, _, _, _, _, e⟩ := below.frame
    rw [e]
    rfl
  rw [State.stagedRoundEnd_eq]
  unfold State.shedTurned
  split
  case isTrue ws =>
    have step (t : State) (n : RecNo) : t.Eased (t.shedOne n) :=
      .ite _ ((State.Eased.refl t).shed .plain .waterShort n) (.refl t)
    have shed := (State.Eased.refl (s.eachRecord State.applyStaged)).foldl step
      (allRecords.filter fun n => (s.terms n).turnsDeferrable)
    refine shed.supplyLaw_of_but but fun _ n on => ?_
    obtain was | turned := below.feedsDeferrable (shed.deferrable n on)
    · exact (State.supplyLaw_iff_but.1 h).2 (plant.symm.trans ws) n was
    · refine State.foldl_brings (P := fun _ => True) (Q := fun t => ¬ t.feedsDeferrable n) step (fun _ _ _ => id)
        (fun _ _ e off on => off (e.deferrable n on)) (fun t _ => ?_)
        (List.mem_filter.2 ⟨List.mem_finRange n, turned⟩) trivial on
      exact t.not_feedsDeferrable_shed _ _ fun ⟨supplied, _⟩ => supplied
  case isFalse off => exact State.supplyLaw_iff_but.2 ⟨but, fun ws => absurd ws off⟩

theorem State.supplyLaw.roundEnd (h : s.supplyLaw) : s.roundEnd.supplyLaw := by
  have idle := (State.Eased.refl s).modFcl (fun l => { l with phase := .idle, pollList := [], toPoll := [] }) rfl
  have nodes := idle.foldl (fun t a => (State.Eased.refl t).nodeRoundEnd a) s.fcl.pollList
  have fresh := nodes.foldl (fun t a => (State.Eased.refl t).clearFresh a) allNodes
  unfold State.roundEnd State.refill
  exact (h.eased fresh).stagedRoundEnd.eased ((State.Eased.refl _).countRounds.modRsv _)

theorem State.supplyLaw.nextFrame (h : s.supplyLaw) : s.nextFrame.supplyLaw := by
  unfold State.nextFrame
  split
  · exact h.eased ((State.Eased.refl s).modFcl _ rfl)
  · split
    · exact h.roundEnd
    · split
      · exact h.eased ((State.Eased.refl s).modFcl _ rfl)
      · exact h.roundEnd

theorem State.supplyLaw.modFcl (h : s.supplyLaw) (f : Fcl → Fcl) (same : (f s.fcl).outlets = s.fcl.outlets) :
    (s.modFcl f).supplyLaw := h.eased ((State.Eased.refl s).modFcl f same)

theorem State.supplyLaw.roundExpiry (h : s.supplyLaw) : s.roundExpiry.supplyLaw := by
  have timed := h.modFcl (fun l => { l with roundTimer := some (millis s.set.roundPeriod) }) rfl
  unfold State.roundExpiry State.startRound
  exact .ite _ (timed.modFcl _ rfl).nextFrame timed

theorem State.supplyLaw.endSlot (h : s.supplyLaw) : s.endSlot.supplyLaw := h.settle.nextFrame

end RoundEnd

/-! ## The requests -/

/-- An owner whose answer gives the supply no new load. -/
def Owner.eases (owner : Owner) : Prop := ∀ s : State, s.Eased (owner s).1

/-- An owner that keeps the law. -/
def Owner.keepsSupplyLaw (owner : Owner) : Prop := ∀ s : State, s.supplyLaw → (owner s).1.supplyLaw

theorem Owner.eases.keepsSupplyLaw {owner : Owner} (h : owner.eases) : owner.keepsSupplyLaw := fun s law => law.eased (h s)

section Requests

variable {r s : State}

theorem eases_refuse (st : Status) : (refuse st).eases := fun s => .refl s

theorem eases_of_same {owner : Owner} (e : ∀ s, (owner s).1 = s) : owner.eases := fun s => by
  rw [e s]
  exact .refl s

theorem eases_onRecord (number : Byte) {act : RecNo → Owner} (step : ∀ n, (act n).eases) :
    (onRecord number act).eases := fun s => by
  unfold onRecord
  dsimp only
  split
  case h_1 => exact .refl s
  case h_2 n _ =>
    have read := (State.Eased.refl s).readRecord n
    split
    · exact read
    · exact read.trans (step n _)

theorem eases_allotCreate (holder : Half) (node outlet cls rank : Byte) (cap quota : Half) :
    (allotCreate holder node outlet cls rank cap quota).eases := fun s => by
  unfold allotCreate
  dsimp only
  split
  case h_2 => exact .refl s
  case h_1 o c _ _ =>
    split
    · split
      · exact .refl s
      · have bound := (State.Eased.refl s).readBinding o
        split
        · exact bound
        · exact ((bound.setSlot _ _ (by simp [newTerms]) (by simp [newTerms])).modWork _ _).setBinding o _
    · exact .refl s

theorem State.Eased.moveOutlet (h : r.Eased s) (n : RecNo) (o : OutletId) : r.Eased (s.moveOutlet n o) :=
  (((h.unbind n).setBinding o _).modTerms_same n _ rfl rfl).modWork n _

theorem State.Eased.amendRecord (h : r.Eased s) (n : RecNo) (m : Amendment) : r.Eased (s.amendRecord n m) := by
  have moved (t : State) (ht : r.Eased t) : r.Eased (match m.move (s.outletOf n) with
      | some o => t.moveOutlet n o
      | none => t) := by
    split
    · exact ht.moveOutlet n _
    · exact ht
  unfold State.amendRecord
  by_cases suspect : s.recState n = .suspect
  · simp only [suspect, if_true]
    exact moved _ (h.modTerms_off n _ (by simp [Amendment.rewrite]) (by simp [Amendment.rewrite]))
  · simp only [suspect, if_false]
    exact (moved _ (h.modTerms_same n m.amend rfl rfl)).quotaTest n

theorem State.Eased.readMove (h : r.Eased s) (n : RecNo) (m : Amendment) : r.Eased (s.readMove n m) := by
  have placed := h.readPlace n
  unfold State.readMove
  dsimp only
  split
  · exact .ite _ (placed.readBinding _) placed
  · exact placed

theorem eases_allotAmend (number presence : Byte) (holder cap quota : Half) (cls rank node outlet : Byte) :
    (allotAmend number presence holder cap quota cls rank node outlet).eases := by
  unfold allotAmend
  split
  · refine eases_onRecord number fun n s => ?_
    have read := (State.Eased.refl s).readMove n (amendment presence holder cap quota cls rank node outlet)
    dsimp only
    split
    · exact .refl s
    · split
      · exact read
      · exact read.amendRecord n _
  · exact eases_refuse _

theorem eases_allotActivate (number : Byte) : (allotActivate number).eases :=
  eases_onRecord number fun n s => by
    have same := State.Eased.refl s
    split
    · exact .ite _ (same.become n _ (by decide) (by decide)) ((same.modAccount n _).become n _ (by decide) (by decide))
    · exact same

theorem State.Eased.suspendRecord (h : r.Eased s) (n : RecNo) : r.Eased (s.suspendRecord n) := by
  unfold State.suspendRecord
  exact ((h.become n .dormant (by decide) (by decide)).modAccount n _).modWork n _

theorem eases_allotSuspend (number : Byte) : (allotSuspend number).eases :=
  eases_onRecord number fun n s => by
    split
    · exact (State.Eased.refl s).suspendRecord n
    · exact .refl s

theorem State.Eased.retireRecord (h : r.Eased s) (n : RecNo) : r.Eased (s.retireRecord n) := by
  have vacated := (h.openRecord n).vacate n
  unfold State.retireRecord
  cases s.recState n with
  | vacant | retiring => exact h
  | live | restoring => exact .ite _ (h.become n _ (by decide) (by decide)) vacated
  | dormant | shed | tripped | quotaOut | suspect => exact vacated

theorem eases_allotRetire (number : Byte) : (allotRetire number).eases :=
  eases_onRecord number fun n s => ((State.Eased.refl s).readPlace n).retireRecord n

theorem eases_tripClear (number : Byte) : (tripClear number).eases :=
  eases_onRecord number fun n s => by
    split
    · exact (State.Eased.refl s).enterShed n
    · exact .refl s

theorem eases_allotLookup (number : Byte) : (allotLookup number).eases :=
  eases_onRecord number fun n s => (State.Eased.refl s).readPlace n

theorem State.Eased.readFrom (h : r.Eased s) (n : RecNo) : r.Eased (s.readFrom n) := by
  unfold State.readFrom
  exact h.readEach _

theorem eases_allotFind (key : Byte) (tag : Half) (start node outlet : Byte) :
    (allotFind key tag start node outlet).eases := fun s => by
  unfold allotFind
  dsimp only
  split
  · split
    · exact (State.Eased.refl s).readFrom _
    · exact .refl s
  · split
    · exact (State.Eased.refl s).readBinding _
    · exact .refl s
  · exact .refl s

theorem eases_allotList (state start : Byte) : (allotList state start).eases := fun s => by
  unfold allotList
  dsimp only
  split
  · exact (State.Eased.refl s).readFrom _
  · exact .refl s

theorem State.Eased.turnRecord (h : r.Eased s) (n : RecNo) : r.Eased (s.turnRecord n) :=
  have cleared := h.modAccount n fun a => { a with today := 0, recent := 0 }
  .ite _ h (.ite _ (cleared.become n .shed (by decide) (by decide)) cleared)

theorem eases_dayTurn : dayTurn.eases := fun s => by
  dsimp only [dayTurn]
  exact (State.Eased.refl s).eachRecord fun n t =>
    .ite _ (((State.Eased.refl t).readRecord n).turnRecord n) (.refl t)

theorem keepsSupplyLaw_plantStart : plantStart.keepsSupplyLaw := fun s h => by
  unfold plantStart
  split
  case isTrue allowed =>
    simp only [State.startAllowed, Bool.and_eq_true, decide_eq_true_eq] at allowed
    obtain ⟨⟨⟨⟨still, -⟩, -⟩, -⟩, -⟩ := allowed
    exact h.enterRunUp still
  case isFalse => exact h

theorem keepsSupplyLaw_plantStop : plantStop.keepsSupplyLaw := fun s h => by
  unfold plantStop
  cases s.plant with
  | runUp | onLine | waterShort => exact h.runDown
  | runDown | standstill | tripped => exact h

theorem keepsSupplyLaw_plantClear : plantClear.keepsSupplyLaw := fun s h => by
  unfold plantClear
  split
  case isTrue cleared =>
    simp only [Bool.and_eq_true, decide_eq_true_eq] at cleared
    obtain ⟨⟨tripped, -⟩, -⟩ := cleared
    exact h.clearTrip tripped
  case isFalse => exact h

theorem eases_sawClear (station : Byte) : (sawClear station).eases := fun s => by
  unfold sawClear
  split
  · exact .refl s
  · split
    · exact (State.Eased.refl s).releaseStation _
    · exact .refl s

theorem eases_nodeGet (node : Byte) : (nodeGet node).eases := fun s => by
  unfold nodeGet
  split
  · exact .refl s
  · dsimp only
    exact ((State.Eased.refl s).foldl (fun t o => (State.Eased.refl t).readBinding o) (outletsOf _)).modNode _ _

theorem eases_readingsGet : readingsGet.eases := fun s =>
  .ite _ ((State.Eased.refl s).frame ⟨rfl, rfl, rfl, rfl, rfl⟩) (.refl s)

theorem State.Eased.triggerSample (h : r.Eased s) (c : ChannelNo) : r.Eased (s.triggerSample c) := by
  unfold State.triggerSample
  exact h.modMsq _

theorem eases_sampleNow (channel : Byte) : (sampleNow channel).eases := fun s => by
  unfold sampleNow
  split
  · exact .refl s
  · cases s.msq.state with
    | calibrating | failed => exact .refl s
    | running =>
      dsimp only
      split
      · exact .refl s
      · exact (State.Eased.refl s).triggerSample _

theorem eases_stageRetest (stage : Byte) : (stageRetest stage).eases := fun s => by
  unfold stageRetest
  split
  · exact .refl s
  · split
    · dsimp only
      exact (State.Eased.refl s).modBgv _
    · exact .refl s

theorem eases_reserveGet : reserveGet.eases := fun s => by
  dsimp only [reserveGet]
  exact (State.Eased.refl s).readForList

theorem State.Eased.clearRuns (h : r.Eased s) (c : ChannelNo) : r.Eased (s.clearRuns c) := by
  unfold State.clearRuns
  exact h.modMsq _

theorem State.Eased.settingChanged (h : r.Eased s) (c : Cell) : r.Eased (s.settingChanged c) := by
  unfold State.settingChanged
  split
  · exact .ite _ (h.changeTarget _) h
  · exact (h.modFsu _).modFsu _
  · exact h.modFsu _
  · exact h.modFsu _
  · exact h.clearRuns _
  · exact h.clearRuns _
  · exact h.clearRuns _
  · exact h

theorem eases_putCell (c : Cell) (v : Int) : (putCell c v).eases := fun s => by
  have written : s.Eased (s.writeCell c v) :=
    have put := (State.Eased.refl s).modSvl fun x => { x with settings := c.put v x.settings, unstored := true }
    .ite _ put (put.settingChanged c)
  unfold putCell
  (repeat' split)
  case isFalse => exact written
  all_goals exact .refl s

theorem eases_putRoutine (entries : List Byte) : (putRoutine entries).eases := fun s => by
  unfold putRoutine
  split
  · exact .refl s
  · split
    · split
      · exact .ite _ ((State.Eased.refl s).modSvl _) (((State.Eased.refl s).modSvl _).modMsq _)
      · exact .refl s
    · exact .refl s

theorem eases_settingGet (id index : Byte) : (settingGet id index).eases := fun s => by
  unfold settingGet
  (repeat' split) <;> exact .refl s

theorem eases_settingPut (id index : Byte) (rest : List Byte) : (settingPut id index rest).eases := by
  unfold settingPut
  split
  · split
    · split
      · exact eases_putRoutine _
      · exact eases_refuse _
    · exact eases_refuse _
  · split
    · exact eases_putCell _ _
    · exact eases_refuse _

theorem eases_settingsStore : settingsStore.eases := fun s => by
  unfold settingsStore
  split
  · dsimp only
    exact (State.Eased.refl s).modSvl _
  · exact .refl s

theorem eases_statusGet (acknowledge : Byte) : (statusGet acknowledge).eases := fun s => by
  unfold statusGet
  split
  · exact .refl s
  · dsimp only [State.clearFlags]
    exact (State.Eased.refl s).modSvl _
  · exact .refl s

theorem eases_restart : restart.eases := fun s => by
  dsimp only [restart]
  exact (State.Eased.refl s).modSvl _

/-- Every owner of a request that a frame can name keeps the law. -/
theorem keepsSupplyLaw_ownerOf (k : Kind) (payload : List Byte) : (ownerOf k payload).keepsSupplyLaw :=
  ownerOf_induction (P := Owner.keepsSupplyLaw)
    (refused := (eases_refuse _).keepsSupplyLaw)
    (allotCreate := fun _ _ _ _ _ _ _ _ _ _ => (eases_allotCreate _ _ _ _ _ _ _).keepsSupplyLaw)
    (allotAmend := fun _ _ _ _ _ _ _ _ _ _ _ _ => (eases_allotAmend _ _ _ _ _ _ _ _ _).keepsSupplyLaw)
    (allotActivate := fun n => (eases_allotActivate n).keepsSupplyLaw)
    (allotSuspend := fun n => (eases_allotSuspend n).keepsSupplyLaw)
    (allotRetire := fun n => (eases_allotRetire n).keepsSupplyLaw)
    (allotLookup := fun n => (eases_allotLookup n).keepsSupplyLaw)
    (allotFind := fun _ _ _ _ _ _ => (eases_allotFind _ _ _ _ _).keepsSupplyLaw)
    (allotList := fun state start => (eases_allotList state start).keepsSupplyLaw)
    (tripClear := fun n => (eases_tripClear n).keepsSupplyLaw)
    (dayTurn := eases_dayTurn.keepsSupplyLaw)
    (settingGet := fun id index => (eases_settingGet id index).keepsSupplyLaw)
    (settingPut := fun id index rest => (eases_settingPut id index rest).keepsSupplyLaw)
    (settingsStore := eases_settingsStore.keepsSupplyLaw)
    (statusGet := fun ack => (eases_statusGet ack).keepsSupplyLaw)
    (restart := eases_restart.keepsSupplyLaw)
    (plantStart := keepsSupplyLaw_plantStart)
    (plantStop := keepsSupplyLaw_plantStop)
    (plantClear := keepsSupplyLaw_plantClear)
    (plantGet := (eases_of_same fun _ => rfl).keepsSupplyLaw)
    (sawClear := fun i => (eases_sawClear i).keepsSupplyLaw)
    (sawGet := (eases_of_same fun _ => rfl).keepsSupplyLaw)
    (nodeGet := fun a => (eases_nodeGet a).keepsSupplyLaw)
    (readingsGet := eases_readingsGet.keepsSupplyLaw)
    (sampleNow := fun c => (eases_sampleNow c).keepsSupplyLaw)
    (governorGet := (eases_of_same fun _ => rfl).keepsSupplyLaw)
    (stageRetest := fun g => (eases_stageRetest g).keepsSupplyLaw)
    (reserveGet := eases_reserveGet.keepsSupplyLaw) k payload

theorem keepsSupplyLaw_dispatch (kind : Byte) (payload : List Byte) : (dispatch kind payload).keepsSupplyLaw := by
  unfold dispatch
  split
  · exact (eases_refuse _).keepsSupplyLaw
  · split
    · exact keepsSupplyLaw_ownerOf _ _
    · exact (eases_refuse _).keepsSupplyLaw

theorem State.supplyLaw.modSvl (h : s.supplyLaw) (f : Svl → Svl) : (s.modSvl f).supplyLaw :=
  h.eased ((State.Eased.refl s).modSvl f)

theorem State.supplyLaw.serve (h : s.supplyLaw) (kind : Byte) {owner : Owner} (ho : owner.keepsSupplyLaw) :
    (s.serve kind owner).supplyLaw := .ite _ h (.ite _ (h.modSvl _) ((ho s h).modSvl _).settle)

end Requests

/-! ## Resets and time -/

section Resets

variable {r s : State}

theorem Wgc.plant_reset (tripped : Bool) :
    (Wgc.reset tripped).plant ≠ .waterShort ∧ ((Wgc.reset tripped).plant = .tripped ↔ tripped = true) := by
  cases tripped <;> decide

theorem State.dark_resetBlocks (s : State) : s.resetBlocks.dark := by
  refine ⟨fun o => ?_, fun i => ?_⟩
  · simp [State.outlet, State.resetBlocks, Fcl.reset]
  · simp only [State.station, State.resetBlocks, Fin.getElem_fin, Vector.getElem_ofFn, Station.clutch, Station.reset]
    split <;> rfl

theorem State.supplyLaw_resetBlocks (s : State) : s.resetBlocks.supplyLaw :=
  State.supplyLaw_of_dark s.dark_resetBlocks (Wgc.plant_reset _).1 (Wgc.plant_reset _).2 ⟨nofun, nofun, nofun, nofun⟩

theorem State.Eased.resetState (h : r.Eased s) (n : RecNo) : r.Eased (s.resetState n) := by
  unfold State.resetState
  cases s.recState n with
  | live | restoring =>
    exact .ite _ (h.modTerms_off n _ (by simp) (by simp)) ((h.modTerms_off n _ (by simp) (by simp)).modAccount n _)
  | retiring => exact h.vacate n
  | vacant | dormant | shed | tripped | quotaOut | suspect => exact h

/-- A reset may give a supplied record another class before it takes the record off, which asks for a plant not in
WATER-SHORT. -/
theorem State.supplyLaw.resetRecord (h : s.supplyLaw) (short : s.plant ≠ .waterShort) (n : RecNo) :
    (s.resetRecord n).supplyLaw ∧ (s.resetRecord n).plant ≠ .waterShort := by
  have staged : (s.resetStaged n).supplyLaw ∧ (s.resetStaged n).plant = s.plant := by
    unfold State.resetStaged
    split
    · split
      · exact ⟨h.modTerms n _ fun ws => absurd ws short, rfl⟩
      · exact ⟨h.modTerms n _ fun ws => absurd ws short, rfl⟩
    · exact ⟨h, rfl⟩
  have off : (s.resetStaged n).Eased (s.resetRecord n) := by
    unfold State.resetRecord State.resetWork
    exact ((State.Eased.refl _).resetState n).modWork n _
  exact ⟨staged.1.eased off, by rwa [off.plant, staged.2]⟩

theorem State.supplyLaw_resetAll (s : State) : s.resetAll.supplyLaw := by
  have rewritten (t : State) (h : t.supplyLaw) (short : t.plant ≠ .waterShort) :
      (t.startUpScan.eachRecord State.resetRecord).supplyLaw := by
    have scan : t.Eased t.startUpScan := by
      unfold State.startUpScan
      exact (State.Eased.refl t).readEach _
    exact (State.eachRecord_inv (fun u => u.supplyLaw ∧ u.plant ≠ .waterShort) _
      (fun n u hu => hu.1.resetRecord hu.2 n) _ ⟨h.eased scan, by rwa [scan.plant]⟩).1
  unfold State.resetAll
  exact (rewritten _ (State.supplyLaw_resetBlocks _) (Wgc.plant_reset _).1).eased ((State.Eased.refl _).modRsv _)

theorem Timer.isSome_pass (n : Nat) (t : Timer) : (t.pass n).isSome = t.isSome := by cases t <;> rfl

theorem State.Eased.advance (h : r.Eased s) (n : Nat) : r.Eased (s.advance n) := by
  have nva : (s.advance n).nva = s.nva := by simp only [State.advance]
  have outlets : (s.advance n).fcl.outlets = s.fcl.outlets := by simp only [State.advance]
  have plant : (s.advance n).wgc.plant = s.wgc.plant := by simp only [State.advance, Wgc.pass]
  have state (i : StationNo) : ((s.advance n).station i).state = (s.station i).state := by
    simp [State.advance, State.station, Station.pass]
  refine h.trans ⟨?_, ?_, fun timers => ?_, fun o => ?_, fun i => ?_, fun i => ?_, fun m => ?_⟩
  · exact plant
  · rw [State.plantRecord, nva, State.plantRecord]
  · simpa only [Wgc.timersLaw, State.advance, Wgc.pass, Timer.isSome_pass] using timers
  · rw [State.outlet_congr outlets]
    exact id
  · simp only [Station.clutch, state]
    exact id
  · rw [state]
    exact id
  · rw [State.feedsDeferrable_iff, State.terms_congr (congrArg Nva.slots nva), ← State.feedsDeferrable_iff]
    exact id

end Resets

/-! ## The Service Link -/

section Link

variable {s : State}

theorem State.supplyLaw.frameComplete (h : s.supplyLaw) (bytes : List Byte) : (s.frameComplete bytes).supplyLaw := by
  unfold State.frameComplete
  dsimp only
  split
  · exact .ite _ (h.serve _ (keepsSupplyLaw_dispatch _ _)) h
  · exact h

theorem State.supplyLaw.collect (h : s.supplyLaw) (b : Byte) : (s.collect b).supplyLaw := by
  unfold State.collect
  split
  · exact .ite _ (h.modSvl _) (h.modSvl _)
  · exact .ite _ (State.supplyLaw.frameComplete (h.modSvl _) _) (h.modSvl _)

theorem State.supplyLaw.linkByte (h : s.supplyLaw) (b : Byte) (stopOk : Bool) : (s.linkByte b stopOk).supplyLaw := by
  unfold State.linkByte
  split
  · exact .ite _ (h.modSvl _) h
  · exact .ite _ (h.collect b) (h.modSvl _)

theorem State.supplyLaw.replyEnds (h : s.supplyLaw) : s.replyEnds.supplyLaw :=
  .ite _ (.ite _ (State.supplyLaw_resetAll _) (h.modSvl _)) ((h.modSvl _).modSvl _)

theorem State.supplyLaw.storeEnds (h : s.supplyLaw) (fixed : Settings) : (s.storeEnds fixed).supplyLaw := by
  have stored : s.Eased (s.storeComplete fixed) :=
    State.Eased.modSvl (s := s.modNva fun v => { v with page := pageSeal (pageEncode fixed) })
      ((State.Eased.refl s).frame ⟨rfl, rfl, rfl, rfl, rfl⟩) _
  exact .ite _ (State.supplyLaw_resetAll _) (h.eased stored)

end Link

/-! ## Every command -/

section Commands

variable {s t : State}

/-- What a command may do to the law: whatever state it leaves has the law. -/
def leavesSupplyLaw (r : Host.Outcome State Fault Refusal) : Prop := ∀ t, r = .next t → t.supplyLaw

theorem leavesSupplyLaw_next (h : t.supplyLaw) : leavesSupplyLaw (.next t) := by
  rintro _ ⟨⟩
  exact h

theorem State.supplyLaw.unlessHeld (h : s.supplyLaw) {f : State → State} (hf : (f s).supplyLaw) :
    leavesSupplyLaw (unlessHeld f s) := leavesSupplyLaw_next (.ite _ h hf)

/-- An event that acts under a condition, and gives the supply no new load. -/
theorem State.supplyLaw.unlessHeld_eased (h : s.supplyLaw) {f : State → State} (e : s.Eased (f s)) :
    leavesSupplyLaw (Machine.unlessHeld f s) := h.unlessHeld (h.eased e)

theorem State.supplyLaw.request (h : s.supplyLaw) (k : Kind) {owner : Owner} (ho : owner.keepsSupplyLaw) :
    leavesSupplyLaw (request k owner s) := h.unlessHeld (h.serve _ ho)

theorem State.supplyLaw.request_eased (h : s.supplyLaw) (k : Kind) {owner : Owner} (ho : owner.eases) :
    leavesSupplyLaw (Machine.request k owner s) := h.request k ho.keepsSupplyLaw

theorem eases_settingPutChecked (id index : Byte) (rest : List Byte) : (settingPutChecked id index rest).eases := by
  unfold settingPutChecked
  split
  · exact eases_settingPut _ _ _
  · exact eases_refuse _

/-- An event that acts under a condition, with the evaluations that follow it. -/
theorem State.supplyLaw.settle_if (h : s.supplyLaw) {c : Prop} [Decidable c] (ht : t.supplyLaw) :
    (if c then t.settle else s).supplyLaw := .ite _ ht.settle h

theorem State.supplyLaw.settle_eased_if (h : s.supplyLaw) {c : Prop} [Decidable c] (e : s.Eased t) :
    (if c then t.settle else s).supplyLaw := h.settle_if (h.eased e)

theorem State.supplyLaw.storeCompletion (h : s.supplyLaw) : leavesSupplyLaw (execSettingsStoreComplete s) := by
  refine h.unlessHeld ?_
  split
  · exact h.storeEnds _
  · exact h

theorem State.supplyLaw.turnaroundEnd (h : s.supplyLaw) : leavesSupplyLaw (execLineTurnaroundEnd s) := by
  refine h.unlessHeld ?_
  split
  · exact h.modFcl _ rfl
  · exact h

theorem State.supplyLaw.frameSent (h : s.supplyLaw) : leavesSupplyLaw (execFrameSent s) := by
  refine h.unlessHeld ?_
  split
  · exact h.modFcl _ rfl
  · exact h

theorem State.supplyLaw.replyBegins (h : s.supplyLaw) : leavesSupplyLaw (execReplyBegins s) := by
  refine h.unlessHeld ?_
  split
  · exact h.modFcl _ rfl
  · exact h

theorem State.supplyLaw.windowExpiry (h : s.supplyLaw) : leavesSupplyLaw (execReplyWindowExpiry s) := by
  refine h.unlessHeld ?_
  split
  · exact h.nextFrame.settle
  · exact h

theorem State.supplyLaw.replyReceived (h : s.supplyLaw) (chars : List LineChar) :
    leavesSupplyLaw (execReplyReceived chars s) := by
  refine h.unlessHeld ?_
  split
  · exact (h.eased ((State.Eased.refl s).receiveReply _ _ chars)).endSlot.settle
  · exact h

theorem State.supplyLaw.receptionTimeout (h : s.supplyLaw) : leavesSupplyLaw (execReceptionTimeout s) := by
  refine h.unlessHeld ?_
  split
  · exact (h.modFcl _ rfl).endSlot.settle
  · exact h

theorem State.supplyLaw.setHeld (h : s.supplyLaw) (b : Bool) : ({ s with held := b } : State).supplyLaw :=
  h.eased ((State.Eased.refl s).frame ⟨rfl, rfl, rfl, rfl, rfl⟩)

theorem State.supplyLaw.startUp (h : s.supplyLaw) : s.startUp.supplyLaw :=
  h.eased (State.Eased.modFcl (((State.Eased.refl s).modSvl _).latch _) _ rfl)

theorem State.supplyLaw.refusalShowExpiry (h : s.supplyLaw) (i : StationNo) :
    leavesSupplyLaw (execRefusalShowExpiry i s) :=
  h.unlessHeld_eased ((State.Eased.refl s).modStation_same i _ rfl)

/-- Every command keeps the supply law, whatever it carries. -/
theorem State.supplyLaw.exec (h : s.supplyLaw) (i : Instr) : leavesSupplyLaw (exec i s) := by
  have same := State.Eased.refl s
  obtain ⟨sync, -, short, recovery⟩ := h.timers
  cases i with
  | allotCreate => exact h.request_eased _ (eases_allotCreate _ _ _ _ _ _ _)
  | allotAmend => exact h.request_eased _ (eases_allotAmend _ _ _ _ _ _ _ _ _)
  | allotActivate => exact h.request_eased _ (eases_allotActivate _)
  | allotSuspend => exact h.request_eased _ (eases_allotSuspend _)
  | allotRetire => exact h.request_eased _ (eases_allotRetire _)
  | allotLookup => exact h.request_eased _ (eases_allotLookup _)
  | allotFind => exact h.request_eased _ (eases_allotFind _ _ _ _ _)
  | allotList => exact h.request_eased _ (eases_allotList _ _)
  | tripClear => exact h.request_eased _ (eases_tripClear _)
  | dayTurn => exact h.request_eased _ eases_dayTurn
  | plantStart => exact h.request _ keepsSupplyLaw_plantStart
  | plantStop => exact h.request _ keepsSupplyLaw_plantStop
  | plantClear => exact h.request _ keepsSupplyLaw_plantClear
  | plantGet => exact h.request_eased _ (eases_of_same fun _ => rfl)
  | sawClear => exact h.request_eased _ (eases_sawClear _)
  | sawGet => exact h.request_eased _ (eases_of_same fun _ => rfl)
  | nodeGet => exact h.request_eased _ (eases_nodeGet _)
  | readingsGet => exact h.request_eased _ eases_readingsGet
  | sampleNow => exact h.request_eased _ (eases_sampleNow _)
  | governorGet => exact h.request_eased _ (eases_of_same fun _ => rfl)
  | stageRetest => exact h.request_eased _ (eases_stageRetest _)
  | reserveGet => exact h.request_eased _ eases_reserveGet
  | settingGet => exact h.request_eased _ (eases_settingGet _ _)
  | settingPut => exact h.request_eased _ (eases_settingPutChecked _ _ _)
  | settingsStore => exact h.request_eased _ eases_settingsStore
  | statusGet => exact h.request_eased _ (eases_statusGet _)
  | restart => exact h.request_eased _ eases_restart
  | serviceLinkByte =>
    unfold Machine.exec execServiceLinkByte
    exact h.unlessHeld (h.linkByte _ _)
  | serviceGapTimerExpiry => exact h.unlessHeld_eased (.ite _ (same.modSvl _) same)
  | replySent =>
    unfold Machine.exec execReplySent
    exact h.unlessHeld (.ite _ h.replyEnds h)
  | settingsStoreComplete => exact h.storeCompletion
  | powerOnReset => exact leavesSupplyLaw_next (State.supplyLaw_resetAll _)
  | pinReset => exact leavesSupplyLaw_next (State.supplyLaw_resetAll _)
  | startUpComplete =>
    unfold Machine.exec execStartUpComplete
    exact h.unlessHeld (.ite _ h h.startUp)
  | roundTimerExpiry =>
    unfold Machine.exec execRoundTimerExpiry
    exact h.unlessHeld (h.settle_if h.roundExpiry)
  | lineTurnaroundEnd => exact h.turnaroundEnd
  | frameSent => exact h.frameSent
  | replyBegins => exact h.replyBegins
  | replyWindowExpiry => exact h.windowExpiry
  | replyReceived => exact h.replyReceived _
  | receptionTimeout => exact h.receptionTimeout
  | crossingEdge =>
    unfold Machine.exec execCrossingEdge
    exact h.unlessHeld ((h.eased (same.advance _)).crossing _).settle
  | gapTimerExpiry =>
    unfold Machine.exec execGapTimerExpiry
    exact h.unlessHeld (h.settle_if h.gapExpiry)
  | holdTimerExpiry =>
    unfold Machine.exec execHoldTimerExpiry
    exact h.unlessHeld (h.settle_if h.holdExpiry)
  | shaftPulse =>
    unfold Machine.exec execShaftPulse
    exact h.unlessHeld (h.shaftPulse _).settle
  | indexEdge =>
    unfold Machine.exec execIndexEdge
    exact h.unlessHeld h.indexEdge.settle
  | arborPulse => exact h.unlessHeld_eased (same.modFsu _)
  | speedWindowEnd =>
    unfold Machine.exec execSpeedWindowEnd
    exact h.unlessHeld (h.settle_if h.windowEnd)
  | slipTimerExpiry => exact h.unlessHeld_eased (.ite _ ((same.modFsu _).latch _) same)
  | stepTimerExpiry =>
    unfold Machine.exec execStepTimerExpiry
    exact h.unlessHeld (h.settle_eased_if same.stepExpiry)
  | stepPauseExpiry =>
    unfold Machine.exec execStepPauseExpiry
    exact h.unlessHeld (h.settle_eased_if (same.modSld _).promptEvaluation)
  | firstCollapseTimerExpiry =>
    unfold Machine.exec execFirstCollapseTimerExpiry
    exact h.unlessHeld (h.settle_eased_if (same.collapseFirst.modSld _))
  | secondCollapseTimerExpiry =>
    unfold Machine.exec execSecondCollapseTimerExpiry
    exact h.unlessHeld (h.settle_eased_if (same.collapseSecond.modSld _))
  | holdoffExpiry =>
    unfold Machine.exec execHoldoffExpiry
    exact h.unlessHeld (h.settle_eased_if (same.modWork _ _).promptEvaluation)
  | liveTimerFull => exact h.unlessHeld_eased (.ite _ ((same.modWork _ _).modAccount _ _) same)
  | cooloffExpiry => exact h.unlessHeld_eased (.ite _ (same.modWork _ _) same)
  | inputLevelChange => exact leavesSupplyLaw_next (h.eased (.ite _ (same.inputRaw _ _ _) (same.inputChange _ _ _)))
  | inputFilterExpiry =>
    unfold Machine.exec execInputFilterExpiry
    exact h.unlessHeld (h.settle_eased_if (same.filterExpiry _ _))
  | waitTimerExpiry =>
    unfold Machine.exec execWaitTimerExpiry
    exact h.unlessHeld (h.settle_eased_if (same.waitExpiry _))
  | engageTimerExpiry =>
    unfold Machine.exec execEngageTimerExpiry
    exact h.unlessHeld (h.settle_eased_if (same.abortStation _ _))
  | dipTimerExpiry =>
    unfold Machine.exec execDipTimerExpiry
    exact h.unlessHeld (h.settle_eased_if (same.abortStation _ _))
  | jamTimerExpiry =>
    unfold Machine.exec execJamTimerExpiry
    exact h.unlessHeld (h.settle_eased_if (same.jamExpiry _))
  | refusalShowExpiry => exact h.refusalShowExpiry _
  | conversionComplete =>
    unfold Machine.exec execConversionComplete
    exact h.unlessHeld (h.completeConversion _).settle
  | scanTimerExpiry => exact h.unlessHeld_eased (.ite _ (same.modMsq _) same)
  | freshnessTimerExpiry => exact h.unlessHeld_eased (.ite _ (same.freshnessExpiry _) same)
  | calibrationComplete =>
    unfold Machine.exec execCalibrationComplete
    exact h.unlessHeld (h.calibrate _).settle
  | synchronisingTimerExpiry =>
    refine h.unlessHeld ?_
    split
    case isTrue runs => exact (h.goOnLine (sync runs)).settle
    case isFalse => exact h
  | runupTimerExpiry =>
    unfold Machine.exec execRunupTimerExpiry
    exact h.unlessHeld (h.settle_if (h.modWgc_trip _ _ rfl fun
      ⟨sync, _, short, recovery⟩ => ⟨sync, nofun, short, recovery⟩))
  | shortTimerExpiry =>
    refine h.unlessHeld ?_
    split
    case isTrue runs => exact (h.enterWaterShort (short runs)).settle
    case isFalse => exact h
  | recoveryTimerExpiry =>
    refine h.unlessHeld ?_
    split
    case isTrue runs => exact (h.leaveWaterShort (recovery runs)).settle
    case isFalse => exact h
  | levelTimerExpiry => exact h.unlessHeld_eased (.ite _ (same.modWgc _ rfl id) same)
  | levelLostTimerExpiry =>
    unfold Machine.exec execLevelLostTimerExpiry
    exact h.unlessHeld (h.settle_if h.levelLostExpiry)
  | frequencyOverspeedExpiry =>
    unfold Machine.exec execFrequencyOverspeedExpiry
    exact h.unlessHeld (h.settle_if (h.modWgc_trip _ _ rfl id))
  | shaftOverspeedExpiry =>
    unfold Machine.exec execShaftOverspeedExpiry
    exact h.unlessHeld (h.settle_if (h.modWgc_trip _ _ rfl id))
  | gateTimeoutExpiry =>
    unfold Machine.exec execGateTimeoutExpiry
    exact h.unlessHeld (h.settle_if (h.modWgc_trip _ _ rfl id))
  | gateStepPulse => exact h.unlessHeld_eased (.ite _ (same.modWgc _ rfl id) same)
  | resetPinAsserted => exact leavesSupplyLaw_next (h.setHeld true)

theorem State.supplyLaw.step (h : s.supplyLaw) : leavesSupplyLaw (Machine.step s) := by
  unfold Machine.step
  split
  · exact leavesSupplyLaw_next (.ite _ h (h.eased ((State.Eased.refl s).advance 1)))
  next c rest _ =>
    have taken : ({ s with pending := rest } : State).supplyLaw :=
      h.eased ((State.Eased.refl s).frame ⟨rfl, rfl, rfl, rfl, rfl⟩)
    exact taken.exec c

end Commands

/-- Settles O56: every command keeps the supply law by itself; the reservation law that the statement grants is not
needed. -/
theorem supplyLawIsKept : Obligations.SupplyLawIsKept := fun _ t _ h e => h.step t e

end Sys2Proof.Machine

namespace Sys2Proof.Machine

/-! # The rounds and replies of the Feeder Chain (R34 to R41) -/

/-! ## The frames of a round -/

section Rounds

variable {s : State} {a b : NodeNo} {call : Bool} {left : Nat} {rest : List NodeNo}

theorem nextNode_eq_add_one (a : NodeNo) : nextNode a = a + 1 := by
  revert a
  decide

/-- The pointer's own address is the first of those at or after it. -/
theorem Fcl.nextAbsent_of_absent {l : Fcl} (h : l.nodes[l.callPointer].state = .absent) :
    l.nextAbsent = some l.callPointer := by
  have first : ∀ p : NodeNo, (allNodes.filter fun a => p ≤ a).head? = some p := by decide
  obtain ⟨tail, e⟩ := List.head?_eq_some_iff.1 (first l.callPointer)
  rw [Fcl.nextAbsent, e, List.cons_append, List.find?_cons_of_pos (by simpa using h)]

theorem State.nextFrame_of_poll (h : s.fcl.toPoll = b :: rest) :
    s.nextFrame = s.modFcl fun l => { l with toPoll := rest, phase := .turnaround b false turnaround } := by
  unfold State.nextFrame
  rw [h]

/-- With nobody left to poll, the first ABSENT address at the pointer is called (R37). -/
theorem State.nextFrame_of_call (drained : s.fcl.toPoll = []) (uncalled : s.fcl.callDone = false)
    (absent : s.fcl.nodes[s.fcl.callPointer].state = .absent) :
    s.nextFrame = s.modFcl fun l => { l with
      callDone := true, callPointer := s.fcl.callPointer + 1,
      phase := .turnaround s.fcl.callPointer true turnaround } := by
  unfold State.nextFrame
  rw [drained, uncalled, Fcl.nextAbsent_of_absent absent, ← nextNode_eq_add_one]
  rfl

/-- A node at the start of a round. -/
def Node.unreplied (x : Node) : Node := { x with replied := false }

/-- The chain as a round starts with it (R36). -/
def Fcl.started (l : Fcl) : Fcl :=
  let list := allNodes.filter fun a => l.nodes[a].polled
  { l with nodes := l.nodes.map Node.unreplied, pollList := list, toPoll := list, callDone := false }

theorem Fcl.state_unreplied (l : Fcl) (a : NodeNo) : (l.nodes.map Node.unreplied)[a].state = l.nodes[a].state := by
  simp [Node.unreplied]

theorem State.startRound_eq (s : State) : s.startRound = (s.modFcl Fcl.started).nextFrame := by
  have polled (l : Fcl) (a : NodeNo) : (l.nodes.map Node.unreplied)[a].polled = l.nodes[a].polled := by
    rw [Node.polled, l.state_unreplied]
    rfl
  have started : s.startRound = (s.modFcl fun l => { l with
      nodes := l.nodes.map Node.unreplied
      pollList := allNodes.filter fun a => (l.nodes.map Node.unreplied)[a].polled
      toPoll := allNodes.filter fun a => (l.nodes.map Node.unreplied)[a].polled
      callDone := false }).nextFrame := rfl
  simp only [started, polled]
  rfl

theorem State.polled_eq (s : State) : (allNodes.filter fun a => s.fcl.nodes[a].polled) =
    (List.finRange 16).filter fun a => s.fcl.nodes[a].state != .absent := by
  have polled (x : Node) : x.polled = (x.state != .absent) := by
    unfold Node.polled
    cases x.state <;> rfl
  simp only [polled]
  rfl

/-- The round timer restarts at its expiry (R35). -/
def State.timed (s : State) : State := s.modFcl fun l => { l with roundTimer := some (millis s.set.roundPeriod) }

theorem exec_roundTimerExpiry (released : s.held = false) (runs : s.fcl.roundTimer.isSome = true) :
    exec .roundTimerExpiry s = .next s.roundExpiry.settle :=
  (unlessHeld_of_released _ released).trans (congrArg _ (if_pos runs))

theorem State.roundExpiry_of_round (h : s.fcl.phase ≠ .idle) : s.roundExpiry = s.timed := if_neg h

theorem State.roundExpiry_of_idle (h : s.fcl.phase = .idle) :
    s.roundExpiry = (s.timed.modFcl Fcl.started).nextFrame := by
  rw [← State.startRound_eq]
  exact if_pos h

/-- A round that polls somebody starts with the first on the list (R36). -/
theorem State.roundExpiry_of_polled (idle : s.fcl.phase = .idle)
    (polled : (allNodes.filter fun k => s.fcl.nodes[k].polled) = b :: rest) :
    s.roundExpiry = s.modFcl fun l => { l with
      nodes := l.nodes.map Node.unreplied
      roundTimer := some (millis s.set.roundPeriod)
      pollList := b :: rest
      toPoll := rest
      callDone := false
      phase := .turnaround b false turnaround } := by
  have started : (s.timed.modFcl Fcl.started).fcl = { s.timed.fcl with
      nodes := s.fcl.nodes.map Node.unreplied, pollList := b :: rest, toPoll := b :: rest, callDone := false } := by
    rw [← polled]
    rfl
  rw [State.roundExpiry_of_idle idle, State.nextFrame_of_poll (b := b) (rest := rest) (by rw [started])]
  unfold State.modFcl at started ⊢
  rw [started]
  rfl

/-- A round with nobody to poll starts with its call (R37). -/
theorem State.roundExpiry_of_unpolled (idle : s.fcl.phase = .idle)
    (polled : (allNodes.filter fun k => s.fcl.nodes[k].polled) = []) :
    s.roundExpiry = s.modFcl fun l => { l with
      nodes := l.nodes.map Node.unreplied
      roundTimer := some (millis s.set.roundPeriod)
      pollList := []
      toPoll := []
      callDone := true
      callPointer := s.fcl.callPointer + 1
      phase := .turnaround s.fcl.callPointer true turnaround } := by
  have started : (s.timed.modFcl Fcl.started).fcl = { s.timed.fcl with
      nodes := s.fcl.nodes.map Node.unreplied, pollList := [], toPoll := [], callDone := false } := by
    rw [← polled]
    rfl
  have absent : s.fcl.nodes[s.fcl.callPointer].state = .absent := by
    have out := List.filter_eq_nil_iff.1 polled s.fcl.callPointer (List.mem_finRange _)
    simpa [Node.polled] using out
  have called := State.nextFrame_of_call (s := s.timed.modFcl Fcl.started) (by rw [started]) (by rw [started])
    ((s.fcl.state_unreplied _).trans absent)
  rw [State.roundExpiry_of_idle idle, called, started]
  unfold State.modFcl at started ⊢
  rw [started]
  rfl

theorem exec_lineTurnaroundEnd (released : s.held = false) (phase : s.fcl.phase = .turnaround a call left) :
    exec .lineTurnaroundEnd s = .next (s.sendFrame a call) := by
  show execLineTurnaroundEnd s = _
  rw [execLineTurnaroundEnd, unlessHeld_of_released _ released, phase]

theorem exec_frameSent {f : List Byte} (released : s.held = false) (phase : s.fcl.phase = .sending a call f) :
    exec .frameSent s = .next (s.openWindow a call) := by
  show execFrameSent s = _
  rw [execFrameSent, unlessHeld_of_released _ released, phase]

theorem exec_replyBegins (released : s.held = false) (phase : s.fcl.phase = .window a call left) :
    exec .replyBegins s = .next (s.beginReception a call) := by
  show execReplyBegins s = _
  rw [execReplyBegins, unlessHeld_of_released _ released, phase]

theorem exec_replyWindowExpiry (released : s.held = false) (phase : s.fcl.phase = .window a call left) :
    exec .replyWindowExpiry s = .next s.nextFrame.settle := by
  show execReplyWindowExpiry s = _
  rw [execReplyWindowExpiry, unlessHeld_of_released _ released, phase]

theorem exec_replyReceived (released : s.held = false) (phase : s.fcl.phase = .receiving a call left)
    (chars : List LineChar) :
    exec (.replyReceived chars) s = .next (s.receiveReply a call chars).endSlot.settle := by
  show execReplyReceived chars s = _
  rw [execReplyReceived, unlessHeld_of_released _ released, phase]

theorem exec_receptionTimeout (released : s.held = false) (phase : s.fcl.phase = .receiving a call left) :
    exec .receptionTimeout s = .next (s.discardReply a).endSlot.settle := by
  show execReceptionTimeout s = _
  rw [execReceptionTimeout, unlessHeld_of_released _ released, phase]

/-- The frame of a slot, as the table stands (R34, 11.5). -/
theorem State.sendFrame_eq (s : State) (a : NodeNo) (call : Bool) :
    let body := [0xD5#8, if call = true then 2 else 1, BitVec.ofNat 8 (a.val + 1)] ++
      if call = true then [] else ([0, 1, 2, 3] : List OutletNo).map fun k =>
        BitVec.ofNat 8 ((s.outlet ⟨a, k⟩).closed.toNat + 2 * (s.outlet ⟨a, k⟩).essential.toNat +
          4 * (s.outlet ⟨a, k⟩).answered.toNat)
    s.sendFrame a call = s.modFcl fun l => { l with phase := .sending a call (body ++ crcBytes body) } := by
  have code (x : Outlet) : x.code = x.closed.toNat + 2 * x.essential.toNat + 4 * x.answered.toNat := by
    simp only [Outlet.code, marks, List.foldr]
    omega
  cases call with
  | true => rfl
  | false => simp only [State.sendFrame, State.pollFrame, outletsOf, allOutletNos, List.map_map, Function.comp_def, code]; rfl

/-- A frame that is no valid reply ends its slot with the discarded count, and calls for no evaluation (R39). -/
theorem State.endSlot_discardReply (calm : s.calm) (h : s.fcl.toPoll = b :: rest) :
    (s.discardReply a).endSlot.settle = { s with fcl := { s.fcl with
      nodes := s.fcl.nodes.set a { s.node a with discarded := min 255 ((s.node a).discarded + 1) }
      toPoll := rest
      phase := .turnaround b false turnaround } } := by
  have discarded : (s.discardReply a).calm := calm
  rw [State.endSlot, State.settle_of_calm discarded,
    State.nextFrame_of_poll (s := s.discardReply a) (b := b) (rest := rest) h]
  exact State.settle_of_calm calm

end Rounds

/-- Settles O47: each event by the equation of its phase. -/
theorem roundSendsItsFrames : Obligations.RoundSendsItsFrames := by
  unfold Obligations.RoundSendsItsFrames
  intro s a b rest call left f released calm turn
  refine ⟨fun runs => ⟨fun round => ?_, fun idle => ⟨fun polled => ?_, fun unpolled => ?_⟩⟩, fun phase => ?_,
    fun phase => exec_frameSent released phase, fun phase => exec_replyBegins released phase, fun phase next => ?_,
    fun phase drained uncalled absent => ?_, fun chars phase next invalid => ⟨?_, ?_⟩⟩
  · rw [exec_roundTimerExpiry released runs, State.roundExpiry_of_round round, State.settle_of_calm (s := s.timed) calm]
    rfl
  · rw [exec_roundTimerExpiry released runs, State.roundExpiry_of_polled idle ((s.polled_eq).trans polled)]
    exact congrArg _ (State.settle_of_calm calm)
  · rw [exec_roundTimerExpiry released runs, State.roundExpiry_of_unpolled idle ((s.polled_eq).trans unpolled)]
    exact congrArg _ (State.settle_of_calm calm)
  · exact (exec_lineTurnaroundEnd released phase).trans (congrArg _ (s.sendFrame_eq a call))
  · rw [exec_replyWindowExpiry released phase, State.nextFrame_of_poll next]
    exact congrArg _ (State.settle_of_calm calm)
  · rw [exec_replyWindowExpiry released phase, State.nextFrame_of_call drained uncalled absent]
    exact congrArg _ (State.settle_of_calm calm)
  · rw [exec_replyReceived released phase, State.receiveReply, if_neg (by simp [invalid])]
    exact congrArg _ (State.endSlot_discardReply calm next)
  · rw [exec_receptionTimeout released phase]
    exact congrArg _ (State.endSlot_discardReply calm next)

/-! ## A valid reply -/

section Replies

variable {s t u : State} {a : NodeNo}

/-- What a valid reply may change before its reports are taken: the node's entry, the answered marks, a flag and the call
for an evaluation. -/
def State.HeardFrame (s t : State) : Prop :=
  ∃ nodes outlets due flags, t = { s with
    fcl := { s.fcl with nodes := nodes, outlets := outlets }
    rsv := { s.rsv with due := due }
    svl := { s.svl with flags := flags } }

theorem State.HeardFrame.trans (h : s.HeardFrame t) (h' : t.HeardFrame u) : s.HeardFrame u := by
  obtain ⟨_, _, _, _, rfl⟩ := h
  obtain ⟨_, _, _, _, rfl⟩ := h'
  exact ⟨_, _, _, _, rfl⟩

theorem State.HeardFrame.refl (s : State) : s.HeardFrame s := ⟨_, _, _, _, rfl⟩

theorem State.HeardFrame.modNode (s : State) (a : NodeNo) (f : Node → Node) : s.HeardFrame (s.modNode a f) :=
  ⟨_, _, _, _, rfl⟩

theorem State.HeardFrame.modOutlet (s : State) (o : OutletId) (f : Outlet → Outlet) : s.HeardFrame (s.modOutlet o f) :=
  ⟨_, _, _, _, rfl⟩

/-- The state of a node that a reply to a POLL or a CALL is heard from (R41). -/
def NodeState.heard (call : Bool) (before : NodeState) : NodeState :=
  if call = true ∧ before = .absent then .joining
  else if call = false ∧ (before = .joining ∨ before = .silent) then .present
  else before

/-- What hearing from a node does (R41, R92). -/
structure State.NodeHeard (s : State) (a : NodeNo) (call : Bool) (t : State) : Prop where
  node : t.node a = { s.node a with state := (s.node a).state.heard call }
  others : ∀ k, k ≠ a → t.node k = s.node k
  outlets : t.fcl.outlets = s.fcl.outlets
  joined : (s.node a).state = .joining → call = false → t.flag .nodeJoined = true
  due : (s.node a).state.heard call = .present → (s.node a).state ≠ .present → t.rsv.due = true
  frame : s.HeardFrame t

theorem State.node_modNode_of_ne {k : NodeNo} (f : Node → Node) (ne : k ≠ a) : (s.modNode a f).node k = s.node k := by
  rw [State.node_modNode, if_neg ne]

/-- A node in a state that the reply does not change. -/
theorem State.NodeHeard.same {call : Bool} (h : (s.node a).state.heard call = (s.node a).state)
    (unjoined : (s.node a).state = .joining → call ≠ false) : s.NodeHeard a call s where
  node := by rw [h]
  others _ _ := rfl
  outlets := rfl
  joined joining poll := absurd poll (unjoined joining)
  due present before := absurd (h.symm.trans present) before
  frame := .refl s

/-- A node that becomes PRESENT. -/
def State.present (a : NodeNo) (s : State) : State := s.modNode a fun x => { x with state := .present }

theorem State.node_present {before : NodeState} (e : (s.node a).state = before)
    (away : before = .joining ∨ before = .silent) :
    (s.present a).node a = { s.node a with state := (s.node a).state.heard false } := by
  rw [State.present, State.node_modNode_same, e]
  obtain rfl | rfl := away <;> rfl

theorem State.nodeHeard_spec (s : State) (a : NodeNo) (call : Bool) : s.NodeHeard a call (s.nodeHeard a call) := by
  unfold State.nodeHeard
  cases before : (s.node a).state with
  | present =>
    cases call <;> exact .same (by rw [before]; rfl) (by simp [before])
  | absent =>
    cases call with
    | true =>
      exact ⟨by rw [State.node_modNode_same, before]; rfl, fun k => State.node_modNode_of_ne _, rfl, by simp [before],
        by simp [before, NodeState.heard], .modNode s a _⟩
    | false => exact .same (by rw [before]; rfl) (by simp [before])
  | joining =>
    cases call with
    | true => exact .same (by rw [before]; rfl) (by simp)
    | false =>
      have nodes := State.node_congr (t := ((s.present a).latch .nodeJoined).promptEvaluation) (s := s.present a) rfl
      exact ⟨(nodes a).trans (State.node_present before (.inl rfl)),
        fun k ne => (nodes k).trans (State.node_modNode_of_ne _ ne), rfl,
        fun _ _ => State.flag_latch_self (s.present a) .nodeJoined, fun _ _ => rfl, ⟨_, _, _, _, rfl⟩⟩
  | silent =>
    cases call with
    | true => exact .same (by rw [before]; rfl) (by simp [before])
    | false =>
      have nodes := State.node_congr (t := (s.present a).promptEvaluation) (s := s.present a) rfl
      exact ⟨(nodes a).trans (State.node_present before (.inr rfl)),
        fun k ne => (nodes k).trans (State.node_modNode_of_ne _ ne), rfl, by simp [before], fun _ _ => rfl,
        ⟨_, _, _, _, rfl⟩⟩

/-- A node that says it restarted has the answered marks of its outlets cleared (R40). -/
def State.clearAnswered (a : NodeNo) (restart : Bool) (s : State) : State :=
  if restart then (outletsOf a).foldl (fun t o => t.modOutlet o fun x => { x with answered := false }) s else s

/-- A reply with the fail-safe mark raises the node's count (R40). -/
def State.countFailsafe (a : NodeNo) (failsafe : Bool) (s : State) : State :=
  if failsafe then s.modNode a fun x => { x with failsafe := min 255 (x.failsafe + 1) } else s

/-- A valid reply up to its reports (R39 to R41). -/
def State.hearReply (a : NodeNo) (call : Bool) (l : List Byte) (s : State) : State :=
  (((s.modNode a fun x => { x with valid := min 65535 (x.valid + 1), replied := true, missed := 0 }).nodeHeard a
    call).clearAnswered a ((l.getD 3 0).getLsbD 0)).countFailsafe a ((l.getD 3 0).getLsbD 1)

theorem State.validReply_eq (s : State) (a : NodeNo) (call : Bool) (l : List Byte) :
    s.validReply a call l = allOutletNos.foldl (fun t k => t.takeReport ((l.getD 3 0).getLsbD 0) ⟨a, k⟩ (reportAt l k))
      (s.hearReply a call l) := rfl

theorem reportAt_eq (l : List Byte) (k : OutletNo) : reportAt l k =
    { closed := (l.getD (4 + 5 * k.val) 0).getLsbD 0
      reset := (l.getD (4 + 5 * k.val) 0).getLsbD 1
      power := (l.getD (5 + 5 * k.val) 0).toNat * 256 + (l.getD (6 + 5 * k.val) 0).toNat
      energy := (l.getD (7 + 5 * k.val) 0).toNat * 256 + (l.getD (8 + 5 * k.val) 0).toNat } := by
  have power : 4 + 5 * k.val + 1 = 5 + 5 * k.val := by omega
  have low : 5 + 5 * k.val + 1 = 6 + 5 * k.val := by omega
  have energy : 4 + 5 * k.val + 3 = 7 + 5 * k.val := by omega
  have last : 7 + 5 * k.val + 1 = 8 + 5 * k.val := by omega
  simp only [reportAt, pairAt, power, low, energy, last]

theorem State.frame_clearAnswered (s : State) (a : NodeNo) (restart : Bool) : s.HeardFrame (s.clearAnswered a restart) := by
  unfold State.clearAnswered
  split
  · exact foldl_inv s.HeardFrame _ (fun t o h => h.trans (.modOutlet t o _)) _ s (.refl s)
  · exact .refl s

theorem State.kept_clearAnswered (s : State) (a : NodeNo) (restart : Bool) :
    (s.clearAnswered a restart).fcl.nodes = s.fcl.nodes ∧ (s.clearAnswered a restart).svl = s.svl ∧
    (s.clearAnswered a restart).rsv = s.rsv := by
  unfold State.clearAnswered
  split
  · refine foldl_inv (fun t : State => t.fcl.nodes = s.fcl.nodes ∧ t.svl = s.svl ∧ t.rsv = s.rsv) _ ?_ _ s
      ⟨rfl, rfl, rfl⟩
    exact fun t o h => h
  · exact ⟨rfl, rfl, rfl⟩

theorem mem_outletsOf_iff (a : NodeNo) (o : OutletId) : o ∈ outletsOf a ↔ o.node = a := by
  constructor
  · rintro mem
    obtain ⟨k, -, e⟩ := List.mem_map.1 mem
    exact (congrArg OutletId.node e).symm
  · rintro rfl
    exact mem_outletsOf o

/-- Clearing the answered mark of each outlet of a list clears it there and nowhere else. -/
theorem State.outlet_foldl_unanswered (l : List OutletId) (s : State) (o : OutletId) :
    (l.foldl (fun t p => t.modOutlet p fun x => { x with answered := false }) s).outlet o =
      if o ∈ l then { s.outlet o with answered := false } else s.outlet o := by
  induction l generalizing s with
  | nil => rfl
  | cons p l ih =>
    rw [List.foldl_cons, ih, State.outlet_modOutlet]
    by_cases e : o = p
    · subst e
      simp
    · simp [e]

theorem State.outlet_clearAnswered (s : State) (a : NodeNo) (restart : Bool) (o : OutletId) :
    (s.clearAnswered a restart).outlet o =
      if restart = true ∧ o.node = a then { s.outlet o with answered := false } else s.outlet o := by
  cases restart with
  | true => simp [State.clearAnswered, State.outlet_foldl_unanswered, mem_outletsOf_iff]
  | false => simp [State.clearAnswered]

theorem State.frame_countFailsafe (s : State) (a : NodeNo) (failsafe : Bool) :
    s.HeardFrame (s.countFailsafe a failsafe) := by
  unfold State.countFailsafe
  split
  · exact .modNode s a _
  · exact .refl s

theorem State.kept_countFailsafe (s : State) (a : NodeNo) (failsafe : Bool) :
    (s.countFailsafe a failsafe).fcl.outlets = s.fcl.outlets ∧ (s.countFailsafe a failsafe).svl = s.svl ∧
    (s.countFailsafe a failsafe).rsv = s.rsv := by
  unfold State.countFailsafe
  split <;> exact ⟨rfl, rfl, rfl⟩

theorem State.node_countFailsafe (s : State) (a : NodeNo) (failsafe : Bool) : (s.countFailsafe a failsafe).node a =
    { s.node a with failsafe := if failsafe = true then min 255 ((s.node a).failsafe + 1) else (s.node a).failsafe } := by
  cases failsafe with
  | true => simp [State.countFailsafe]
  | false => rfl

theorem State.node_countFailsafe_of_ne {k : NodeNo} (failsafe : Bool) (ne : k ≠ a) :
    (s.countFailsafe a failsafe).node k = s.node k := by
  unfold State.countFailsafe
  split
  · exact State.node_modNode_of_ne _ ne
  · rfl

/-- What a valid reply has done when its reports are taken. -/
structure State.ReplyHeard (s : State) (a : NodeNo) (call restart failsafe : Bool) (t : State) : Prop where
  node : t.node a = { s.node a with
    state := (s.node a).state.heard call
    valid := min 65535 ((s.node a).valid + 1)
    replied := true
    missed := 0
    failsafe := if failsafe = true then min 255 ((s.node a).failsafe + 1) else (s.node a).failsafe }
  others : ∀ k, k ≠ a → t.node k = s.node k
  outlet : ∀ o, t.outlet o =
    if restart = true ∧ o.node = a then { s.outlet o with answered := false } else s.outlet o
  joined : (s.node a).state = .joining → call = false → t.flag .nodeJoined = true
  due : (s.node a).state.heard call = .present → (s.node a).state ≠ .present → t.rsv.due = true
  frame : s.HeardFrame t

/-- The counts of a valid reply (R39). -/
def State.countValid (a : NodeNo) (s : State) : State :=
  s.modNode a fun x => { x with valid := min 65535 (x.valid + 1), replied := true, missed := 0 }

theorem State.hearReply_spec (s : State) (a : NodeNo) (call : Bool) (l : List Byte) :
    s.ReplyHeard a call ((l.getD 3 0).getLsbD 0) ((l.getD 3 0).getLsbD 1) (s.hearReply a call l) := by
  have counted : (s.countValid a).node a =
      { s.node a with valid := min 65535 ((s.node a).valid + 1), replied := true, missed := 0 } :=
    s.node_modNode_same a _
  have heard := (s.countValid a).nodeHeard_spec a call
  show s.ReplyHeard a call _ _ ((((s.countValid a).nodeHeard a call).clearAnswered a _).countFailsafe a _)
  generalize (l.getD 3 0).getLsbD 0 = restart
  generalize (l.getD 3 0).getLsbD 1 = failsafe
  generalize (s.countValid a).nodeHeard a call = u at heard
  obtain ⟨nodes, marksSvl, marksRsv⟩ := u.kept_clearAnswered a restart
  obtain ⟨outlets, svl, rsv⟩ := (u.clearAnswered a restart).kept_countFailsafe a failsafe
  have state : ((s.countValid a).node a).state = (s.node a).state := by rw [counted]
  refine ⟨?_, fun k ne => ?_, fun o => ?_, fun joining poll => ?_, fun present before => ?_, ?_⟩
  · rw [State.node_countFailsafe, State.node_congr nodes, heard.node, counted]
  · rw [State.node_countFailsafe_of_ne _ ne, State.node_congr nodes, heard.others k ne]
    exact State.node_modNode_of_ne _ ne
  · rw [State.outlet_congr outlets, State.outlet_clearAnswered, State.outlet_congr heard.outlets]
    rfl
  · rw [State.flag, svl, marksSvl]
    exact heard.joined (state.trans joining) poll
  · rw [rsv, marksRsv]
    exact heard.due (by rw [state]; exact present) (by rw [state]; exact before)
  · exact (((State.HeardFrame.modNode s a _).trans heard.frame).trans (u.frame_clearAnswered a restart)).trans
      (State.frame_countFailsafe _ a failsafe)

/-- What the checks of R39 accept, as one statement of the 26 characters. -/
theorem replyValid_iff (a : NodeNo) (chars : List LineChar) : replyValid a chars = true ↔
    (∀ x ∈ chars, x.stopOk = true) ∧ chars.length = 26 ∧ (chars.map LineChar.byte).getD 0 0 = 0xD5#8 ∧
    (chars.map LineChar.byte).getD 1 0 = 3#8 ∧ (chars.map LineChar.byte).getD 2 0 = BitVec.ofNat 8 (a.val + 1) ∧
    (chars.map LineChar.byte).drop 24 = crcBytes ((chars.map LineChar.byte).take 24) := by
  simp only [replyValid, Bool.and_eq_true, beq_iff_eq, List.all_eq_true, chainStart, replyKind, addressByte,
    eq_comm (a := crcBytes _)]
  tauto

end Replies

/-- Settles O48: the checks of R39 as they stand, and the reply as it is heard before its reports are taken. -/
theorem validReplyIsTaken : Obligations.ValidReplyIsTaken := by
  unfold Obligations.ValidReplyIsTaken
  refine ⟨fun a l => ?_, fun a chars bad => ?_, fun s a call left chars released phase valid => ?_⟩
  · have bytes : (l.map fun b => (⟨b, true⟩ : LineChar)).map LineChar.byte = l := by simp [Function.comp_def]
    rw [replyValid_iff, bytes, List.length_map]
    exact and_iff_right fun x mem => by
      obtain ⟨b, -, rfl⟩ := List.mem_map.1 mem
      rfl
  · obtain ⟨x, mem, bad⟩ := bad
    refine Bool.eq_false_of_not_eq_true fun valid => ?_
    obtain ⟨stops, -⟩ := (replyValid_iff a chars).1 valid
    simp [stops x mem] at bad
  · intro l restart before state report
    have heard := s.hearReply_spec a call l
    refine ⟨s.hearReply a call l, ?_, heard.node, heard.others, heard.outlet, heard.joined, heard.due, ?_⟩
    · rw [exec_replyReceived released phase, State.receiveReply, if_pos valid, State.validReply_eq]
      simp only [reportAt_eq]
      rfl
    · obtain ⟨_, _, _, _, e⟩ := heard.frame
      rw [e]

end Sys2Proof.Machine

namespace Sys2Proof.Machine

/-! # The requests that read (O25) -/

/-! ## Bytes and fields (11, 11.7) -/

section Rows

theorem signed2_eq_fieldBytes (v : Int) : signed2 v = fieldBytes 2 (signedValue 2 v) := by
  simp [signed2, byte2_eq_fieldBytes, signedValue, BitVec.toNat_ofInt]

theorem signed4_eq_fieldBytes (v : Int) : signed4 v = fieldBytes 4 (signedValue 4 v) := by
  simp [signed4, byte2, fieldBytes, signedValue, BitVec.toNat_ofInt, Nat.div_div_eq_div_mul]

theorem timeLeft_eq_fieldBytes (t : Timer) : timeLeft t = fieldBytes 3 (millisLeft t) := by
  cases t <;> simp [timeLeft, Timer.leftMillis, millisLeft, byte3_eq_fieldBytes]

@[simp] theorem rowOf_nil : rowOf [] = [] := rfl

theorem rowOf_cons (f : Nat × Nat × Nat) (fields : List (Nat × Nat × Nat)) :
    rowOf (f :: fields) = fieldBytes f.2.1 f.2.2 ++ rowOf fields := List.flatMap_cons

theorem rowOf_append (fields more : List (Nat × Nat × Nat)) : rowOf (fields ++ more) = rowOf fields ++ rowOf more :=
  List.flatMap_append

theorem rowOf_flatMap {α : Type} (l : List α) (g : α → List (Nat × Nat × Nat)) :
    rowOf (l.flatMap g) = l.flatMap fun x => rowOf (g x) := List.flatMap_assoc

theorem length_rowOf (fields : List (Nat × Nat × Nat)) : (rowOf fields).length = (fields.map fun f => f.2.1).sum := by
  simp [rowOf, List.length_flatMap]

/-- An image made of its fields, one after the other, has their length and holds them. -/
theorem holdsFields_of_row {image : List Byte} {fields : List (Nat × Nat × Nat)} {k : Nat} (row : image = rowOf fields)
    (placed : inRow 0 fields = true) (size : (fields.map fun f => f.2.1).sum = k) :
    image.length = k ∧ holdsFields image fields := by
  subst row
  exact ⟨(length_rowOf fields).trans size, holdsFields_rowOf placed⟩

end Rows

/-! ## The images (11.7) -/

section Images

variable (s : State)

theorem State.governorImage_eq : s.governorImage = rowOf s.governorFields := by
  simp only [State.governorImage, State.governorFields, Banks.code, rowOf_cons, rowOf_nil, List.append_nil,
    List.append_assoc, byte1_eq_fieldBytes, byte2_eq_fieldBytes, byte3_eq_fieldBytes, signed2_eq_fieldBytes,
    marks_eq_bitsValue]
  rfl

theorem State.stationImage_eq (i : StationNo) : s.stationImage i = rowOf (s.stationFields i) := by
  simp only [State.stationImage, State.stationFields, rowOf_cons, rowOf_nil, List.append_nil, List.append_assoc,
    byte1_eq_fieldBytes, byte2_eq_fieldBytes, timeLeft_eq_fieldBytes, marks_eq_bitsValue, Timer.running,
    State.reservedFor]

theorem State.nodeImage_eq (a : NodeNo) : s.nodeImage a = rowOf (s.nodeFields a) := by
  simp only [State.nodeImage, State.nodeFields, rowOf_cons, rowOf_nil, rowOf_append, rowOf_flatMap, List.append_nil,
    List.append_assoc, byte1_eq_fieldBytes, byte2_eq_fieldBytes, Outlet.code_eq]
  rfl

theorem State.plantImage_eq : s.plantImage = rowOf s.plantFields := by
  unfold State.plantImage State.plantFields
  simp only [Reading.brief, lockoutCode, State.shaftValid, Timer.running, rowOf_cons, rowOf_nil, rowOf_append,
    List.flatMap_cons, List.flatMap_nil, List.map_cons, List.map_nil, List.zipIdx_cons, List.zipIdx_nil,
    List.append_nil, List.append_assoc, byte1_eq_fieldBytes, byte2_eq_fieldBytes, byte3_eq_fieldBytes,
    signed2_eq_fieldBytes, timeLeft_eq_fieldBytes, marks_eq_bitsValue]

/-- Slot 4's two bytes are the two fields the table has for it. -/
theorem State.readingsImage_eq (k : Nat) : s.readingsImage k = rowOf (s.readingsFields k) := by
  simp only [State.readingsImage, State.readingsFields, Reading.image, Msq.slot4Bytes, rowOf_cons, rowOf_nil, rowOf_append,
    rowOf_flatMap, List.append_nil, List.append_assoc, byte1_eq_fieldBytes, byte2_eq_fieldBytes, signed2_eq_fieldBytes,
    marks_eq_bitsValue]
  rcases pending : s.msq.slot4 with _ | c
  · rcases s.msq.conv with _ | ⟨src, c⟩ | _
    · rfl
    · cases src <;> rfl
    · rfl
  · rfl

/-- One place of the table image. -/
def placeFields (k : Nat) (e : Option Reservation) : List (Nat × Nat × Nat) :=
  [(7 + 4 * k, 1, (e.map fun e => e.holder.kindCode).getD 0), (8 + 4 * k, 1, (e.map fun e => e.holder.number).getD 0),
    (9 + 4 * k, 2, (e.map Reservation.amount).getD 0)]

/-- The first entries' bytes and the zeros after them, place by place. -/
theorem places_eq_rowOf (n : Nat) (t : List Reservation) :
    ((t.take n).flatMap fun e => rowOf (placeFields 0 (some e))) ++ List.replicate (4 * n - 4 * (t.take n).length) 0 =
      (List.range n).flatMap fun k => rowOf (placeFields 0 t[k]?) := by
  induction n generalizing t with
  | zero => rfl
  | succ n ih =>
    rw [List.range_succ_eq_map, List.flatMap_cons, List.flatMap_map]
    cases t with
    | nil =>
      have empty := ih []
      simp only [List.take_nil, List.flatMap_nil, List.nil_append, List.length_nil, List.getElem?_nil] at empty ⊢
      rw [← empty]
      rfl
    | cons e t =>
      simp only [List.take_succ_cons, List.flatMap_cons, List.length_cons, List.getElem?_cons_zero,
        List.getElem?_cons_succ, List.append_assoc]
      rw [← ih t, show 4 * (n + 1) - 4 * ((t.take n).length + 1) = 4 * n - 4 * (t.take n).length by omega]

theorem tableBytes_eq (t : List Reservation) :
    tableBytes t = (List.range 8).flatMap fun k => rowOf (placeFields k t[k]?) := places_eq_rowOf 8 t

theorem State.pauseCode_eq : s.pauseCode = bitsValue [!s.fsu.freqValid, s.offBand, s.engagingEntry, s.sld.pause.isSome] :=
  marks_eq_bitsValue _

theorem State.reserveImage_eq : s.reserveImage = rowOf s.reserveFields := by
  simp only [State.reserveImage, State.reserveFields, tableBytes_eq, State.headBytes, rowOf_cons, rowOf_nil, rowOf_append,
    rowOf_flatMap, List.append_nil, List.append_assoc, byte1_eq_fieldBytes, byte2_eq_fieldBytes, signed4_eq_fieldBytes,
    State.pauseCode_eq]
  rcases s.head with _ | (n | i)
  · rfl
  · rfl
  · rfl

end Images

/-! ## The lengths and fields of the images -/

section Layouts

variable (s : State)

theorem State.governorImage_fields : s.governorImage.length = 25 ∧ holdsFields s.governorImage s.governorFields :=
  holdsFields_of_row s.governorImage_eq (by simp [inRow, State.governorFields]) (by simp [State.governorFields])

theorem State.stationImage_fields (i : StationNo) :
    (s.stationImage i).length = 18 ∧ holdsFields (s.stationImage i) (s.stationFields i) :=
  holdsFields_of_row (s.stationImage_eq i) (by simp [inRow, State.stationFields]) (by simp [State.stationFields])

theorem State.nodeImage_fields (a : NodeNo) : (s.nodeImage a).length = 14 ∧ holdsFields (s.nodeImage a) (s.nodeFields a) :=
  holdsFields_of_row (s.nodeImage_eq a) (by simp [inRow, State.nodeFields, List.finRange_succ])
    (by simp [State.nodeFields, List.finRange_succ])

theorem State.plantImage_fields : s.plantImage.length = 64 ∧ holdsFields s.plantImage s.plantFields :=
  holdsFields_of_row s.plantImage_eq (by simp [inRow, State.plantFields]) (by simp [State.plantFields])

theorem State.reserveImage_fields : s.reserveImage.length = 48 ∧ holdsFields s.reserveImage s.reserveFields :=
  holdsFields_of_row s.reserveImage_eq (by simp [inRow, State.reserveFields, List.range_succ])
    (by simp [State.reserveFields, List.range_succ])

theorem State.readingsImage_fields (k : Nat) :
    (s.readingsImage k).length = 152 ∧ holdsFields (s.readingsImage k) (s.readingsFields k) :=
  holdsFields_of_row (s.readingsImage_eq k) (by simp [inRow, State.readingsFields, List.finRange_succ])
    (by simp [State.readingsFields, List.finRange_succ])

end Layouts

/-! ## The owners -/

section Owners

variable {s : State}

theorem State.readForList_of_allRead (h : s.allRead) : s.readForList = s := State.readEach_of_allRead _ h

theorem foldl_readBinding_of_mapReads (h : ∀ o, s.mapReads o) (l : List OutletId) :
    l.foldl (fun t o => t.readBinding o) s = s := by
  induction l with
  | nil => rfl
  | cons o l ih => rw [List.foldl_cons, s.readBinding_clean o (h o), ih]

/-- A node's image shown and its three counts cleared (R48). -/
theorem nodeGet_of_address {b : Byte} {a : NodeNo} (h : ∀ o, s.mapReads o) (number : b.toNat = a.val + 1) :
    nodeGet b s = (s.modNode a fun x => { x with valid := 0, discarded := 0, failsafe := 0 }, .done (s.nodeImage a)) := by
  simp only [nodeGet, nodeAddress, indexFrom1_of_eq number, foldl_readBinding_of_mapReads h]

theorem nodeGet_of_bad {b : Byte} (bad : b.toNat = 0 ∨ 16 < b.toNat) : nodeGet b s = (s, .of .badField) := by
  simp only [nodeGet, nodeAddress, indexFrom1_eq_none bad]

theorem reserveGet_of_allRead (h : s.allRead) : reserveGet s = (s, .done s.reserveImage) := by
  rw [reserveGet, State.readForList_of_allRead h]

/-- While CALIBRATING the code is NONE's or CALIBRATION's (log 17). -/
theorem State.activityCode_of_calibrating (h : s.msq.state = .calibrating) :
    s.activityCode = 0 ∨ s.activityCode = 6 := by
  rw [State.activityCode, if_pos h]
  cases Config.calibrationConverting s.free with
  | false => exact .inl rfl
  | true => exact .inr rfl

theorem readingsGet_of_calibrating (h : s.msq.state = .calibrating) :
    readingsGet s = ({ s with free := s.free + 1 }, .done (s.readingsImage s.activityCode)) := by
  rw [readingsGet, if_pos h]

theorem readingsGet_of_settled (h : s.msq.state ≠ .calibrating) :
    readingsGet s = (s, .done (s.readingsImage s.activityCode)) := by
  rw [readingsGet, if_neg h]

end Owners

/-- Settles O25: each image is its table of fields in a row, and each owner answers it without a change when all reads
are clean. -/
theorem getRequestsAnswerTheirImages : Obligations.GetRequestsAnswerTheirImages := by
  refine ⟨fun s b ready calm reads maps => ?_, by decide⟩
  obtain ⟨plantLength, plantHolds⟩ := s.plantImage_fields
  obtain ⟨governorLength, governorHolds⟩ := s.governorImage_fields
  obtain ⟨reserveLength, reserveHolds⟩ := s.reserveImage_fields
  refine ⟨request_of_calm .plantGet ready rfl calm, plantLength, plantHolds, request_of_calm .sawGet ready rfl calm,
    s.stationImage_fields, request_of_calm .governorGet ready rfl calm, governorLength, governorHolds,
    request_of_calm .reserveGet ready (reserveGet_of_allRead reads) calm, reserveLength, reserveHolds,
    fun a number => ⟨request_of_calm .nodeGet ready (nodeGet_of_address maps number) calm, s.nodeImage_fields a⟩,
    fun bad => request_of_calm .nodeGet ready (nodeGet_of_bad bad) calm, fun settled => ?_, fun calibrating => ?_,
    s.readingsImage_fields⟩
  · have answered := request_of_calm .readingsGet ready (readingsGet_of_settled settled) calm
    rw [State.activityCode, if_neg settled] at answered
    refine answered.trans ?_
    cases s.msq.conv <;> rfl
  · exact ⟨s.activityCode, State.activityCode_of_calibrating calibrating,
      request_of_calm .readingsGet ready (readingsGet_of_calibrating calibrating) calm⟩

end Sys2Proof.Machine

namespace Sys2Proof.Machine

/-! # The state a reset gives (O16) -/

/-! ## A page whose write was cut (R184) -/

section PageCut

/-- The share of a page's two last bytes in its syndrome. -/
def shareOf (code : List Byte) : Nat := sumOfSet (pageColumns.drop 2248) (bitsOf code)

/-- The twelve check bits name themselves, and the parity bit moves the parity alone. -/
theorem shareOf_byte2 {check : Nat} (h : check < 4096) :
    shareOf (byte2 check) % 4096 = check ∧ shareOf (byte2 (check + 4096)) = shareOf (byte2 check) ^^^ 4096 := by
  obtain ⟨share, parity⟩ := codeShare ⟨check / 256, by omega⟩ (BitVec.ofNat 8 check)
  have high : byte2 (check + 4096) = [BitVec.ofNat 8 (check / 256 + 16), BitVec.ofNat 8 check] := by
    rw [byte2, show (check + 4096) / 256 = check / 256 + 16 by omega]
    rw [show BitVec.ofNat 8 (check + 4096) = BitVec.ofNat 8 check from BitVec.eq_of_toNat_eq (by simp; omega)]
  refine ⟨share.trans ?_, (congrArg shareOf high).trans parity⟩
  rw [BitVec.toNat_ofNat]
  dsimp only
  omega

/-- The check code of a page is the one that makes its syndrome 0. -/
theorem syndrome_pageSeal {data : List Byte} (h : data.length = 281) : syndrome (pageSeal data) = 0 := by
  have below : syndrome data % 4096 < 4096 := Nat.mod_lt _ (by decide)
  rw [pageSeal, pageCode]
  generalize hcheck : syndrome data % 4096 = check at below
  obtain ⟨share, parity⟩ := shareOf_byte2 below
  have total (code : List Byte) : syndrome (data ++ code) = syndrome data ^^^ shareOf code := syndrome_append _ _ h
  have low : syndrome (data ++ byte2 check) % 4096 = 0 := by
    have mod := Nat.xor_mod_two_pow (a := syndrome data) (b := shareOf (byte2 check)) (n := 12)
    rw [total, show (4096 : Nat) = 2 ^ 12 from rfl, mod, show 2 ^ 12 = 4096 from rfl, hcheck, share, Nat.xor_self]
  have bound := syndrome_lt (data ++ byte2 check)
  obtain even | odd : syndrome (data ++ byte2 check) = 0 ∨ syndrome (data ++ byte2 check) = 4096 := by omega
  · rw [even]
    exact even
  · rw [odd, total, parity, ← Nat.xor_assoc, ← total, odd, Nat.xor_self]

theorem pageColumns_last : pageColumns[2262]? = some 4098 ∧ pageColumns[2263]? = some 4097 := by
  have column (k : Nat) : pageColumns[2248 + k]? = (pageColumns.drop 2248)[k]? := List.getElem?_drop.symm
  rw [column 14, column 15, codeColumns]
  exact ⟨rfl, rfl⟩

/-- Two flipped check bits leave a syndrome that no single flip gives. -/
theorem pageVerdict_pageCut {data : List Byte} (h : data.length = 281) : pageVerdict (pageCut data) = .lost := by
  have sealed : (pageSeal data).length = 283 := by rw [pageSeal, List.length_append, h]; rfl
  obtain ⟨c, c'⟩ := pageColumns_last
  have cut : syndrome (pageCut data) = 3 := by
    rw [pageCut, syndrome_flipBit _ _ (by rw [length_flipBit, sealed]; decide) (by decide),
      syndrome_flipBit _ _ (by rw [sealed]; decide) (by decide), syndrome_pageSeal h, (List.getElem?_eq_some_iff.1 c).2,
      (List.getElem?_eq_some_iff.1 c').2]
    rfl
  have off : ¬ 3 ∈ pageColumns := fun mem => absurd (pageColumns_bound mem).1 (by decide)
  rw [pageVerdict, cut, if_neg (by decide), if_neg off]

end PageCut

/-! ## Flags -/

section Flags

theorem Flag.bit_eq_ctorIdx (f : Flag) : f.bit = f.ctorIdx := by cases f <;> rfl

theorem Flag.bit_lt (f : Flag) : f.bit < 21 := by cases f <;> decide

theorem Flag.bit_inj {f g : Flag} : f.bit = g.bit ↔ f = g := by
  refine ⟨fun h => ?_, congrArg _⟩
  rw [Flag.bit_eq_ctorIdx, Flag.bit_eq_ctorIdx] at h
  rw [← Flag.ofNat_ctorIdx f, h, Flag.ofNat_ctorIdx]

theorem State.flag_latch (s : State) (f g : Flag) : (s.latch f).flag g = true ↔ g = f ∨ s.flag g = true := by
  simp only [State.flag, State.latch, State.modSvl, BitVec.getLsbD_or, BitVec.getLsbD_twoPow, f.bit_lt, decide_true,
    Bool.true_and, Bool.or_eq_true, decide_eq_true_eq, Flag.bit_inj]
  exact or_comm.trans (or_congr_left eq_comm)

end Flags

/-! ## The start-up scan and the rewrite of the records (R30, R31)

With every outlet open already and the watch empty, both change the records, what is kept beside them, the reservations and
two event flags. -/

section Scan

/-- What the scan and the rewrite can make of a state `s` whose feeder chain and ladder are at their reset states. -/
structure State.Scanned (s t : State) : Prop where
  frame : ∃ slots map atb rsv flags, t = { s with
    nva := { s.nva with slots := slots, map := map }
    atb := atb
    rsv := rsv
    fcl := .reset
    sld := .reset
    svl := { s.svl with flags := flags } }
  raised : ∀ f, s.flag f = true → t.flag f = true
  only : ∀ f, f ≠ .recordCorrected → f ≠ .recordSuspect → t.flag f = true → s.flag f = true

variable {s t u : State}

theorem State.scanned_refl (chain : s.fcl = .reset) (ladder : s.sld = .reset) : s.Scanned s where
  frame := ⟨_, _, _, _, _, by rw [← chain, ← ladder]⟩
  raised _ := id
  only _ _ _ := id

namespace State.Scanned

/-- A change of the records, of what is kept beside them, or of the reservations. -/
theorem records (h : s.Scanned t) (change : ∃ slots map atb rsv,
    u = { t with nva := { t.nva with slots := slots, map := map }, atb := atb, rsv := rsv }) : s.Scanned u := by
  obtain ⟨⟨_, _, _, _, _, rfl⟩, raised, only⟩ := h
  obtain ⟨_, _, _, _, rfl⟩ := change
  exact ⟨⟨_, _, _, _, _, rfl⟩, raised, only⟩

theorem chain (h : s.Scanned t) : t.fcl = .reset := by
  obtain ⟨⟨_, _, _, _, _, rfl⟩, -, -⟩ := h
  rfl

theorem ladder (h : s.Scanned t) : t.sld = .reset := by
  obtain ⟨⟨_, _, _, _, _, rfl⟩, -, -⟩ := h
  rfl

theorem ite {c : Prop} [Decidable c] (h : s.Scanned t) (h' : s.Scanned u) : s.Scanned (if c then t else u) := by
  split
  · exact h
  · exact h'

theorem modTerms (h : s.Scanned t) (n : RecNo) (f : Terms → Terms) : s.Scanned (t.modTerms n f) :=
  h.records ⟨_, _, _, _, rfl⟩

theorem modAccount (h : s.Scanned t) (n : RecNo) (f : Account → Account) : s.Scanned (t.modAccount n f) :=
  h.records ⟨_, _, _, _, rfl⟩

theorem setSlot (h : s.Scanned t) (n : RecNo) (x : Slot) : s.Scanned (t.setSlot n x) := h.records ⟨_, _, _, _, rfl⟩

theorem modWork (h : s.Scanned t) (n : RecNo) (f : Working → Working) : s.Scanned (t.modWork n f) :=
  h.records ⟨_, _, _, _, rfl⟩

theorem setBinding (h : s.Scanned t) (o : OutletId) (r : Option RecNo) : s.Scanned (t.setBinding o r) :=
  h.records ⟨_, _, _, _, rfl⟩

theorem unbind (h : s.Scanned t) (n : RecNo) : s.Scanned (t.unbind n) := h.records ⟨_, _, _, _, rfl⟩

theorem promptEvaluation (h : s.Scanned t) : s.Scanned t.promptEvaluation := h.records ⟨_, _, _, _, rfl⟩

theorem dropReservation (h : s.Scanned t) (x : Holder) : s.Scanned (t.dropReservation x) :=
  (h.records ⟨_, _, _, _, rfl⟩).ite h

/-- Every outlet is open already. -/
theorem openOutlet (h : s.Scanned t) (o : OutletId) : s.Scanned (t.openOutlet o) := by
  have same : t.openOutlet o = t := by
    have outlets : (t.openOutlet o).fcl = t.fcl := by
      simp [State.openOutlet, State.modOutlet, State.modFcl, h.chain, Fcl.reset]
    calc t.openOutlet o = { t with fcl := (t.openOutlet o).fcl } := rfl
      _ = t := by rw [outlets]
  rwa [same]

/-- The restoration watch is empty already. -/
theorem dropRestoration (h : s.Scanned t) (n : RecNo) : s.Scanned (t.dropRestoration n) := by
  have same : t.dropRestoration n = t := by
    have watch : (t.dropRestoration n).sld = t.sld := by
      simp [State.dropRestoration, State.modSld, h.ladder, Sld.reset]
    calc t.dropRestoration n = { t with sld := (t.dropRestoration n).sld } := rfl
      _ = t := by rw [watch]
  rwa [same]

/-- The two flags of reading with an error (R28, R29). -/
theorem latch (h : s.Scanned t) {f : Flag} (hf : f = .recordCorrected ∨ f = .recordSuspect) : s.Scanned (t.latch f) := by
  obtain ⟨⟨_, _, _, _, _, e⟩, raised, only⟩ := h
  refine ⟨⟨_, _, _, _, _, by rw [e]; rfl⟩, fun g hg => (State.flag_latch _ _ _).2 (.inr (raised g hg)),
    fun g corrected suspect hg => ?_⟩
  obtain rfl | hg := (State.flag_latch _ _ _).1 hg
  · exact absurd hf (not_or.2 ⟨corrected, suspect⟩)
  · exact only g corrected suspect hg

theorem latchCorrected (h : s.Scanned t) : s.Scanned (t.latch .recordCorrected) := h.latch (.inl rfl)

theorem leave (h : s.Scanned t) (n : RecNo) : s.Scanned (t.leave n) := by
  unfold State.leave
  cases t.recState n with
  | live | tripped => exact h.modWork n _
  | shed => exact (h.modWork n _).promptEvaluation
  | restoring => exact (h.dropRestoration n).dropReservation _
  | vacant | dormant | quotaOut | retiring | suspect => exact h

theorem vacate (h : s.Scanned t) (n : RecNo) : s.Scanned (t.vacate n) :=
  (((h.leave n).unbind n).setSlot n _).modWork n _

theorem rebuildBinding (h : s.Scanned t) (o : OutletId) : s.Scanned (t.rebuildBinding o) :=
  ((h.setBinding o _).openOutlet o).ite (h.setBinding o _)

theorem readBinding (h : s.Scanned t) (o : OutletId) : s.Scanned (t.readBinding o) := by
  unfold State.readBinding
  cases t.nva.map[o.index].verdict with
  | clean => exact h
  | oneFlip => exact (h.setBinding o _).latchCorrected
  | lost => exact (h.rebuildBinding o).latchCorrected

theorem readMap (h : s.Scanned t) : s.Scanned t.readMap :=
  foldl_inv s.Scanned _ (fun _ o ht => ht.readBinding o) _ _ h

theorem correctRecord (h : s.Scanned t) (n : RecNo) : s.Scanned (t.correctRecord n) :=
  ((h.modTerms n _).modAccount n _).latchCorrected

theorem suspectRecord (h : s.Scanned t) (n : RecNo) (o : OutletId) : s.Scanned (t.suspectRecord n o) :=
  have rewritten := (((((h.dropRestoration n).dropReservation _).modTerms n _).modAccount n _).openOutlet o).modWork n _
  have marked := (ite rewritten.latchCorrected rewritten).latch (.inr rfl)
  ite marked.promptEvaluation marked

theorem vacateLost (h : s.Scanned t) (n : RecNo) : s.Scanned (t.vacateLost n) :=
  (((h.dropRestoration n).dropReservation _).vacate n).latchCorrected

theorem readRecord (h : s.Scanned t) (n : RecNo) : s.Scanned (t.readRecord n) := by
  obtain ⟨e, -⟩ | ⟨e, -⟩ | ⟨-, ⟨o, -, e⟩ | ⟨-, e⟩⟩ := t.readRecord_cases n <;> rw [e]
  · exact h
  · exact h.correctRecord n
  · exact h.readMap.suspectRecord n o
  · exact h.readMap.vacateLost n

theorem startUpScan (h : s.Scanned t) : s.Scanned t.startUpScan :=
  foldl_inv s.Scanned _ (fun _ n ht => (ht.readRecord n).ite ht) _ _ h

theorem resetStaged (h : s.Scanned t) (n : RecNo) : s.Scanned (t.resetStaged n) :=
  ((h.modTerms n _).ite (h.modTerms n _)).ite h

theorem resetState (h : s.Scanned t) (n : RecNo) : s.Scanned (t.resetState n) := by
  unfold State.resetState
  cases t.recState n with
  | live | restoring => exact (h.modTerms n _).ite ((h.modTerms n _).modAccount n _)
  | retiring => exact h.vacate n
  | vacant | dormant | shed | tripped | quotaOut | suspect => exact h

theorem resetRecord (h : s.Scanned t) (n : RecNo) : s.Scanned (t.resetRecord n) := by
  unfold State.resetRecord State.resetWork
  exact ((h.resetStaged n).resetState n).modWork n _

theorem resetRecords (h : s.Scanned t) : s.Scanned (t.eachRecord State.resetRecord) :=
  foldl_inv s.Scanned _ (fun _ n ht => ht.resetRecord n) _ _ h

end State.Scanned

end Scan

/-! ## The loads (R158, R185, R193) -/

section Loads

variable (s : State)

theorem State.latch_eq (f : Flag) : s.latch f = { s with svl := { s.svl with flags := (s.latch f).svl.flags } } := rfl

/-- A page as the load reads it: corrected where one bit is flipped. -/
def pageRead (page : List Byte) : List Byte := if pageVerdict page = .oneFlip then pageCorrect page else page

/-- The settings that the load takes from a page. -/
def pageSettings (page : List Byte) : Option Settings :=
  if pageVerdict page = .lost then none else pageDecode ((pageRead page).take 281)

theorem pageSettings_of_lost {page : List Byte} (h : pageVerdict page = .lost) : pageSettings page = none := if_pos h

theorem pageSettings_of_read {page : List Byte} (h : pageVerdict page ≠ .lost) :
    pageSettings page = pageDecode ((pageRead page).take 281) := if_neg h

variable {s} in
theorem State.loadPage_of_none (h : pageSettings s.nva.page = none) : s.loadPage = s.useDefaults := by
  unfold State.loadPage
  cases found : pageVerdict s.nva.page with
  | lost => rfl
  | clean =>
    have undecoded : pageDecode (s.nva.page.take 281) = none := by simpa [pageSettings, pageRead, found] using h
    dsimp only
    rw [undecoded]
  | oneFlip =>
    have undecoded : pageDecode ((pageCorrect s.nva.page).take 281) = none := by
      simpa [pageSettings, pageRead, found] using h
    dsimp only
    rw [undecoded]

variable {s} in
theorem State.loadPage_of_some {x : Settings} (h : pageSettings s.nva.page = some x) : s.loadPage =
    if pageVerdict s.nva.page = .oneFlip then
      ((s.useSettings x).modNva fun v => { v with page := pageRead s.nva.page }).latch .recordCorrected
    else s.useSettings x := by
  unfold State.loadPage
  cases found : pageVerdict s.nva.page with
  | lost => simp [pageSettings, found] at h
  | clean =>
    have decoded : pageDecode (s.nva.page.take 281) = some x := by simpa [pageSettings, pageRead, found] using h
    dsimp only
    rw [decoded]
    rfl
  | oneFlip =>
    have decoded : pageDecode ((pageCorrect s.nva.page).take 281) = some x := by
      simpa [pageSettings, pageRead, found] using h
    have read : pageRead s.nva.page = pageCorrect s.nva.page := if_pos found
    dsimp only
    rw [decoded, read]
    rfl

/-- What a page that can be used leaves: its settings, and the page rewritten where it was corrected. -/
theorem State.settings_loadPage {x : Settings} (h : pageSettings s.nva.page = some x) :
    s.loadPage.svl.settings = x ∧ s.loadPage.svl.defaulted = false ∧ s.loadPage.nva.page = pageRead s.nva.page := by
  rw [State.loadPage_of_some h]
  split
  · generalize pageRead s.nva.page = page
    exact ⟨rfl, rfl, rfl⟩
  next unflipped => exact ⟨rfl, rfl, (if_neg unflipped).symm⟩

/-- What an uncorrectable page leaves. -/
theorem State.defaults_loadPage (h : pageSettings s.nva.page = none) :
    s.loadPage.svl.settings = .defaults ∧ s.loadPage.svl.defaulted = true ∧ s.loadPage.nva.page = s.nva.page := by
  rw [State.loadPage_of_none h, State.useDefaults, State.latch_eq]
  exact ⟨rfl, rfl, rfl⟩

theorem State.flag_loadPage (f : Flag) : s.loadPage.flag f = true ↔
    (f = .recordCorrected ∧ pageVerdict s.nva.page = .oneFlip ∧ pageSettings s.nva.page ≠ none) ∨
      (f = .settingsDefaulted ∧ s.loadPage.svl.defaulted = true) ∨ s.flag f = true := by
  cases h : pageSettings s.nva.page with
  | none =>
    obtain ⟨-, defaulted, -⟩ := s.defaults_loadPage h
    have latched : s.useDefaults.flag f = true ↔ f = .settingsDefaulted ∨ s.flag f = true := State.flag_latch _ _ _
    rw [defaulted, State.loadPage_of_none h, latched]
    simp
  | some x =>
    obtain ⟨-, usable, -⟩ := s.settings_loadPage h
    have latched (page : List Byte) : (((s.useSettings x).modNva fun v => { v with page := page }).latch
        .recordCorrected).flag f = true ↔ f = .recordCorrected ∨ s.flag f = true := State.flag_latch _ _ _
    have used : (s.useSettings x).flag f = s.flag f := rfl
    rw [usable, State.loadPage_of_some h]
    split
    next flipped => simp [latched, flipped]
    next unflipped => simp [used, unflipped]

theorem State.frame_loadPage : ∃ page settings defaulted flags, s.loadPage = { s with
    nva := { s.nva with page := page }
    svl := { s.svl with settings := settings, defaulted := defaulted, flags := flags } } := by
  cases h : pageSettings s.nva.page with
  | none =>
    rw [State.loadPage_of_none h, State.useDefaults, State.latch_eq]
    exact ⟨_, _, _, _, rfl⟩
  | some x =>
    rw [State.loadPage_of_some h]
    split
    · generalize pageRead s.nva.page = page
      rw [State.latch_eq]
      exact ⟨_, _, _, _, rfl⟩
    · exact ⟨_, _, _, _, rfl⟩

theorem State.frame_loadPlantRecord : ∃ record flags, s.loadPlantRecord = { s with
    nva := { s.nva with plantRecord := record }
    svl := { s.svl with flags := flags } } := by
  unfold State.loadPlantRecord
  cases s.nva.plantRecord.verdict with
  | clean => exact ⟨_, _, rfl⟩
  | oneFlip =>
    dsimp only
    rw [State.latch_eq]
    exact ⟨_, _, rfl⟩
  | lost =>
    dsimp only
    rw [State.latch_eq]
    exact ⟨_, _, rfl⟩

theorem State.plantRecord_loadPlantRecord : s.loadPlantRecord.nva.plantRecord =
    if s.nva.plantRecord.verdict = .lost then ⟨{ cause := some .recordLost, lockouts := #v[true, true, true] }, .clean⟩
    else ⟨s.plantRecord, .clean⟩ := by
  unfold State.loadPlantRecord State.plantRecord
  cases found : s.nva.plantRecord.verdict with
  | clean =>
    dsimp only
    rw [if_neg Verdict.noConfusion, ← found]
  | oneFlip => rfl
  | lost => rfl

theorem State.flag_loadPlantRecord (f : Flag) : s.loadPlantRecord.flag f = true ↔
    (f = .recordCorrected ∧ s.nva.plantRecord.verdict = .oneFlip) ∨
      (f = .recordSuspect ∧ s.nva.plantRecord.verdict = .lost) ∨ s.flag f = true := by
  have latched (g : PlantRecord → PlantRecord) (k : Flag) :
      ((s.modPlantRecord g).latch k).flag f = true ↔ f = k ∨ s.flag f = true := State.flag_latch _ _ _
  unfold State.loadPlantRecord
  cases s.nva.plantRecord.verdict with
  | clean => simp
  | oneFlip => simp [latched]
  | lost => simp [latched]

end Loads

/-! ## The whole reset -/

section Reset

variable (s : State)

/-- The state that the loads find: a store cut short, and the port's own state reset. -/
def State.cleared (s : State) : State := s.cutStore.modSvl Svl.reset

theorem State.cutStore_of_idle {s : State} (h : s.svl.store = .idle) : s.cutStore = s := by
  rw [State.cutStore, h]
  rfl

theorem State.cutStore_of_storing {s : State} (h : s.svl.store ≠ .idle) : s.cutStore =
    { s with nva := { s.nva with page := pageCut (Config.cutPage s.free).toList }, free := s.free + 1 } := by
  unfold State.cutStore
  cases e : s.svl.store with
  | idle => exact absurd e h
  | storing x => rfl

theorem State.frame_cutStore : ∃ page free, s.cutStore = { s with nva := { s.nva with page := page }, free := free } := by
  unfold State.cutStore
  split
  · exact ⟨_, _, rfl⟩
  · exact ⟨_, _, rfl⟩

/-- A page whose store was cut has no settings to give. -/
theorem State.pageVerdict_cleared {s : State} (h : s.svl.store ≠ .idle) : pageVerdict s.cleared.nva.page = .lost := by
  rw [State.cleared, State.cutStore_of_storing h]
  exact pageVerdict_pageCut Vector.length_toList

theorem State.flag_cleared (f : Flag) : s.cleared.flag f = false := by
  simp [State.flag, State.cleared, State.modSvl, Svl.reset]

/-- The part as the loads leave it, before the blocks are reset. -/
theorem State.loaded_eq : ∃ page record free settings defaulted flags, s.loaded = State.resetBlocks { s with
    nva := { s.nva with page := page, plantRecord := record }
    free := free
    svl := { s.svl.reset with settings := settings, defaulted := defaulted, flags := flags } } := by
  obtain ⟨_, _, cut⟩ := s.frame_cutStore
  obtain ⟨_, _, _, _, page⟩ := (s.cutStore.modSvl Svl.reset).frame_loadPage
  obtain ⟨_, _, record⟩ := (s.cutStore.modSvl Svl.reset).loadPage.frame_loadPlantRecord
  rw [State.loaded, record, page, cut]
  exact ⟨_, _, _, _, _, _, rfl⟩

/-- The start-up scan and the rewrite change the loaded part in the records and the flags alone. -/
theorem State.scanned_loaded : s.loaded.Scanned (s.loaded.startUpScan.eachRecord State.resetRecord) :=
  (State.scanned_refl rfl rfl).startUpScan.resetRecords

theorem State.resetAll_eq_loaded : ∃ slots map atb flags, s.resetAll = { s.loaded with
    nva := { s.loaded.nva with slots := slots, map := map }
    atb := atb
    svl := { s.loaded.svl with flags := flags } } := by
  have chain : s.loaded.fcl = .reset := rfl
  have ladder : s.loaded.sld = .reset := rfl
  have table : s.loaded.rsv = .reset := rfl
  have whole : s.resetAll = (s.loaded.startUpScan.eachRecord State.resetRecord).modRsv fun _ => .reset := rfl
  obtain ⟨⟨slots, map, atb, rsv, flags, e⟩, -, -⟩ := s.scanned_loaded
  rw [whole, e]
  exact ⟨slots, map, atb, flags, by simp only [State.modRsv, chain, ladder, table]⟩

theorem State.station_resetBlocks (i : StationNo) :
    s.resetBlocks.station i = (s.station i).reset s.plantRecord.lockouts[i] s.inputFilter := by
  simp only [State.resetBlocks, State.station, Fin.getElem_fin, Vector.getElem_ofFn]

end Reset

/-! ## What a reset leaves -/

section Left

variable {s : State}

theorem State.page_cleared_of_idle (h : s.svl.store = .idle) : s.cleared.nva.page = s.nva.page ∧ s.cleared.free = s.free := by
  rw [State.cleared, State.cutStore_of_idle h]
  exact ⟨rfl, rfl⟩

theorem State.page_cleared_of_storing (h : s.svl.store ≠ .idle) :
    s.cleared.nva.page = pageCut (Config.cutPage s.free).toList ∧ s.cleared.free = s.free + 1 := by
  rw [State.cleared, State.cutStore_of_storing h]
  exact ⟨rfl, rfl⟩

variable (s)

theorem State.plantRecord_cleared : s.cleared.loadPage.nva.plantRecord = s.nva.plantRecord := by
  obtain ⟨_, _, cut⟩ := s.frame_cutStore
  obtain ⟨_, _, _, _, page⟩ := s.cleared.frame_loadPage
  rw [page, State.cleared, cut]
  rfl

theorem State.loaded_eq_resetBlocks : s.loaded = s.cleared.loadPage.loadPlantRecord.resetBlocks := rfl

/-- The settings, the page and the counter of free values are as the page load leaves them. -/
theorem State.kept_resetAll :
    s.resetAll.svl.settings = s.cleared.loadPage.svl.settings ∧
    s.resetAll.svl.defaulted = s.cleared.loadPage.svl.defaulted ∧
    s.resetAll.nva.page = s.cleared.loadPage.nva.page ∧ s.resetAll.free = s.cleared.free := by
  obtain ⟨_, _, _, _, e⟩ := s.resetAll_eq_loaded
  obtain ⟨_, _, record⟩ := s.cleared.loadPage.frame_loadPlantRecord
  obtain ⟨_, _, _, _, page⟩ := s.cleared.frame_loadPage
  have free : s.cleared.loadPage.free = s.cleared.free := by rw [page]
  rw [e, s.loaded_eq_resetBlocks, record, ← free]
  generalize s.cleared.loadPage = t
  exact ⟨rfl, rfl, rfl, rfl⟩

theorem State.plantRecord_resetAll : s.resetAll.nva.plantRecord =
    if s.nva.plantRecord.verdict = .lost then ⟨{ cause := some .recordLost, lockouts := #v[true, true, true] }, .clean⟩
    else ⟨s.plantRecord, .clean⟩ := by
  obtain ⟨_, _, _, _, e⟩ := s.resetAll_eq_loaded
  rw [e]
  dsimp only
  rw [s.loaded_eq_resetBlocks, State.nva_resetBlocks, State.plantRecord_loadPlantRecord, State.plantRecord, State.plantRecord_cleared,
    State.plantRecord]

/-- Every block but the records and the loaded values is at its reset state. -/
theorem State.blocks_resetAll :
    s.resetAll.fcl = Fcl.reset ∧ s.resetAll.fsu = Fsu.reset s.resetAll.svl.settings.pickupMode ∧
    s.resetAll.bgv = Bgv.reset ∧ s.resetAll.rsv = Rsv.reset ∧ s.resetAll.sld = Sld.reset ∧ s.resetAll.msq = Msq.reset ∧
    s.resetAll.wgc = Wgc.reset s.resetAll.plantRecord.cause.isSome ∧
    (∀ i, s.resetAll.station i =
      (s.station i).reset s.resetAll.plantRecord.lockouts[i] (s.resetAll.svl.settings.inputFilter * 8000)) ∧
    s.resetAll.svl = { s.svl.reset with
      settings := s.resetAll.svl.settings, defaulted := s.resetAll.svl.defaulted, flags := s.resetAll.svl.flags } ∧
    s.resetAll.held = s.held := by
  obtain ⟨slots, map, atb, flags, whole⟩ := s.resetAll_eq_loaded
  obtain ⟨page, record, free, settings, defaulted, flags', loaded⟩ := s.loaded_eq
  rw [whole, loaded]
  exact ⟨rfl, rfl, rfl, rfl, rfl, rfl, rfl, fun i => State.station_resetBlocks _ i, rfl, rfl⟩

variable {s} in
/-- A page that can be used gives the settings. -/
theorem State.settings_resetAll {x : Settings} (idle : s.svl.store = .idle) (h : pageSettings s.nva.page = some x) :
    s.resetAll.svl.settings = x ∧ s.resetAll.svl.defaulted = false ∧ s.resetAll.nva.page = pageRead s.nva.page := by
  obtain ⟨settings, defaulted, page, -⟩ := s.kept_resetAll
  obtain ⟨same, -⟩ := State.page_cleared_of_idle idle
  have given : pageSettings s.cleared.nva.page = some x := by
    rw [same]
    exact h
  rw [settings, defaulted, page, ← same]
  exact s.cleared.settings_loadPage given

variable {s} in
/-- A page that cannot be used leaves the defaults, and stays as it is. -/
theorem State.defaults_resetAll (h : pageSettings s.cleared.nva.page = none) :
    s.resetAll.svl.settings = .defaults ∧ s.resetAll.svl.defaulted = true ∧
      s.resetAll.nva.page = s.cleared.nva.page := by
  obtain ⟨settings, defaulted, page, -⟩ := s.kept_resetAll
  rw [settings, defaulted, page]
  exact s.cleared.defaults_loadPage h

/-- A page read with nothing to give: its store was cut, it is uncorrectable, or its contents do not pass. -/
theorem State.pageSettings_cleared_eq_none (h : s.svl.store ≠ .idle ∨ pageVerdict s.nva.page = .lost ∨
    pageDecode ((pageRead s.nva.page).take 281) = none) : pageSettings s.cleared.nva.page = none := by
  by_cases idle : s.svl.store = .idle
  · rw [(State.page_cleared_of_idle idle).1]
    obtain busy | lost | undecoded := h
    · exact absurd idle busy
    · exact pageSettings_of_lost lost
    · by_cases lost : pageVerdict s.nva.page = .lost
      · exact pageSettings_of_lost lost
      · exact (pageSettings_of_read lost).trans undecoded
  · exact pageSettings_of_lost (State.pageVerdict_cleared idle)

/-! ### The flags -/

theorem State.flag_resetBlocks (f : Flag) : s.resetBlocks.flag f = s.flag f := rfl

theorem State.flag_modRsv (g : Rsv → Rsv) (f : Flag) : (s.modRsv g).flag f = s.flag f := rfl

theorem State.flag_resetAll (f : Flag) :
    s.resetAll.flag f = (s.loaded.startUpScan.eachRecord State.resetRecord).flag f := by
  have whole : s.resetAll = (s.loaded.startUpScan.eachRecord State.resetRecord).modRsv fun _ => .reset := rfl
  rw [whole, State.flag_modRsv]

/-- The loads latch RECORD_CORRECTED for a page or a plant record corrected, RECORD_SUSPECT for a plant record lost, and
SETTINGS_DEFAULTED for a page that cannot be used. -/
theorem State.flag_loaded (f : Flag) : s.loaded.flag f = true ↔
    (f = .recordCorrected ∧ s.nva.plantRecord.verdict = .oneFlip) ∨
    (f = .recordSuspect ∧ s.nva.plantRecord.verdict = .lost) ∨
    (f = .recordCorrected ∧ pageVerdict s.cleared.nva.page = .oneFlip ∧ pageSettings s.cleared.nva.page ≠ none) ∨
    (f = .settingsDefaulted ∧ s.resetAll.svl.defaulted = true) := by
  have clear : ¬ s.cleared.flag f = true := by rw [s.flag_cleared]; exact Bool.false_ne_true
  obtain ⟨-, defaulted, -, -⟩ := s.kept_resetAll
  rw [s.loaded_eq_resetBlocks, State.flag_resetBlocks, State.flag_loadPlantRecord, State.flag_loadPage,
    s.plantRecord_cleared, defaulted, iff_false_intro clear, or_false]

/-- The scan clears no flag. -/
theorem State.flag_resetAll_of_loaded {f : Flag} (h : s.loaded.flag f = true) : s.resetAll.flag f = true := by
  rw [s.flag_resetAll]
  exact s.scanned_loaded.raised f h

/-- The scan latches none but the two flags of a record. -/
theorem State.flag_resetAll_iff {f : Flag} (corrected : f ≠ .recordCorrected) (suspect : f ≠ .recordSuspect) :
    s.resetAll.flag f = true ↔ f = .settingsDefaulted ∧ s.resetAll.svl.defaulted = true := by
  have scanned : (s.loaded.startUpScan.eachRecord State.resetRecord).flag f = true ↔ s.loaded.flag f = true :=
    ⟨s.scanned_loaded.only f corrected suspect, s.scanned_loaded.raised f⟩
  rw [s.flag_resetAll, scanned, s.flag_loaded]
  simp only [corrected, suspect, false_and, false_or]

variable {s} in
/-- A scan that finds nothing to correct latches nothing. -/
theorem State.flag_resetAll_of_allRead (h : s.allRead) (f : Flag) : s.resetAll.flag f = s.loaded.flag f := by
  obtain ⟨_, _, _, _, _, _, _, frame⟩ := (State.resetBelow_resetRecords (s := s.loaded)).frame
  rw [State.resetAll_eq h, State.flag_modRsv, frame]
  generalize s.loaded = t
  rfl

end Left

/-- The end of the start-up work (R32, R35, R190). -/
theorem State.startUp_eq (s : State) : s.startUp = { s with
    svl := { s.svl with startedUp := true, flags := s.svl.flags ||| 1#21 }
    fcl := { s.fcl with roundTimer := some (s.svl.settings.roundPeriod * 8000) } } := by
  have bit : BitVec.twoPow 21 Flag.restarted.bit = 1#21 := by decide
  simp only [State.startUp, State.latch, State.modSvl, State.modFcl, bit, State.set_eq, millis]

theorem exec_startUpComplete {s : State} (h : s.held = false) :
    exec .startUpComplete s = .next (if s.svl.startedUp = true then s else s.startUp) :=
  unlessHeld_of_released (fun s => if s.svl.startedUp then s else s.startUp) h

/-- Settles O16: the loads fix the settings, the page and the plant record, and the scan that follows, finding every outlet
open and the watch empty, changes only the records and the two flags of reading one. -/
theorem resetGivesTheStatedState : Obligations.ResetGivesTheStatedState := by
  refine ⟨fun s => ⟨s.resetAll, rfl, ?_⟩, fun s released => ⟨fun starting => ?_, fun started => ?_⟩⟩
  · obtain ⟨fcl, fsu, bgv, rsv, sld, msq, wgc, station, svl, held⟩ := s.blocks_resetAll
    obtain ⟨-, -, -, free⟩ := s.kept_resetAll
    have flags := s.flag_loaded
    have record := s.plantRecord_resetAll
    refine ⟨fcl, fsu, bgv, rsv, sld, msq, wgc, station, svl, held,
      ⟨fun x decoded idle readable => ?_, fun unusable => ?_, fun idle => ?_, fun busy => ?_, fun reads clean unmended => ?_⟩,
      fun reads kept => ?_, ?_, fun f dflt corrected suspect => ?_, fun kept => ?_, fun flipped => ?_, fun lost => ?_⟩
    · have used : pageSettings s.nva.page = some x := (pageSettings_of_read readable).trans decoded
      obtain ⟨settings, usable, page⟩ := State.settings_resetAll idle used
      refine ⟨settings, usable, page, fun flipped => s.flag_resetAll_of_loaded ((flags _).2 (.inr (.inr (.inl ?_))))⟩
      rw [(State.page_cleared_of_idle idle).1, used]
      exact ⟨rfl, flipped, Option.some_ne_none x⟩
    · obtain ⟨settings, defaulted, -⟩ := State.defaults_resetAll (s.pageSettings_cleared_eq_none unusable)
      exact ⟨settings, defaulted⟩
    · obtain ⟨page, drawn⟩ := State.page_cleared_of_idle idle
      refine ⟨free.trans drawn, fun unusable => ?_⟩
      obtain ⟨-, -, left⟩ := State.defaults_resetAll (s.pageSettings_cleared_eq_none (.inr unusable))
      exact left.trans page
    · obtain ⟨page, drawn⟩ := State.page_cleared_of_storing busy
      obtain ⟨-, -, left⟩ := State.defaults_resetAll (s.pageSettings_cleared_eq_none (.inl busy))
      exact ⟨free.trans drawn, left.trans page, by rw [left]; exact State.pageVerdict_cleared busy⟩
    · have unflipped : pageVerdict s.cleared.nva.page ≠ .oneFlip := by
        by_cases idle : s.svl.store = .idle
        · rw [(State.page_cleared_of_idle idle).1]
          exact unmended.resolve_left (not_not.2 idle)
        · rw [State.pageVerdict_cleared idle]
          decide
      rw [State.flag_resetAll_of_allRead reads, ← Bool.not_eq_true, flags]
      simp [clean, unflipped]
    · rw [State.flag_resetAll_of_allRead reads, ← Bool.not_eq_true, flags]
      simp [kept]
    · rw [Bool.eq_iff_iff, s.flag_resetAll_iff (by decide) (by decide)]
      simp
    · rw [← Bool.not_eq_true, s.flag_resetAll_iff corrected suspect]
      exact fun h => dflt h.1
    · rw [record, if_neg kept]
    · exact s.flag_resetAll_of_loaded ((flags _).2 (.inl ⟨rfl, flipped⟩))
    · refine ⟨s.flag_resetAll_of_loaded ((flags _).2 (.inr (.inl ⟨rfl, lost⟩))), ?_⟩
      rw [record, if_pos lost]
  · rw [exec_startUpComplete released, if_neg (by rw [starting]; exact Bool.false_ne_true), State.startUp_eq]
  · rw [exec_startUpComplete released, if_pos started]

end Sys2Proof.Machine

/-! # The laws of the measuring blocks (O53)

The frequency law reads eight values of the Frequency and Speed Unit, its gauges; the converter law reads the Measurement
Sequencer alone. One relation between two states says that the published frequency stands and that both laws carry over;
every event but a period event and a reset is a chain of such changes. -/

namespace Sys2Proof.Machine

/-! ## The gauges of the Frequency and Speed Unit -/

/-- What the frequency law reads. -/
def Fsu.gauges (u : Fsu) : Nat × Nat × Bool × Nat × Vector Nat 3 × Nat × Nat × Bool :=
  (u.freq, u.rejections, u.freqValid, u.shaftSpeed, u.arborSpeed, u.badRun, u.goodRun, u.pickupFault)

/-- The frequency law, of the unit alone. -/
structure Fsu.Lawful (u : Fsu) : Prop where
  low : 30000 ≤ u.freq
  high : u.freq ≤ 70000
  rejected : u.rejections ≤ 3
  valid : u.freqValid = true → u.rejections < 3
  shaft : u.shaftSpeed ≤ 2000
  arbor : ∀ i : Fin 3, u.arborSpeed[i] ≤ 2000
  bad : u.badRun ≤ 3
  good : u.goodRun ≤ 3
  sound : u.pickupFault = false → u.badRun < 3
  faulty : u.pickupFault = true → u.goodRun < 3

theorem State.frequencyLaw_iff {s : State} : s.frequencyLaw ↔ s.fsu.Lawful :=
  ⟨fun ⟨low, high, rejected, valid, shaft, arbor, bad, good, sound, faulty⟩ =>
    ⟨low, high, rejected, valid, shaft, arbor, bad, good, sound, faulty⟩,
   fun ⟨low, high, rejected, valid, shaft, arbor, bad, good, sound, faulty⟩ =>
    ⟨low, high, rejected, valid, shaft, arbor, bad, good, sound, faulty⟩⟩

theorem Fsu.Lawful.congr {u v : Fsu} (h : u.Lawful) (e : v.gauges = u.gauges) : v.Lawful := by
  simp only [Fsu.gauges, Prod.mk.injEq] at e
  obtain ⟨freq, rejections, valid, shaft, arbor, bad, good, fault⟩ := e
  constructor <;> simp only [freq, rejections, valid, shaft, arbor, bad, good, fault, h.low, h.high, h.rejected,
    h.shaft, h.arbor, h.bad, h.good, implies_true]
  exacts [h.valid, h.sound, h.faulty]

theorem Fsu.lawful_reset (mode : PickupMode) : (Fsu.reset mode).Lawful := by
  constructor <;> simp [Fsu.reset]

/-! ## The converter and its slots -/

/-- Nothing waits for the converter (R147). -/
def Msq.quiet (m : Msq) : Prop :=
  m.slot1.lowest = none ∧ m.slot2 = false ∧ m.slot3 = false ∧ m.slot4 = none ∧ m.runCount = 0

/-- An entry whose freshness timer and value agree with its state (R144). -/
def Reading.Entered (x : Reading) : Prop :=
  (x.timer.isSome = true ↔ x.state = .fresh) ∧ (x.state = .absent ↔ x.value = none)

/-- A conversion that its source can ask for (R149, R150). -/
def Source.converts (src : Source) (c : ChannelNo) : Prop :=
  (src = .slot1 → (stageOf c).isSome = true) ∧ (src = .slot2 → c = 3) ∧ (src = .slot3 → c = 4)

/-- The converter law but for the arbiter's choice. -/
structure Msq.Ordered (m : Msq) : Prop where
  asked : ∀ src c, m.conv = .converting src c → src.converts c
  idle : m.state ≠ .running → m.conv = .free ∧ m.quiet ∧ m.scan = none ∧ ∀ c : ChannelNo, m.entries[c].state = .absent
  entered : ∀ c : ChannelNo, m.entries[c].Entered

/-- The converter law, between two events (`half` false) and inside the event of a completion (R143). -/
structure Msq.Sound (half : Bool) (m : Msq) : Prop extends m.Ordered where
  busy : m.state = .running → m.conv = .free → m.quiet
  completing : m.conv = .completing ↔ half = true

theorem State.converterLaw_iff {s : State} : s.converterLaw ↔ s.msq.Sound false := by
  constructor
  · rintro ⟨whole, asked, idle, busy, timed, valued⟩
    refine ⟨⟨fun src c conv => ⟨?_, ?_, ?_⟩, fun out => ?_, fun c => ⟨timed c, valued c⟩⟩, busy, by simp [whole]⟩
    · rintro rfl; exact (asked c).1 conv
    · rintro rfl; exact (asked c).2.1 conv
    · rintro rfl; exact (asked c).2.2 conv
    · obtain ⟨free, s1, s2, s3, s4, run, scan, entries⟩ := idle out
      exact ⟨free, ⟨s1, s2, s3, s4, run⟩, scan, entries⟩
  · rintro ⟨⟨asked, idle, entered⟩, busy, completing⟩
    refine ⟨by simp [completing], fun c => ⟨fun conv => ?_, fun conv => ?_, fun conv => ?_⟩, fun out => ?_, busy,
      fun c => (entered c).1, fun c => (entered c).2⟩
    · exact (asked _ c conv).1 rfl
    · exact (asked _ c conv).2.1 rfl
    · exact (asked _ c conv).2.2 rfl
    · obtain ⟨free, ⟨s1, s2, s3, s4, run⟩, scan, entries⟩ := idle out
      exact ⟨free, s1, s2, s3, s4, run, scan, entries⟩

section Converter

variable {m : Msq} {half : Bool}

theorem Msq.Sound.running_of_busy (h : m.Sound half) (busy : m.conv ≠ .free) : m.state = .running :=
  Decidable.byContradiction fun out => busy (h.idle out).1

theorem stageOf_channel (g : Stage) : stageOf g.channel = some g := by cases g <;> rfl

/-- A change in RUNNING that keeps the entries is judged by the conversion under way alone. -/
theorem Msq.Ordered.of_running {n : Msq} (h : m.Ordered) (running : n.state = .running)
    (entries : n.entries = m.entries)
    (asked : ∀ src c, n.conv = .converting src c → src.converts c) : n.Ordered :=
  ⟨asked, fun out => absurd running out, fun c => entries ▸ h.entered c⟩

/-- A conversion that begins in RUNNING. -/
theorem Msq.Ordered.begins {n : Msq} {src : Source} {c : ChannelNo} (h : m.Ordered) (running : n.state = .running)
    (entries : n.entries = m.entries) (conv : n.conv = .converting src c) (asked : src.converts c) : n.Sound false where
  toOrdered := h.of_running running entries fun src' c' e => by
    obtain ⟨rfl, rfl⟩ : src = src' ∧ c = c' := by simpa [conv] using e
    exact asked
  busy _ free := by simp [conv] at free
  completing := by simp [conv]

/-- The arbiter's choice (R147): whatever waited before, after it nothing waits for a free converter. -/
theorem Msq.Ordered.arbitrate (h : m.Ordered) (completing : m.conv = .completing ↔ half = true)
    (list : List ChannelNo) : (m.arbitrate list).Sound half := by
  unfold Msq.arbitrate
  split
  case isFalse busy => exact ⟨h, fun running free => absurd ⟨running, free⟩ busy, completing⟩
  case isTrue free =>
    obtain ⟨running, free⟩ := free
    obtain rfl : half = false := by simpa [free] using completing
    split
    next g _ => exact h.begins running rfl rfl ⟨fun _ => by rw [stageOf_channel]; rfl, nofun, nofun⟩
    next none1 =>
      split
      · exact h.begins running rfl rfl ⟨nofun, fun _ => rfl, nofun⟩
      next none2 =>
        split
        · exact h.begins running rfl rfl ⟨nofun, nofun, fun _ => rfl⟩
        next none3 =>
          split
          · exact h.begins running rfl rfl ⟨nofun, nofun, nofun⟩
          next none4 =>
            split
            · exact h.begins running rfl rfl ⟨nofun, nofun, nofun⟩
            next none5 =>
              exact ⟨h, fun _ _ => ⟨none1, by simpa using none2, by simpa using none3, none4, by omega⟩, completing⟩

/-- An abandoned routine conversion frees the converter (R148). -/
theorem Msq.Ordered.abandonRoutine (h : m.Ordered) : m.abandonRoutine.Ordered := by
  unfold Msq.abandonRoutine
  split
  · exact ⟨nofun, fun out => ⟨rfl, (h.idle out).2⟩, h.entered⟩
  · exact h

theorem Msq.completing_abandonRoutine (m : Msq) : m.abandonRoutine.conv = .completing ↔ m.conv = .completing := by
  unfold Msq.abandonRoutine
  split
  case isFalse => exact Iff.rfl
  case isTrue routine =>
    have whole : m.conv ≠ .completing := fun e => by simp [Msq.convertingFor, e] at routine
    simp [whole]

/-- A trigger in RUNNING: what waits changes, a routine conversion is abandoned and the arbiter chooses. -/
theorem Msq.Sound.trigger {n : Msq} (h : m.Sound half) (running : n.state = .running) (entries : n.entries = m.entries)
    (conv : n.conv = m.conv) (list : List ChannelNo) : (n.abandonRoutine.arbitrate list).Sound half :=
  (h.of_running running entries (conv ▸ h.asked)).abandonRoutine.arbitrate
    (by rw [Msq.completing_abandonRoutine, conv, h.completing]) list

/-- A change of one entry that keeps it in order, and an ABSENT one as it was outside RUNNING. -/
theorem Msq.Sound.enter (h : m.Sound half) (c : ChannelNo) (f : Reading → Reading)
    (entered : m.entries[c].Entered → (f m.entries[c]).Entered)
    (absent : m.state ≠ .running → m.entries[c].state = .absent → (f m.entries[c]).state = .absent) :
    ({ m with entries := m.entries.set c (f m.entries[c]) } : Msq).Sound half where
  asked := h.asked
  idle out := by
    obtain ⟨free, quiet, scan, entries⟩ := h.idle out
    refine ⟨free, quiet, scan, fun k => ?_⟩
    simp only [Fin.getElem_fin, Vector.getElem_set]
    split
    · exact absent out (entries c)
    · exact entries k
  entered k := by
    simp only [Fin.getElem_fin, Vector.getElem_set]
    split
    · exact entered (h.entered c)
    · exact h.entered k
  busy := h.busy
  completing := h.completing

theorem Msq.sound_reset : Msq.reset.Sound false where
  asked := nofun
  idle _ := ⟨rfl, ⟨rfl, rfl, rfl, rfl, rfl⟩, rfl, by decide⟩
  entered := by simp only [Reading.Entered]; decide
  busy := nofun
  completing := by decide

end Converter

end Sys2Proof.Machine

namespace Sys2Proof.Machine

/-! ## Single fields that an operation leaves -/

section Fields

variable (s : State)

theorem State.fsu_promptEvaluation : s.promptEvaluation.fsu = s.fsu := by simp
theorem State.fsu_governorUpdate : s.governorUpdate.fsu = s.fsu := by simp
theorem State.bgv_governorUpdate : s.governorUpdate.bgv = s.bgv := by simp
theorem State.msq_governorUpdate : s.governorUpdate.msq = s.msq := by simp
theorem State.fsu_governorPeriod : s.governorPeriod.fsu = s.fsu := by simp
theorem State.fsu_shaftOverTest : s.shaftOverTest.fsu = s.fsu := by simp
theorem State.bgv_triggerStage (g : Stage) : (s.triggerStage g).bgv = s.bgv := by simp
theorem State.spu_readRecord (n : RecNo) : (s.readRecord n).spu = s.spu := by simp

end Fields

/-! ## The slip check and the loss of the frequency (R54, R63) -/

section Loss

variable {s t : State}

theorem State.fsu_slipTest : s.slipTest.fsu = { s.fsu with
    slip := s.fsu.slip.followUnlessSpent s.slipCondition s.fsu.slipSpent (seconds 2)
    slipSpent := s.slipCondition && s.fsu.slipSpent } := rfl

theorem State.fsu_slipTest_of_not (h : s.slipCondition = false) :
    s.slipTest.fsu = { s.fsu with slip := none, slipSpent := false } := by
  rw [State.fsu_slipTest, h]
  rfl

/-- The slip condition, of what it reads (R63). -/
def slipHolds (plant : PlantState) (x : Settings) (u : Fsu) : Bool :=
  plant = .onLine && u.freqValid && !u.pickupFault &&
    decide (50 < (((u.freq * 1000 / x.fset : Nat) : Int) - (u.shaftSpeed : Int)).natAbs)

theorem State.slipCondition_eq : s.slipCondition = slipHolds s.wgc.plant s.svl.settings s.fsu := rfl

theorem State.slipCondition_congr (plant : t.wgc.plant = s.wgc.plant) (set : t.svl.settings = s.svl.settings)
    (fsu : t.fsu = s.fsu) : t.slipCondition = s.slipCondition := by
  rw [State.slipCondition_eq, State.slipCondition_eq, plant, set, fsu]

theorem State.fsu_slipTest_congr (plant : t.wgc.plant = s.wgc.plant) (set : t.svl.settings = s.svl.settings)
    (fsu : t.fsu = s.fsu) : t.slipTest.fsu = s.slipTest.fsu := by
  rw [State.fsu_slipTest, State.fsu_slipTest, State.slipCondition_congr plant set fsu, fsu]

theorem State.slipCondition_of_plant (h : s.plant ≠ .onLine) : s.slipCondition = false := by
  simp [State.slipCondition, h]

theorem State.slipCondition_of_invalid (h : s.fsu.freqValid = false) : s.slipCondition = false := by
  simp [State.slipCondition, h]

/-- Of the unit a change of plant state reaches the slip check alone (R63). -/
theorem State.fsu_plantChanged : s.plantChanged.fsu = s.slipTest.fsu :=
  (State.fsu_promptEvaluation _).trans (State.fsu_slipTest_congr (by simp) (by simp) (by simp))

/-- The rest test reaches the slip check alone, and a machine at rest is not ON-LINE. -/
theorem State.fsu_restTest_of_idle (slip : s.fsu.slip = none) (spent : s.fsu.slipSpent = false) :
    s.restTest.fsu = s.fsu := by
  unfold State.restTest
  split
  · have still : (s.modWgc fun w =>
        { w with plant := .standstill, freqOver := none, shaftOver := none }).slipCondition = false :=
      State.slipCondition_of_plant (show PlantState.standstill ≠ .onLine by decide)
    refine State.fsu_plantChanged.trans ((State.fsu_slipTest_of_not still).trans ?_)
    show { s.fsu with slip := none, slipSpent := false } = s.fsu
    rw [← slip, ← spent]
  · rfl

/-- The frequency marked invalid, the governor in HOLDING and the ladder's tests made (R54, R69). -/
def State.loseFrequency (s : State) : State :=
  ((s.modFsu fun u => { u with freqValid := false }).governorLosesFrequency).stepTest.collapseTests

/-- The first-level action of a loss in ON-LINE (R110). -/
def State.shedOnLoss (s : State) : State :=
  if s.loseFrequency.plant = .onLine then s.loseFrequency.collapseFirst else s.loseFrequency

/-- The other blocks make their tests (R129, R161, R167, R63). -/
def State.tellLoss (s : State) : State := s.shedOnLoss.dipTest.waterTakesFrequency.slipTest

theorem State.frequencyLost_eq :
    s.frequencyLost = if s.tellLoss.bgv.state = s.bgv.state then s.tellLoss else s.tellLoss.restTest := rfl

theorem State.fsu_loseFrequency : s.loseFrequency.fsu = { s.fsu with freqValid := false } := by
  simp [State.loseFrequency]

theorem State.fsu_shedOnLoss : s.shedOnLoss.fsu = { s.fsu with freqValid := false } := by
  unfold State.shedOnLoss
  split <;> simp [State.fsu_loseFrequency]

theorem State.fsu_tellLoss : s.tellLoss.fsu = { s.fsu with freqValid := false, slip := none, slipSpent := false } := by
  have told : s.shedOnLoss.dipTest.waterTakesFrequency.fsu = { s.fsu with freqValid := false } := by
    simp [State.fsu_shedOnLoss]
  exact (State.fsu_slipTest_of_not (State.slipCondition_of_invalid (by rw [told]))).trans (by rw [told])

theorem State.fsu_frequencyLost :
    s.frequencyLost.fsu = { s.fsu with freqValid := false, slip := none, slipSpent := false } := by
  rw [State.frequencyLost_eq]
  split
  · exact State.fsu_tellLoss
  · rw [State.fsu_restTest_of_idle] <;> rw [State.fsu_tellLoss]

/-- The state with a rejection counted, up to 3 (R52). -/
def State.countRejection (s : State) : State := s.modFsu fun u => { u with rejections := min 3 (u.rejections + 1) }

/-- The third rejection of a run makes a valid frequency invalid (R54). -/
theorem State.reject_of_third (run : 2 ≤ s.fsu.rejections) (valid : s.fsu.freqValid = true) :
    s.reject = s.countRejection.frequencyLost :=
  if_pos ⟨Nat.min_eq_left (by omega), valid⟩

theorem State.reject_of_other (h : s.fsu.rejections < 2 ∨ s.fsu.freqValid = false) : s.reject = s.countRejection := by
  refine if_neg fun ⟨third, valid⟩ => ?_
  obtain run | invalid := h
  · simp only [State.modFsu_fsu] at third
    omega
  · simp [invalid] at valid

theorem State.fsu_reject : s.reject.fsu =
    if 2 ≤ s.fsu.rejections ∧ s.fsu.freqValid = true then
      { s.fsu with rejections := 3, freqValid := false, slip := none, slipSpent := false }
    else { s.fsu with rejections := min 3 (s.fsu.rejections + 1) } := by
  split
  case isTrue lost =>
    rw [State.reject_of_third lost.1 lost.2, State.fsu_frequencyLost]
    simp [State.countRejection, Nat.min_eq_left (show 3 ≤ s.fsu.rejections + 1 by omega)]
  case isFalse kept =>
    rw [State.reject_of_other (by grind)]
    rfl

end Loss


/-! ## What every event but a period event and a reset does to both blocks -/

/-- From one state to another the published frequency stands and both laws carry over. -/
structure State.Measured (r s : State) : Prop where
  freq : s.fsu.freq = r.fsu.freq
  frequency : r.fsu.Lawful → s.fsu.Lawful
  converter : ∀ half, r.msq.Sound half → s.msq.Sound half

namespace State.Measured

variable {r s t : State}

theorem refl (s : State) : s.Measured s := ⟨rfl, id, fun _ => id⟩

theorem trans (h : r.Measured s) (h' : s.Measured t) : r.Measured t :=
  ⟨h'.freq.trans h.freq, fun law => h'.frequency (h.frequency law),
    fun half law => h'.converter half (h.converter half law)⟩

theorem ite {c : Prop} [Decidable c] (ht : r.Measured s) (hf : r.Measured t) : r.Measured (if c then s else t) := by
  split
  exacts [ht, hf]

theorem gauged (h : r.Measured s) (gauges : t.fsu.gauges = s.fsu.gauges) (msq : t.msq = s.msq) : r.Measured t :=
  h.trans ⟨congrArg Prod.fst gauges, fun law => law.congr gauges, fun _ law => msq ▸ law⟩

theorem same (h : r.Measured s) (fsu : t.fsu = s.fsu) (msq : t.msq = s.msq) : r.Measured t :=
  h.gauged (by rw [fsu]) msq

/-! Updates of the other blocks. -/

theorem modNva (h : r.Measured s) (f : Nva → Nva) : r.Measured (s.modNva f) := h.same rfl rfl
theorem modFcl (h : r.Measured s) (f : Fcl → Fcl) : r.Measured (s.modFcl f) := h.same rfl rfl
theorem modBgv (h : r.Measured s) (f : Bgv → Bgv) : r.Measured (s.modBgv f) := h.same rfl rfl
theorem modRsv (h : r.Measured s) (f : Rsv → Rsv) : r.Measured (s.modRsv f) := h.same rfl rfl
theorem modSld (h : r.Measured s) (f : Sld → Sld) : r.Measured (s.modSld f) := h.same rfl rfl
theorem modSpu (h : r.Measured s) (f : Vector Station 3 → Vector Station 3) : r.Measured (s.modSpu f) := h.same rfl rfl
theorem modWgc (h : r.Measured s) (f : Wgc → Wgc) : r.Measured (s.modWgc f) := h.same rfl rfl
theorem modSvl (h : r.Measured s) (f : Svl → Svl) : r.Measured (s.modSvl f) := h.same rfl rfl
theorem latch (h : r.Measured s) (f : Flag) : r.Measured (s.latch f) := h.same rfl rfl

theorem modMsq (h : r.Measured s) (f : Msq → Msq) (sound : ∀ half, s.msq.Sound half → (f s.msq).Sound half) :
    r.Measured (s.modMsq f) := h.trans ⟨rfl, id, sound⟩

/-! ### Triggers and entries of the sequencer -/

theorem modReading (h : r.Measured s) (c : ChannelNo) (f : Reading → Reading)
    (entered : (s.reading c).Entered → (f (s.reading c)).Entered)
    (absent : s.msq.state ≠ .running → (s.reading c).state = .absent → (f (s.reading c)).state = .absent) :
    r.Measured (s.modReading c f) := h.modMsq _ fun _ law => law.enter c f entered absent

theorem triggerStage (h : r.Measured s) (g : Stage) : r.Measured (s.triggerStage g) := h.modMsq _ fun _ law => by
  split
  next waits => exact law.trigger (n := { s.msq with slot1 := s.msq.slot1.put true g }) waits.1 rfl rfl _
  next => exact law

theorem triggerGate (h : r.Measured s) : r.Measured s.triggerGate := h.modMsq _ fun _ law => by
  split
  next waits => exact law.trigger (n := { s.msq with slot2 := true }) waits.1 rfl rfl _
  next => exact law

theorem triggerVoltage (h : r.Measured s) : r.Measured s.triggerVoltage := h.modMsq _ fun _ law => by
  split
  next waits => exact law.trigger (n := { s.msq with slot3 := true }) waits.1 rfl rfl _
  next => exact law

theorem triggerSample (h : r.Measured s) (c : ChannelNo) (running : s.msq.state = .running) :
    r.Measured (s.triggerSample c) := h.modMsq _ fun _ law =>
    law.trigger (n := { s.msq with slot4 := some c }) running rfl rfl _

theorem clearRuns (h : r.Measured s) (c : ChannelNo) : r.Measured (s.clearRuns c) := h.modReading _ _ id fun _ => id

/-! ### The gate and the plant -/

theorem stepToward (h : r.Measured s) (v : Int) : r.Measured (s.stepToward v) := h.modWgc _

theorem checkGate (h : r.Measured s) : r.Measured s.checkGate := (h.modWgc _).triggerGate

theorem startMove (h : r.Measured s) : r.Measured s.startMove := by
  unfold State.startMove
  dsimp only
  split
  · exact .ite (h.modWgc _).checkGate ((h.modWgc _).stepToward _)
  · exact (h.modWgc _).modWgc _

theorem setTarget (h : r.Measured s) (target : Nat) : r.Measured (s.setTarget target) := .ite h (h.modWgc _).startMove

theorem gateReading (h : r.Measured s) (v : Int) (fromSlot2 : Bool) : r.Measured (s.gateReading v fromSlot2) := by
  unfold State.gateReading
  split
  · exact .ite h.checkGate (h.stepToward v)
  · exact .ite (.ite (h.modWgc _) (h.stepToward v)) h
  · exact h
  · exact h

theorem plantChanged (h : r.Measured s) : r.Measured s.plantChanged := h.gauged (by simp [Fsu.gauges]) (by simp)

theorem trip (h : r.Measured s) (cause : TripCause) : r.Measured (s.trip cause) := by
  unfold State.trip
  split
  · exact h
  · exact .ite h.startMove h
  · exact ((((h.modNva _).modWgc _).setTarget 0).latch .trip).plantChanged

theorem runDown (h : r.Measured s) : r.Measured s.runDown := by
  have down := (((h.modWgc fun w => { w.quiet with plant := .runDown }).setTarget 0).latch .runDown).plantChanged
  unfold State.runDown
  split
  exacts [down, down, down, h]

theorem clearTrip (h : r.Measured s) : r.Measured s.clearTrip :=
  plantChanged (.ite ((h.modNva _).modWgc _).startMove ((h.modNva _).modWgc _))

theorem enterRunUp (h : r.Measured s) : r.Measured s.enterRunUp :=
  have entered := ((h.modWgc fun w =>
    { w with plant := .runUp, emergency := false, runup := some (seconds s.set.runupTime), sync := none }).setTarget
      (min s.set.runupGate s.set.gateCeiling)).plantChanged
  .ite (entered.trip .bearingHot) entered

theorem shortTest (h : r.Measured s) : r.Measured s.shortTest := h.same (by simp) (by simp)

theorem goOnLine (h : r.Measured s) : r.Measured s.goOnLine := (h.modWgc _).shortTest.plantChanged

theorem enterWaterShort (h : r.Measured s) : r.Measured s.enterWaterShort :=
  ((h.modWgc _).latch .waterShort).plantChanged

theorem leaveWaterShort (h : r.Measured s) : r.Measured s.leaveWaterShort :=
  ((h.modWgc _).latch .waterShort).shortTest.plantChanged

theorem restTest (h : r.Measured s) : r.Measured s.restTest := h.gauged (by simp [Fsu.gauges]) (by simp)

theorem reverseTest (h : r.Measured s) : r.Measured s.reverseTest := .ite (h.trip .reverse) h

theorem changeTarget (h : r.Measured s) (target : Nat) : r.Measured (s.changeTarget target) :=
  .ite h (h.setTarget target).shortTest

theorem levelEvaluation (h : r.Measured s) (v : Int) : r.Measured (s.levelEvaluation v) :=
  ((Measured.ite (h.latch .residualShort) h).modWgc _).changeTarget _

theorem rackCheck (h : r.Measured s) : r.Measured s.rackCheck := by
  unfold State.rackCheck
  split
  · exact .ite ((Measured.ite (h.latch .rackAlarm) h).modWgc _).runDown ((Measured.ite (h.latch .rackAlarm) h).modWgc _)
  · exact h

theorem headCheck (h : r.Measured s) : r.Measured s.headCheck := by
  unfold State.headCheck
  split
  · exact .ite (h.modWgc _).runDown (h.modWgc _)
  · exact h

theorem levelReading (h : r.Measured s) (v : Int) : r.Measured (s.levelReading v) := by
  have stop {t : State} (h : r.Measured t) : r.Measured (if v < t.set.stopLevel then t.runDown else t) :=
    .ite h.runDown h
  have recover {t : State} (h : r.Measured t) : r.Measured (if t.plant = .waterShort ∧
      (t.set.targetLevel : Int) + t.set.deadband ≤ v then t.leaveWaterShort else t) := .ite h.leaveWaterShort h
  have evaluate {t : State} (h : r.Measured t) : r.Measured (if t.wgc.evalPending then t.levelEvaluation v else t) :=
    .ite (h.levelEvaluation v) h
  exact (evaluate (recover (stop (h.modWgc fun w => { w with levelLost := none })).headCheck)).shortTest

theorem waterReading (h : r.Measured s) (c : ChannelNo) (v : Int) (fromSlot2 : Bool) :
    r.Measured (s.waterReading c v fromSlot2) := by
  unfold State.waterReading
  split
  · exact h.levelReading v
  · exact h.rackCheck
  · exact h.headCheck
  · exact (h.gateReading v fromSlot2).restTest
  · exact h

theorem levelLostExpiry (h : r.Measured s) : r.Measured s.levelLostExpiry := ((h.modWgc _).latch .levelLost).runDown

theorem gateTimeout (h : r.Measured s) : r.Measured s.gateTimeout := (h.modWgc _).trip .gateFault

/-! ### The governor -/

theorem governorPeriod (h : r.Measured s) : r.Measured s.governorPeriod := by
  have test {t : State} (h : r.Measured t) : r.Measured (if s.bgv.trim < 128 ∧ 128 ≤ t.bgv.trim then
      t.triggerStage .trim else t) := .ite (h.triggerStage .trim) h
  exact .ite h ((test (h.modBgv fun b => b.compute s.set s.fsu.freq)).same
    (State.fsu_governorUpdate _) (by simp))

theorem testIfJoined (h : r.Measured s) (before : Banks) (g : Stage) : r.Measured (s.testIfJoined before g) :=
  .ite (h.triggerStage g) h

theorem switchingInstant (h : r.Measured s) : r.Measured s.switchingInstant :=
  .ite h (((((h.modBgv _).testIfJoined _ .a).testIfJoined _ .b).testIfJoined _ .c).testIfJoined _ .d)

theorem holdExpiry (h : r.Measured s) : r.Measured s.holdExpiry := by
  have tripped := (h.modBgv fun b => { b with hold := some (seconds 1) }).trip .freqLost
  have rested : r.Measured s.governorInactive.restTest := restTest (h.same (by simp) (by simp))
  unfold State.holdExpiry
  split
  exacts [tripped, tripped, tripped, rested, rested, h]

/-! ### The frequency and the shaft -/

/-- A change of the unit that keeps the published frequency and the law. -/
theorem modFsu (h : r.Measured s) (f : Fsu → Fsu) (freq : (f s.fsu).freq = s.fsu.freq)
    (law : s.fsu.Lawful → (f s.fsu).Lawful) : r.Measured (s.modFsu f) := h.trans ⟨freq, law, fun _ => id⟩

theorem reject (h : r.Measured s) : r.Measured s.reject := by
  refine h.trans ⟨?_, fun law => ?_, fun half law => by simpa using law⟩
  · rw [State.fsu_reject]
    split <;> rfl
  · rw [State.fsu_reject]
    split
    case isTrue => exact { law with rejected := Nat.le_refl 3, valid := nofun }
    case isFalse kept =>
      refine { law with rejected := Nat.min_le_left _ _, valid := fun valid => ?_ }
      have kept : ¬ 2 ≤ s.fsu.rejections := fun run => kept ⟨run, valid⟩
      show min 3 (s.fsu.rejections + 1) < 3
      omega

end State.Measured
end Sys2Proof.Machine

namespace Sys2Proof.Machine
namespace State.Measured

variable {r s t : State}

/-! ### The pickup and the speed window -/

theorem shaftValidityChanged (h : r.Measured s) : r.Measured s.shaftValidityChanged :=
  (h.gauged (t := s.slipTest.shaftOverTest) (by simp [Fsu.gauges]) (by simp)).restTest

theorem goodRevolution (h : r.Measured s) : r.Measured s.goodRevolution := by
  unfold State.goodRevolution
  dsimp only
  split
  case isTrue third =>
    refine (h.modFsu (fun u => { u with goodRun := min 3 (u.goodRun + 1), badRun := 0, pickupFault := false }) rfl
      fun law => ?_).shaftValidityChanged
    exact { law with
      bad := Nat.zero_le _
      good := Nat.min_le_left _ _
      sound := fun _ => Nat.succ_pos 2
      faulty := nofun }
  case isFalse kept =>
    refine h.modFsu _ rfl fun law =>
      { law with
        bad := Nat.zero_le _
        good := Nat.min_le_left _ _
        sound := fun _ => Nat.succ_pos 2
        faulty := fun fault => ?_ }
    have few : ¬ min 3 (s.fsu.goodRun + 1) = 3 := fun full => kept ⟨fault, full⟩
    show min 3 (s.fsu.goodRun + 1) < 3
    omega

theorem badRevolution (h : r.Measured s) : r.Measured s.badRevolution := by
  unfold State.badRevolution
  dsimp only
  split
  case isTrue third =>
    refine ((h.modFsu (fun u => { u with badRun := min 3 (u.badRun + 1), goodRun := 0, pickupFault := true }) rfl
      fun law => ?_).latch .pickupFault).shaftValidityChanged
    exact { law with
      bad := Nat.min_le_left _ _
      good := Nat.zero_le _
      sound := nofun
      faulty := fun _ => Nat.succ_pos 2 }
  case isFalse kept =>
    refine h.modFsu _ rfl fun law =>
      { law with
        bad := Nat.min_le_left _ _
        good := Nat.zero_le _
        sound := fun sound => ?_
        faulty := fun _ => Nat.succ_pos 2 }
    have few : ¬ min 3 (s.fsu.badRun + 1) = 3 := fun full => kept ⟨sound, full⟩
    show min 3 (s.fsu.badRun + 1) < 3
    omega

/-- A count or a mark that no gauge shows. -/
theorem modCounts (h : r.Measured s) (f : Fsu → Fsu) (gauges : (f s.fsu).gauges = s.fsu.gauges) :
    r.Measured (s.modFsu f) := h.gauged gauges rfl

theorem lostIndexTest (h : r.Measured s) : r.Measured s.lostIndexTest :=
  have cleared := h.modCounts (fun u => { u with revolution := 0 }) rfl
  .ite (.ite cleared.badRevolution cleared) h

theorem shaftPulse (h : r.Measured s) (trackB : Bool) : r.Measured (s.shaftPulse trackB) :=
  (Measured.ite (h.modCounts _ rfl) (h.modCounts _ rfl)).lostIndexTest

theorem indexEdge (h : r.Measured s) : r.Measured s.indexEdge :=
  have armed := h.modCounts (fun u => { u with revolution := 0, armed := true }) rfl
  .ite (.ite armed.goodRevolution armed.badRevolution) armed

theorem endWindow (h : r.Measured s) : r.Measured (s.modFsu fun u => u.endWindow s.set) :=
  h.modFsu _ rfl fun law =>
    { law with
      shaft := Nat.min_le_left _ _
      arbor := fun i => by
        simp only [Fsu.endWindow, Fin.getElem_fin, Vector.getElem_ofFn, perMille]
        exact Nat.min_le_left _ _ }

theorem eachStation (h : r.Measured s) {f : StationNo → State → State}
    (step : ∀ i t, r.Measured t → r.Measured (f i t)) :
    r.Measured (s.eachStation f) := State.eachStation_inv _ f step s h

theorem eachRecord (h : r.Measured s) {f : RecNo → State → State} (step : ∀ n t, r.Measured t → r.Measured (f n t)) :
    r.Measured (s.eachRecord f) := State.eachRecord_inv _ f step s h

theorem windowEnd (h : r.Measured s) : r.Measured s.windowEnd := by
  have slipped : r.Measured (s.modFsu fun u => u.endWindow s.set).slipTest :=
    h.endWindow.gauged (by simp [Fsu.gauges]) (by simp)
  have stations := slipped.eachStation (f := State.stationWindow) fun i t ht => ht.same (by simp) (by simp)
  exact (stations.reverseTest.same (State.fsu_shaftOverTest _) (by simp)).restTest

theorem restartShaft (h : r.Measured s) : r.Measured s.restartShaft :=
  h.modFsu _ rfl fun law =>
    { law with
      bad := Nat.zero_le _
      good := Nat.zero_le _
      sound := fun _ => Nat.succ_pos 2
      faulty := fun _ => Nat.succ_pos 2 }

/-! ### Evaluations -/

theorem beginRestoration (h : r.Measured s) (n : RecNo) : r.Measured (s.beginRestoration n) := by
  refine h.trans ⟨by simp, by simp, fun half law => ?_⟩
  unfold State.beginRestoration
  dsimp only
  split <;> exact (triggerVoltage (refl _)).converter half (by simpa using law)

theorem beginEngagement (h : r.Measured s) (i : StationNo) : r.Measured (s.beginEngagement i) :=
  triggerVoltage (modSpu (h.same (by simp) (by simp)) _)

theorem grant (h : r.Measured s) (x : Holder) : r.Measured (s.grant x) := by
  unfold State.grant
  dsimp only
  split
  · exact (h.modRsv _).beginRestoration _
  · exact (h.modRsv _).beginEngagement _

theorem evaluate (h : r.Measured s) : r.Measured s.evaluate := by
  have listed : r.Measured s.readForList := h.same (by simp) (by simp)
  unfold State.evaluate
  dsimp only
  split
  · exact .ite (listed.grant _) listed
  · exact listed

theorem settleWith (h : r.Measured s) (fuel : Nat) : r.Measured (s.settleWith fuel) := by
  induction fuel generalizing s with
  | zero => exact h
  | succ fuel ih => exact .ite (ih (h.modRsv _).evaluate) h

theorem settle (h : r.Measured s) : r.Measured s.settle := h.settleWith 10

/-! ### The converter -/

theorem raiseAlarm (h : r.Measured s) (c : ChannelNo) : r.Measured (s.raiseAlarm c) := by
  have latched : r.Measured (s.latchWindow c) := h.same (by simp) (by simp)
  unfold State.raiseAlarm
  dsimp only
  split
  exacts [latched.trip _, latched.trip _, latched.latch _, latched.latch _, latched]

theorem Reading.entered_watch {x : Reading} (count : Nat) (outside : Bool) (h : x.Entered) :
    (x.watch count outside).Entered := by
  cases outside <;> exact h

theorem watchWindow (h : r.Measured s) (c : ChannelNo) (v : Int) : r.Measured (s.watchWindow c v) :=
  have watched := h.modReading c (fun x => x.watch s.set.count[c] (s.outsideWindow c v))
    (Reading.entered_watch _ _) fun _ absent => by cases s.outsideWindow c v <;> exact absent
  .ite (watched.raiseAlarm c) watched

theorem judgeVoltage (h : r.Measured s) (v : Int) : r.Measured (s.judgeVoltage v) := h.same (by simp) (by simp)

theorem handOn (h : r.Measured s) (c : ChannelNo) (v : Int) (src : Source) : r.Measured (s.handOn c v src) := by
  unfold State.handOn
  dsimp only
  split
  · split
    · exact waterReading (h.same (by simp) (by simp)) _ _ _
    · exact h.waterReading _ _ _
  · exact (h.judgeVoltage v).waterReading _ _ _
  · exact h.waterReading _ _ _

/-- A value enters the table in RUNNING alone. -/
theorem takeReading (h : r.Measured s) (running : s.msq.state = .running) (c : ChannelNo) (raw : Nat) (src : Source) :
    r.Measured (s.takeReading c raw src) :=
  ((h.modReading c _ (fun _ => ⟨by simp, by simp⟩) fun out => absurd running out).watchWindow c _).handOn c _ src

end State.Measured
end Sys2Proof.Machine

namespace Sys2Proof.Machine

/-! ### Completions and timers of the sequencer -/

section Completion

variable {m : Msq} {half : Bool} {r s : State}

/-- A converter freed of its conversion is left to the arbiter (R143, R147). -/
theorem Msq.Ordered.freed (h : m.Ordered) (list : List ChannelNo) :
    ({ m with conv := .free }.arbitrate list).Sound false :=
  have free : ({ m with conv := .free } : Msq).Ordered :=
    { asked := fun _ _ conv => (nomatch conv), idle := fun out => ⟨rfl, (h.idle out).2⟩, entered := h.entered }
  free.arbitrate (half := false) ⟨nofun, nofun⟩ list

theorem Msq.Sound.endConversion (h : m.Sound half) (busy : m.conv ≠ .free) (n : Nat) (src : Source) (c : ChannelNo) :
    (m.endConversion n src c).Sound true ∧ (m.endConversion n src c).state = .running := by
  have running := h.running_of_busy busy
  have held {n : Msq} (state : n.state = .running) (entries : n.entries = m.entries) (conv : n.conv = .completing) :
      n.Sound true ∧ n.state = .running :=
    ⟨{ h.of_running state entries (by simp [conv]) with busy := by simp [conv], completing := by simp [conv] }, state⟩
  unfold Msq.endConversion
  dsimp only
  split
  · split <;> exact held running rfl rfl
  · exact held running rfl rfl
  · exact held running rfl rfl

theorem State.Measured.completeConversion (h : r.Measured s) (raw : BitVec 12) :
    r.Measured (s.completeConversion raw) := by
  refine h.trans ⟨by simp, fun law => law.congr (by simp [Fsu.gauges]), fun half law => ?_⟩
  unfold State.completeConversion
  split
  case h_1 src c conv =>
    obtain rfl : half = false := by simpa [conv] using law.completing
    obtain ⟨ended, running⟩ := law.endConversion (by simp [conv]) s.set.routine.length src c
    exact (((State.Measured.refl (s.modMsq fun m => m.endConversion s.set.routine.length src c)).takeReading running c
      raw.toNat src).converter true ended).freed _
  case h_2 => exact law

/-- Outside RUNNING the converter is free, so an attempt that succeeds finds nothing waiting (R154). -/
theorem State.Measured.calibrate (h : r.Measured s) (raw : BitVec 12) : r.Measured (s.calibrate raw) := by
  refine h.trans ⟨by simp, fun law => law.congr (by simp [Fsu.gauges]), fun half law => ?_⟩
  have retried (state : s.msq.state ≠ .running) (st : MsqState) (second : Bool) (still : st ≠ .running) :
      ({ s.msq with state := st, secondAttempt := second } : Msq).Sound half :=
    { asked := law.asked, idle := fun _ => law.idle state, entered := law.entered, busy := fun e => absurd e still,
      completing := law.completing }
  unfold State.calibrate
  split
  case isFalse => exact law
  case isTrue calibrating =>
    have out : s.msq.state ≠ .running := by rw [calibrating]; decide
    split
    case isTrue =>
      obtain rfl : half = false := by simpa [(law.idle out).1] using law.completing
      have begun :
          ({ s.msq with state := .running, conv := .completing, scan := some s.scanInterval } : Msq).Sound true :=
        { asked := nofun, idle := fun still => absurd rfl still, entered := law.entered,
          busy := nofun, completing := by simp }
      exact (((State.Measured.refl (s.modMsq fun m =>
        { m with state := .running, conv := .completing, scan := some s.scanInterval })).takeReading rfl 14 raw.toNat
        .calibration).converter true begun).freed _
    case isFalse =>
      split
      · exact retried out .failed _ (by decide)
      · simpa [calibrating] using retried out .calibrating true (by decide)

/-- A run begins in RUNNING alone, where the scan timer runs (R145). -/
theorem State.Measured.scanExpiry (h : r.Measured s) (runs : s.msq.scan.isSome = true) : r.Measured s.scanExpiry :=
  h.modMsq _ fun half law => by
    have running : s.msq.state = .running := Decidable.byContradiction fun out => by
      simp [(law.idle out).2.2.1] at runs
    have timed : ({ s.msq with scan := some s.scanInterval } : Msq).Ordered := law.of_running running rfl law.asked
    have begun := Msq.Ordered.arbitrate (m := { s.msq with runCount := s.set.runCount, scan := some s.scanInterval })
      (timed.of_running running rfl timed.asked) law.completing s.set.routine
    dsimp only
    split
    · exact { timed with busy := law.busy, completing := law.completing }
    · exact begun

/-- The end of a run leaves the arbiter what waited before it (R156). -/
theorem State.Measured.endRun (h : r.Measured s) : r.Measured s.endRun := h.modMsq _ fun half law => by
  have ended : ({ s.msq with pointer := 1, runCount := 0 } : Msq).Ordered :=
    { asked := law.asked, entered := law.entered, idle := fun out => by
        obtain ⟨free, ⟨s1, s2, s3, s4, -⟩, scan, entries⟩ := law.idle out
        exact ⟨free, ⟨s1, s2, s3, s4, rfl⟩, scan, entries⟩ }
  exact ended.abandonRoutine.arbitrate ((Msq.completing_abandonRoutine _).trans law.completing) _

/-- An entry becomes STALE from FRESH alone, where its timer runs (R144). -/
theorem State.Measured.freshnessExpiry (h : r.Measured s) (c : ChannelNo) (runs : (s.reading c).timer.isSome = true) :
    r.Measured (s.freshnessExpiry c) := by
  have staled : r.Measured (s.modReading c fun x => { x with state := .stale, timer := none }) :=
      h.modMsq _ fun _ law => by
    have fresh : s.msq.entries[c].state = .fresh := (law.entered c).1.1 runs
    have valued : s.msq.entries[c].value ≠ none := fun gone => by
      cases fresh.symm.trans ((law.entered c).2.2 gone)
    exact law.enter c (fun x => { x with state := .stale, timer := none }) (fun _ => ⟨by simp, by simpa using valued⟩)
      fun _ absent => by cases fresh.symm.trans absent
  exact .ite (staled.modWgc _).shortTest staled

end Completion

/-! ### Time and the shaft settings -/

section Time

variable {r s : State}

theorem Msq.Sound.pass {m : Msq} {half : Bool} (h : m.Sound half) (n : Nat) : (m.pass n).Sound half where
  asked := h.asked
  idle out := by
    obtain ⟨free, quiet, scan, entries⟩ := h.idle out
    exact ⟨free, quiet, by simp [Msq.pass, Timer.pass, scan], fun c => by simpa [Msq.pass] using entries c⟩
  entered c := by simpa [Msq.pass, Reading.Entered, Timer.isSome_pass] using h.entered c
  busy := h.busy
  completing := h.completing

theorem State.Measured.advance (h : r.Measured s) (n : Nat) : r.Measured (s.advance n) :=
  h.trans ⟨rfl, fun law => law.congr (u := s.fsu) (v := s.fsu.pass n) rfl, fun _ law => law.pass n⟩

end Time
end Sys2Proof.Machine

namespace Sys2Proof.Machine

/-! ### The requests -/

/-- An owner that leaves both measuring blocks as they are. -/
def Owner.Apart (owner : Owner) : Prop := ∀ s : State, (owner s).1.fsu = s.fsu ∧ (owner s).1.msq = s.msq

/-- An owner that keeps the published frequency and both laws. -/
def Owner.KeepsMeters (owner : Owner) : Prop := ∀ s : State, s.Measured (owner s).1

section Requests

theorem Owner.Apart.keepsMeters {owner : Owner} (h : owner.Apart) : owner.KeepsMeters := fun s =>
  (State.Measured.refl s).same (h s).1 (h s).2

theorem apart_of_same {owner : Owner} (e : ∀ s, (owner s).1 = s) : owner.Apart := fun s => by rw [e s]; exact ⟨rfl, rfl⟩

theorem apart_refuse (st : Status) : (refuse st).Apart := fun _ => ⟨rfl, rfl⟩

theorem apart_onRecord (number : Byte) {act : RecNo → Owner} (step : ∀ n, (act n).Apart) :
    (onRecord number act).Apart :=
  fun s => by
    unfold onRecord
    split
    · exact ⟨rfl, rfl⟩
    next n _ =>
      dsimp only
      split
      · simp
      · simpa using step n (s.readRecord n)

theorem apart_allotCreate (holder : Half) (node outlet cls rank : Byte) (cap quota : Half) :
    (allotCreate holder node outlet cls rank cap quota).Apart := fun s => by
  unfold allotCreate
  dsimp only
  (repeat' split) <;> simp [State.createRecord]

theorem State.meters_readMove (s : State) (n : RecNo) (m : Amendment) :
    (s.readMove n m).fsu = s.fsu ∧ (s.readMove n m).msq = s.msq := by
  unfold State.readMove
  dsimp only
  (repeat' split) <;> simp

theorem State.meters_amendRecord (s : State) (n : RecNo) (m : Amendment) :
    (s.amendRecord n m).fsu = s.fsu ∧ (s.amendRecord n m).msq = s.msq := by
  unfold State.amendRecord State.moveOutlet
  dsimp only
  (repeat' split) <;> simp

theorem apart_allotAmend (number presence : Byte) (holder cap quota : Half) (cls rank node outlet : Byte) :
    (allotAmend number presence holder cap quota cls rank node outlet).Apart := by
  unfold allotAmend
  split
  · refine apart_onRecord number fun n s => ?_
    dsimp only
    (repeat' split) <;> simp [State.meters_readMove, State.meters_amendRecord]
  · exact apart_refuse _

theorem apart_allotActivate (number : Byte) : (allotActivate number).Apart :=
  apart_onRecord number fun n s => by split <;> simp

theorem apart_allotSuspend (number : Byte) : (allotSuspend number).Apart :=
  apart_onRecord number fun n s => by split <;> simp [State.suspendRecord]

theorem apart_allotRetire (number : Byte) : (allotRetire number).Apart :=
  apart_onRecord number fun n s => by
    dsimp only [State.retireRecord]
    (repeat' split) <;> simp

theorem apart_tripClear (number : Byte) : (tripClear number).Apart :=
  apart_onRecord number fun n s => by split <;> simp

theorem apart_allotLookup (number : Byte) : (allotLookup number).Apart :=
  apart_onRecord number fun n s => by simp

theorem apart_allotFind (key : Byte) (tag : Half) (start node outlet : Byte) :
    (allotFind key tag start node outlet).Apart := fun s => by
  unfold allotFind
  dsimp only
  (repeat' split) <;> simp [State.readFrom]

theorem apart_allotList (state start : Byte) : (allotList state start).Apart := fun s => by
  unfold allotList
  dsimp only
  (repeat' split) <;> simp [State.readFrom]

theorem State.meters_turnRecord (s : State) (n : RecNo) :
    (s.turnRecord n).fsu = s.fsu ∧ (s.turnRecord n).msq = s.msq := by
  unfold State.turnRecord
  dsimp only
  (repeat' split) <;> simp

theorem apart_dayTurn : dayTurn.Apart := fun s => by
  dsimp only [dayTurn]
  exact ⟨State.eachRecord_keeps (fun t => t.fsu) _ (fun n t => by split <;> simp [State.meters_turnRecord]) s,
    State.eachRecord_keeps (fun t => t.msq) _ (fun n t => by split <;> simp [State.meters_turnRecord]) s⟩

theorem apart_sawClear (station : Byte) : (sawClear station).Apart := fun s => by
  unfold sawClear
  (repeat' split) <;> simp

theorem apart_nodeGet (node : Byte) : (nodeGet node).Apart := fun s => by
  unfold nodeGet
  split
  · exact ⟨rfl, rfl⟩
  · exact ⟨foldl_keeps (fun t : State => t.fsu) _ (by simp) _ s, foldl_keeps (fun t : State => t.msq) _ (by simp) _ s⟩

theorem apart_readingsGet : readingsGet.Apart := fun s => by
  unfold readingsGet
  dsimp only
  split <;> exact ⟨rfl, rfl⟩

theorem apart_stageRetest (stage : Byte) : (stageRetest stage).Apart := fun s => by
  unfold stageRetest
  (repeat' split) <;> simp

theorem apart_reserveGet : reserveGet.Apart := fun s => by simp [reserveGet]

theorem apart_settingGet (id index : Byte) : (settingGet id index).Apart := fun s => by
  unfold settingGet
  (repeat' split) <;> exact ⟨rfl, rfl⟩

theorem apart_settingsStore : settingsStore.Apart := fun s => by
  unfold settingsStore
  split <;> exact ⟨rfl, rfl⟩

theorem apart_statusGet (acknowledge : Byte) : (statusGet acknowledge).Apart := fun s => by
  unfold statusGet
  split <;> exact ⟨rfl, rfl⟩

theorem apart_restart : restart.Apart := fun _ => ⟨rfl, rfl⟩

theorem keepsMeters_plantStart : plantStart.KeepsMeters := fun s => by
  unfold plantStart
  split
  · exact (State.Measured.refl s).enterRunUp
  · exact .refl s

theorem keepsMeters_plantStop : plantStop.KeepsMeters := fun s => by
  unfold plantStop
  cases s.plant with
  | runUp | onLine | waterShort => exact (State.Measured.refl s).runDown
  | runDown | standstill | tripped => exact .refl s

theorem keepsMeters_plantClear : plantClear.KeepsMeters := fun s => by
  unfold plantClear
  split
  · exact (State.Measured.refl s).clearTrip
  · exact .refl s

theorem keepsMeters_sampleNow (channel : Byte) : (sampleNow channel).KeepsMeters := fun s => by
  unfold sampleNow
  split
  · exact .refl s
  next c _ =>
    split
    · exact .refl s
    · exact .refl s
    next running =>
      split
      · exact .refl s
      · exact (State.Measured.refl s).triggerSample c running

theorem State.Measured.settingChanged {r s : State} (h : r.Measured s) (c : Cell) :
    r.Measured (s.settingChanged c) := by
  unfold State.settingChanged
  split
  · exact .ite (h.changeTarget _) h
  · exact h.restartShaft.modCounts _ rfl
  · exact h.restartShaft
  · exact h.restartShaft
  · exact h.clearRuns _
  · exact h.clearRuns _
  · exact h.clearRuns _
  · exact h

theorem keepsMeters_putCell (c : Cell) (v : Int) : (putCell c v).KeepsMeters := fun s => by
  have put := (State.Measured.refl s).modSvl fun x => { x with settings := c.put v x.settings, unstored := true }
  unfold putCell
  (repeat' split)
  case isFalse => exact .ite put (put.settingChanged c)
  all_goals exact .refl s

theorem keepsMeters_putRoutine (entries : List Byte) : (putRoutine entries).KeepsMeters := fun s => by
  unfold putRoutine
  split
  · exact .refl s
  · split
    next l _ =>
      have put := (State.Measured.refl s).modSvl fun x =>
        { x with settings := { x.settings with routine := l }, unstored := true }
      split
      · exact .ite put put.endRun
      · exact .refl s
    · exact .refl s

theorem keepsMeters_refuse (st : Status) : (refuse st).KeepsMeters := (apart_refuse st).keepsMeters

theorem keepsMeters_settingPut (id index : Byte) (rest : List Byte) : (settingPut id index rest).KeepsMeters := by
  unfold settingPut
  split
  · split
    · split
      · exact keepsMeters_putRoutine _
      · exact keepsMeters_refuse _
    · exact keepsMeters_refuse _
  · split
    · exact keepsMeters_putCell _ _
    · exact keepsMeters_refuse _

theorem keepsMeters_ownerOf (k : Kind) (payload : List Byte) : (ownerOf k payload).KeepsMeters :=
  ownerOf_induction (P := Owner.KeepsMeters)
    (refused := keepsMeters_refuse _)
    (allotCreate := fun h1 h0 node outlet cls rank c1 c0 q1 q0 =>
      (apart_allotCreate (half h1 h0) node outlet cls rank (half c1 c0) (half q1 q0)).keepsMeters)
    (allotAmend := fun number presence h1 h0 c1 c0 q1 q0 cls rank node outlet =>
      (apart_allotAmend number presence (half h1 h0) (half c1 c0) (half q1 q0) cls rank node outlet).keepsMeters)
    (allotActivate := fun n => (apart_allotActivate n).keepsMeters)
    (allotSuspend := fun n => (apart_allotSuspend n).keepsMeters)
    (allotRetire := fun n => (apart_allotRetire n).keepsMeters)
    (allotLookup := fun n => (apart_allotLookup n).keepsMeters)
    (allotFind := fun key t1 t0 start node outlet => (apart_allotFind key (half t1 t0) start node outlet).keepsMeters)
    (allotList := fun st n => (apart_allotList st n).keepsMeters)
    (tripClear := fun n => (apart_tripClear n).keepsMeters)
    (dayTurn := apart_dayTurn.keepsMeters)
    (settingGet := fun id index => (apart_settingGet id index).keepsMeters)
    (settingPut := keepsMeters_settingPut)
    (settingsStore := apart_settingsStore.keepsMeters)
    (statusGet := fun a => (apart_statusGet a).keepsMeters)
    (restart := apart_restart.keepsMeters)
    (plantStart := keepsMeters_plantStart)
    (plantStop := keepsMeters_plantStop)
    (plantClear := keepsMeters_plantClear)
    (plantGet := (apart_of_same fun _ => rfl).keepsMeters)
    (sawClear := fun i => (apart_sawClear i).keepsMeters)
    (sawGet := (apart_of_same fun _ => rfl).keepsMeters)
    (nodeGet := fun a => (apart_nodeGet a).keepsMeters)
    (readingsGet := apart_readingsGet.keepsMeters)
    (sampleNow := keepsMeters_sampleNow)
    (governorGet := (apart_of_same fun _ => rfl).keepsMeters)
    (stageRetest := fun g => (apart_stageRetest g).keepsMeters)
    (reserveGet := apart_reserveGet.keepsMeters) k payload

theorem keepsMeters_dispatch (kind : Byte) (payload : List Byte) : (dispatch kind payload).KeepsMeters := by
  unfold dispatch
  split
  · exact keepsMeters_refuse _
  · split
    · exact keepsMeters_ownerOf _ _
    · exact keepsMeters_refuse _

end Requests

/-! ### The Service Link -/

namespace State.Measured

variable {r s : State}

theorem serve (h : r.Measured s) (kind : Byte) {owner : Owner} (keeps : owner.KeepsMeters) :
    r.Measured (s.serve kind owner) :=
  .ite h (.ite (h.modSvl _) ((h.trans (keeps s)).modSvl _).settle)

theorem frameComplete (h : r.Measured s) (bytes : List Byte) : r.Measured (s.frameComplete bytes) := by
  unfold State.frameComplete
  dsimp only
  split
  · exact .ite (h.serve _ (keepsMeters_dispatch _ _)) h
  · exact h

theorem collect (h : r.Measured s) (b : Byte) : r.Measured (s.collect b) := by
  unfold State.collect
  split
  · exact .ite (h.modSvl _) (h.modSvl _)
  · exact .ite ((h.modSvl _).frameComplete _) (h.modSvl _)

theorem linkByte (h : r.Measured s) (b : Byte) (stopOk : Bool) : r.Measured (s.linkByte b stopOk) := by
  unfold State.linkByte
  split
  · exact .ite (h.modSvl _) h
  · exact .ite (h.collect b) (h.modSvl _)

end State.Measured
end Sys2Proof.Machine

namespace Sys2Proof.Machine

/-! ## The period event (R55, R56) -/

section Period

variable {r s : State}

/-- The frequency published and marked valid, the rejection run at 0 (R55, R56). -/
def State.publish (p : Nat) (s : State) : State :=
  s.modFsu fun u => { u with freq := frequencyOf p, freqValid := true, rejections := 0 }

theorem frequencyOf_bounds {p : Nat} (short : 114286 ≤ p) (long : p ≤ 266667) :
    30000 ≤ frequencyOf p ∧ frequencyOf p ≤ 70000 := by
  have quotient := Nat.div_add_mod 8000000000 p
  have low : 29999 ≤ 8000000000 / p := (Nat.le_div_iff_mul_le (by omega)).2 (by omega)
  have high : 8000000000 / p ≤ 69999 := Nat.le_of_lt_succ ((Nat.div_lt_iff_lt_mul (by omega)).2 (by omega))
  unfold frequencyOf
  split
  case isFalse => omega
  case isTrue small =>
    refine ⟨?_, by omega⟩
    rcases Nat.lt_or_ge (8000000000 / p) 30000 with few | many
    · obtain e : 8000000000 / p = 29999 := by omega
      rw [e] at quotient
      omega
    · exact many

/-- The tests that follow the governor's computation on a period event (R56, R63). -/
def State.tellPeriod (valid : Bool) (s : State) : State :=
  let t := (if valid then s else s.stepTest).collapseTests.dipTest.waterTakesFrequency
  if valid then t else t.slipTest

theorem State.periodEvent_eq (p : Nat) : s.periodEvent p =
    let t := ((s.publish p).governorPeriod).tellPeriod s.fsu.freqValid
    if t.bgv.state = s.bgv.state then t else t.restTest := rfl

theorem State.Measured.tellPeriod (h : r.Measured s) (valid : Bool) : r.Measured (s.tellPeriod valid) := by
  have stepped : r.Measured (if valid = true then s else s.stepTest) := .ite h (h.same (by simp) (by simp))
  have told {t : State} (h : r.Measured t) : r.Measured t.collapseTests.dipTest.waterTakesFrequency :=
    h.same (by simp) (by simp)
  exact .ite (told stepped) ((told stepped).gauged (by simp [Fsu.gauges]) (by simp))

/-- Once the period has published its frequency, nothing of the event changes it. -/
theorem State.Measured.periodEvent (p : Nat) (s : State) : (s.publish p).Measured (s.periodEvent p) :=
  have told := ((State.Measured.refl (s.publish p)).governorPeriod).tellPeriod s.fsu.freqValid
  .ite told told.restTest

end Period

/-! ## The crossing (R51, R52) -/

section Crossing

variable {s : State}

/-- An accepted crossing up to the judgement of its capture (R51, R77). -/
def State.accept (c : BitVec 32) (s : State) : State :=
  (s.modFsu fun u => { u with lastCrossing := some c, gap := some (millis 40) }).switchingInstant

/-- The reference taken from an edge (R52). -/
def State.refer (v : Option (BitVec 32)) (s : State) : State := s.modFsu fun u => { u with reference := v }

theorem State.crossing_of_filtered {c : BitVec 32} (h : s.fsu.filtered c = true) : s.crossing c = s := if_pos h

theorem State.crossing_of_accepted {c : BitVec 32} (h : s.fsu.filtered c = false) :
    s.crossing c = (s.accept c).judgeCapture c := if_neg (by simp [h])

theorem State.fsu_accept (c : BitVec 32) :
    (s.accept c).fsu = { s.fsu with lastCrossing := some c, gap := some 320000 } := by
  simp [State.accept, millis]

theorem State.judgeCapture_of_none {c : BitVec 32} (h : s.fsu.reference = none) :
    s.judgeCapture c = s.refer (some c) := by
  unfold State.judgeCapture
  split
  · rfl
  next r e => cases h.symm.trans e

section Judged

variable {c r : BitVec 32} (h : s.fsu.reference = some r)
include h

theorem State.judgeCapture_of_some : s.judgeCapture c =
    if (c - r).toNat < 114286 then (s.refer none).reject
    else if (c - r).toNat ≤ 266667 then (s.refer (some c)).periodEvent (c - r).toNat
    else (s.refer (some c)).reject := by
  unfold State.judgeCapture
  split
  next e => cases h.symm.trans e
  next r' e =>
    obtain rfl : r' = r := Option.some.inj (e.symm.trans h)
    rfl

theorem State.judgeCapture_of_short (short : (c - r).toNat < 114286) : s.judgeCapture c = (s.refer none).reject :=
  (State.judgeCapture_of_some h).trans (if_pos short)

theorem State.judgeCapture_of_period (short : 114286 ≤ (c - r).toNat) (long : (c - r).toNat ≤ 266667) :
    s.judgeCapture c = (s.refer (some c)).periodEvent (c - r).toNat :=
  (State.judgeCapture_of_some h).trans ((if_neg (by omega)).trans (if_pos long))

theorem State.judgeCapture_of_long (long : 266667 < (c - r).toNat) : s.judgeCapture c = (s.refer (some c)).reject :=
  (State.judgeCapture_of_some h).trans ((if_neg (by omega)).trans (if_neg (by omega)))

end Judged

theorem State.Measured.refer {r s : State} (h : r.Measured s) (v : Option (BitVec 32)) : r.Measured (s.refer v) :=
  h.modCounts _ rfl

theorem State.Measured.accept {r s : State} (h : r.Measured s) (c : BitVec 32) : r.Measured (s.accept c) :=
  (h.modCounts _ rfl).switchingInstant

/-- A crossing is a change of the measured kind or a period event after one. -/
theorem State.crossing_cases (c : BitVec 32) (s : State) : s.Measured (s.crossing c) ∨
    ∃ t r, s.Measured t ∧ s.fsu.reference = some r ∧ 114286 ≤ (c - r).toNat ∧ (c - r).toNat ≤ 266667 ∧
      s.crossing c = t.periodEvent (c - r).toNat := by
  cases filter : s.fsu.filtered c
  case true => rw [State.crossing_of_filtered filter]; exact .inl (.refl s)
  case false =>
    have accepted := (State.Measured.refl s).accept c
    rw [State.crossing_of_accepted filter]
    cases reference : s.fsu.reference with
    | none =>
      have none : (s.accept c).fsu.reference = none := by rw [State.fsu_accept, reference]
      rw [State.judgeCapture_of_none none]
      exact .inl (accepted.refer _)
    | some r =>
      have some : (s.accept c).fsu.reference = some r := by rw [State.fsu_accept, reference]
      rcases Nat.lt_or_ge (c - r).toNat 114286 with short | short
      · rw [State.judgeCapture_of_short some short]
        exact .inl (accepted.refer _).reject
      · rcases Nat.lt_or_ge 266667 (c - r).toNat with long | long
        · rw [State.judgeCapture_of_long some long]
          exact .inl (accepted.refer _).reject
        · rw [State.judgeCapture_of_period some short long]
          exact .inr ⟨_, r, accepted.refer _, rfl, short, long, rfl⟩

/-- The frequency of a valid period has both laws. -/
theorem State.laws_periodEvent {p : Nat} (short : 114286 ≤ p) (long : p ≤ 266667) :
    (s.fsu.Lawful → (s.periodEvent p).fsu.Lawful) ∧ ∀ half, s.msq.Sound half → (s.periodEvent p).msq.Sound half := by
  obtain ⟨low, high⟩ := frequencyOf_bounds short long
  have measured := State.Measured.periodEvent p s
  refine ⟨fun law => measured.frequency ?_, fun half law => measured.converter half law⟩
  exact { law with low := low, high := high, rejected := Nat.zero_le _, valid := fun _ => Nat.succ_pos 2 }

theorem State.laws_crossing (c : BitVec 32) (s : State) :
    (s.fsu.Lawful → (s.crossing c).fsu.Lawful) ∧ ∀ half, s.msq.Sound half → (s.crossing c).msq.Sound half := by
  obtain measured | ⟨t, r, measured, -, short, long, e⟩ := State.crossing_cases c s
  · exact ⟨measured.frequency, measured.converter⟩
  · obtain ⟨frequency, converter⟩ := State.laws_periodEvent (s := t) short long
    rw [e]
    exact ⟨fun law => frequency (measured.frequency law), fun half law => converter half (measured.converter half law)⟩

end Crossing

/-! ## Every command -/

section Commands

variable {s t : State}

/-- What a command does that is neither a crossing edge nor a reset: a change of the measured kind, or the reset that a
RESTART has called for (R188). -/
def State.metersTo (s : State) (r : Host.Outcome State Fault Refusal) : Prop :=
  ∀ t, r = .next t → s.Measured t ∨ (s.svl.restartCalled = true ∧ ∃ u : State, t = u.resetAll)

theorem State.metersTo_next (h : s.Measured t) : s.metersTo (.next t) := by rintro _ ⟨⟩; exact .inl h

theorem State.metersTo_unlessHeld {f : State → State} (h : s.Measured (f s)) : s.metersTo (unlessHeld f s) :=
  State.metersTo_next (.ite (.refl s) h)

theorem State.Measured.settle_if {c : Prop} [Decidable c] (h : s.Measured t) : s.Measured (if c then t.settle else s) :=
  .ite h.settle (.refl s)

theorem State.metersTo_settled (f : State → State) (h : s.Measured (f s)) :
    s.metersTo (unlessHeld (fun s => (f s).settle) s) := State.metersTo_unlessHeld h.settle

/-- A reset that waits for a RESTART's reply or store (R188). -/
theorem State.metersTo_restart {f : State → State}
    (h : s.Measured (f s) ∨ (s.svl.restartCalled = true ∧ ∃ u : State, f s = u.resetAll)) :
    s.metersTo (unlessHeld f s) := by
  rintro _ ⟨⟩
  split
  · exact .inl (.refl s)
  · exact h

theorem State.metersTo_request (k : Kind) {owner : Owner} (keeps : owner.KeepsMeters) :
    s.metersTo (request k owner s) :=
  State.metersTo_unlessHeld ((State.Measured.refl s).serve _ keeps)

theorem State.metersTo_apart (k : Kind) {owner : Owner} (apart : owner.Apart) : s.metersTo (request k owner s) :=
  State.metersTo_request k apart.keepsMeters


theorem keepsMeters_settingPutChecked (id index : Byte) (rest : List Byte) :
    (settingPutChecked id index rest).KeepsMeters := by
  unfold settingPutChecked
  split
  · exact keepsMeters_settingPut _ _ _
  · exact keepsMeters_refuse _

theorem State.metersTo_replySent : s.metersTo (execReplySent s) := by
  refine State.metersTo_restart ?_
  have ended := (State.Measured.refl s).modSvl fun v => { v with reply := none }
  split
  case isFalse => exact .inl (.refl s)
  case isTrue =>
    unfold State.replyEnds
    dsimp only
    split
    case isFalse => exact .inl (ended.modSvl _)
    case isTrue called =>
      split
      · exact .inr ⟨called, _, rfl⟩
      · exact .inl ended

theorem State.metersTo_storeComplete : s.metersTo (execSettingsStoreComplete s) := by
  refine State.metersTo_restart ?_
  split
  case h_2 => exact .inl (.refl s)
  case h_1 fixed _ =>
    unfold State.storeEnds
    dsimp only
    split
    case isTrue called => exact .inr ⟨called.1, _, rfl⟩
    case isFalse => exact .inl (((State.Measured.refl s).modNva _).modSvl _)

/-- The events of the chain (R34 to R41). -/
theorem State.metersTo_turnaroundEnd : s.metersTo (execLineTurnaroundEnd s) := by
  refine State.metersTo_unlessHeld ?_
  split
  · exact (State.Measured.refl s).same (by simp) (by simp)
  · exact .refl s

theorem State.metersTo_frameSent : s.metersTo (execFrameSent s) := by
  refine State.metersTo_unlessHeld ?_
  split
  · exact (State.Measured.refl s).same (by simp) (by simp)
  · exact .refl s

theorem State.metersTo_replyBegins : s.metersTo (execReplyBegins s) := by
  refine State.metersTo_unlessHeld ?_
  split
  · exact (State.Measured.refl s).same (by simp) (by simp)
  · exact .refl s

theorem State.metersTo_windowExpiry : s.metersTo (execReplyWindowExpiry s) := by
  refine State.metersTo_unlessHeld ?_
  split
  · exact ((State.Measured.refl s).same (t := s.nextFrame) (by simp) (by simp)).settle
  · exact .refl s

theorem State.Measured.endSlot {r s : State} (h : r.Measured s) : r.Measured s.endSlot :=
  h.settle.same (by simp [State.endSlot]) (by simp [State.endSlot])

theorem State.metersTo_replyReceived (chars : List LineChar) : s.metersTo (execReplyReceived chars s) := by
  refine State.metersTo_unlessHeld ?_
  split
  next a call _ _ =>
    exact ((State.Measured.refl s).same (t := s.receiveReply a call chars) (by simp) (by simp)).endSlot.settle
  · exact .refl s

theorem State.metersTo_receptionTimeout : s.metersTo (execReceptionTimeout s) := by
  refine State.metersTo_unlessHeld ?_
  split
  next a _ _ _ => exact ((State.Measured.refl s).same (t := s.discardReply a) (by simp) (by simp)).endSlot.settle
  · exact .refl s

/-- Every command but a crossing edge and the two resets keeps the published frequency and both laws. -/
theorem State.metersTo_exec (s : State) (c : Instr) (crossing : ∀ n, c ≠ .crossingEdge n) (power : c ≠ .powerOnReset)
    (pin : c ≠ .pinReset) : s.metersTo (exec c s) := by
  have same := State.Measured.refl s
  cases c with
  | allotCreate => exact State.metersTo_apart _ (apart_allotCreate _ _ _ _ _ _ _)
  | allotAmend => exact State.metersTo_apart _ (apart_allotAmend _ _ _ _ _ _ _ _ _)
  | allotActivate => exact State.metersTo_apart _ (apart_allotActivate _)
  | allotSuspend => exact State.metersTo_apart _ (apart_allotSuspend _)
  | allotRetire => exact State.metersTo_apart _ (apart_allotRetire _)
  | allotLookup => exact State.metersTo_apart _ (apart_allotLookup _)
  | allotFind => exact State.metersTo_apart _ (apart_allotFind _ _ _ _ _)
  | allotList => exact State.metersTo_apart _ (apart_allotList _ _)
  | tripClear => exact State.metersTo_apart _ (apart_tripClear _)
  | dayTurn => exact State.metersTo_apart _ apart_dayTurn
  | plantStart => exact State.metersTo_request _ keepsMeters_plantStart
  | plantStop => exact State.metersTo_request _ keepsMeters_plantStop
  | plantClear => exact State.metersTo_request _ keepsMeters_plantClear
  | plantGet => exact State.metersTo_apart _ (apart_of_same fun _ => rfl)
  | sawClear => exact State.metersTo_apart _ (apart_sawClear _)
  | sawGet => exact State.metersTo_apart _ (apart_of_same fun _ => rfl)
  | nodeGet => exact State.metersTo_apart _ (apart_nodeGet _)
  | readingsGet => exact State.metersTo_apart _ apart_readingsGet
  | sampleNow => exact State.metersTo_request _ (keepsMeters_sampleNow _)
  | governorGet => exact State.metersTo_apart _ (apart_of_same fun _ => rfl)
  | stageRetest => exact State.metersTo_apart _ (apart_stageRetest _)
  | reserveGet => exact State.metersTo_apart _ apart_reserveGet
  | settingGet => exact State.metersTo_apart _ (apart_settingGet _ _)
  | settingPut => exact State.metersTo_request _ (keepsMeters_settingPutChecked _ _ _)
  | settingsStore => exact State.metersTo_apart _ apart_settingsStore
  | statusGet => exact State.metersTo_apart _ (apart_statusGet _)
  | restart => exact State.metersTo_apart _ apart_restart
  | serviceLinkByte => exact State.metersTo_unlessHeld (same.linkByte _ _)
  | serviceGapTimerExpiry => exact State.metersTo_unlessHeld (.ite (same.modSvl _) same)
  | replySent => exact State.metersTo_replySent
  | settingsStoreComplete => exact State.metersTo_storeComplete
  | powerOnReset => exact absurd rfl power
  | pinReset => exact absurd rfl pin
  | resetPinAsserted => exact State.metersTo_next (same.same rfl rfl)
  | startUpComplete =>
    exact State.metersTo_unlessHeld (f := fun s => if s.svl.startedUp then s else s.startUp)
      (.ite same (same.same rfl rfl))
  | roundTimerExpiry => exact State.metersTo_unlessHeld (State.Measured.settle_if (same.same (by simp) (by simp)))
  | lineTurnaroundEnd => exact State.metersTo_turnaroundEnd
  | frameSent => exact State.metersTo_frameSent
  | replyBegins => exact State.metersTo_replyBegins
  | replyWindowExpiry => exact State.metersTo_windowExpiry
  | replyReceived => exact State.metersTo_replyReceived _
  | receptionTimeout => exact State.metersTo_receptionTimeout
  | crossingEdge n => exact absurd rfl (crossing n)
  | gapTimerExpiry => exact State.metersTo_unlessHeld (State.Measured.settle_if (same.modCounts _ rfl).reject)
  | holdTimerExpiry => exact State.metersTo_unlessHeld (State.Measured.settle_if same.holdExpiry)
  | shaftPulse trackB => exact State.metersTo_settled (State.shaftPulse trackB) (same.shaftPulse trackB)
  | indexEdge => exact State.metersTo_settled State.indexEdge same.indexEdge
  | arborPulse => exact State.metersTo_unlessHeld (same.modCounts _ rfl)
  | speedWindowEnd => exact State.metersTo_unlessHeld (State.Measured.settle_if same.windowEnd)
  | slipTimerExpiry => exact State.metersTo_unlessHeld (.ite ((same.modCounts _ rfl).latch _) same)
  | stepTimerExpiry => exact State.metersTo_unlessHeld (State.Measured.settle_if (same.same (by simp) (by simp)))
  | stepPauseExpiry => exact State.metersTo_unlessHeld (State.Measured.settle_if (same.same (by simp) (by simp)))
  | firstCollapseTimerExpiry =>
    exact State.metersTo_unlessHeld (State.Measured.settle_if (same.same (by simp) (by simp)))
  | secondCollapseTimerExpiry =>
    exact State.metersTo_unlessHeld (State.Measured.settle_if (same.same (by simp) (by simp)))
  | holdoffExpiry => exact State.metersTo_unlessHeld (State.Measured.settle_if (same.same (by simp) (by simp)))
  | liveTimerFull => exact State.metersTo_unlessHeld (.ite (same.same (by simp) (by simp)) same)
  | cooloffExpiry => exact State.metersTo_unlessHeld (.ite (same.same (by simp) (by simp)) same)
  | inputLevelChange => exact State.metersTo_next (.ite (same.same (by simp) (by simp)) (same.same (by simp) (by simp)))
  | inputFilterExpiry => exact State.metersTo_unlessHeld (State.Measured.settle_if (same.same (by simp) (by simp)))
  | waitTimerExpiry => exact State.metersTo_unlessHeld (State.Measured.settle_if (same.same (by simp) (by simp)))
  | engageTimerExpiry => exact State.metersTo_unlessHeld (State.Measured.settle_if (same.same (by simp) (by simp)))
  | dipTimerExpiry => exact State.metersTo_unlessHeld (State.Measured.settle_if (same.same (by simp) (by simp)))
  | jamTimerExpiry => exact State.metersTo_unlessHeld (State.Measured.settle_if (same.same (by simp) (by simp)))
  | refusalShowExpiry => exact State.metersTo_unlessHeld (same.modSpu _)
  | conversionComplete raw => exact State.metersTo_settled (State.completeConversion raw) (same.completeConversion raw)
  | scanTimerExpiry =>
    refine State.metersTo_unlessHeld ?_
    split
    case isTrue runs => exact same.scanExpiry runs
    case isFalse => exact same
  | freshnessTimerExpiry channel =>
    refine State.metersTo_unlessHeld ?_
    split
    case isTrue runs => exact same.freshnessExpiry channel runs
    case isFalse => exact same
  | calibrationComplete raw => exact State.metersTo_settled (State.calibrate raw) (same.calibrate raw)
  | synchronisingTimerExpiry => exact State.metersTo_unlessHeld (State.Measured.settle_if same.goOnLine)
  | runupTimerExpiry => exact State.metersTo_unlessHeld (State.Measured.settle_if ((same.modWgc _).trip _))
  | shortTimerExpiry => exact State.metersTo_unlessHeld (State.Measured.settle_if same.enterWaterShort)
  | recoveryTimerExpiry => exact State.metersTo_unlessHeld (State.Measured.settle_if same.leaveWaterShort)
  | levelTimerExpiry => exact State.metersTo_unlessHeld (.ite (same.modWgc _) same)
  | levelLostTimerExpiry => exact State.metersTo_unlessHeld (State.Measured.settle_if same.levelLostExpiry)
  | frequencyOverspeedExpiry => exact State.metersTo_unlessHeld (State.Measured.settle_if ((same.modWgc _).trip _))
  | shaftOverspeedExpiry => exact State.metersTo_unlessHeld (State.Measured.settle_if ((same.modWgc _).trip _))
  | gateTimeoutExpiry => exact State.metersTo_unlessHeld (State.Measured.settle_if same.gateTimeout)
  | gateStepPulse => exact State.metersTo_unlessHeld (.ite (same.modWgc _) same)

/-- Both laws hold after a reset. -/
theorem State.laws_resetAll (u : State) : u.resetAll.fsu.Lawful ∧ u.resetAll.msq.Sound false := by
  obtain ⟨-, fsu, -, -, -, msq, -⟩ := State.blocks_resetAll u
  rw [fsu, msq]
  exact ⟨Fsu.lawful_reset _, Msq.sound_reset⟩

/-- Every step carries both laws over. -/
theorem State.laws_exec (c : Instr) (e : exec c s = .next t) :
    (s.fsu.Lawful → t.fsu.Lawful) ∧ (s.msq.Sound false → t.msq.Sound false) := by
  have reset (u : State) (e : t = u.resetAll) :
      (s.fsu.Lawful → t.fsu.Lawful) ∧ (s.msq.Sound false → t.msq.Sound false) := by
    obtain ⟨frequency, converter⟩ := State.laws_resetAll u
    rw [e]
    exact ⟨fun _ => frequency, fun _ => converter⟩
  have measured (h : s.Measured t) := And.intro h.frequency (h.converter false)
  have other (crossing : ∀ n, c ≠ .crossingEdge n) (power : c ≠ .powerOnReset) (pin : c ≠ .pinReset) :
      (s.fsu.Lawful → t.fsu.Lawful) ∧ (s.msq.Sound false → t.msq.Sound false) := by
    obtain h | ⟨-, u, e⟩ := s.metersTo_exec c crossing power pin t e
    exacts [measured h, reset u e]
  by_cases edge : ∃ n, c = .crossingEdge n
  · obtain ⟨n, rfl⟩ := edge
    obtain rfl : (if s.held then s else ((s.advanceTo n).crossing n).settle) = t := by injection e
    split
    · exact ⟨id, id⟩
    · obtain ⟨frequency, converter⟩ := State.laws_crossing n (s.advanceTo n)
      have advanced := (State.Measured.refl s).advance (n - s.fsu.captureCount).toNat
      have settled := (State.Measured.refl ((s.advanceTo n).crossing n)).settle
      exact ⟨fun law => settled.frequency (frequency (advanced.frequency law)),
        fun law => settled.converter _ (converter _ (advanced.converter _ law))⟩
  · by_cases power : c = .powerOnReset
    · subst power
      exact reset s (Host.Outcome.next.inj (show Host.Outcome.next s.resetAll = .next t from e)).symm
    · by_cases pin : c = .pinReset
      · subst pin
        have released : Host.Outcome.next ({ s with held := false } : State).resetAll = .next t := e
        exact reset _ (Host.Outcome.next.inj released).symm
      · exact other (fun n en => edge ⟨n, en⟩) power pin

theorem State.laws_step (e : step s = .next t) :
    (s.fsu.Lawful → t.fsu.Lawful) ∧ (s.msq.Sound false → t.msq.Sound false) := by
  unfold step at e
  split at e
  · injection e with e
    have advanced : s.Measured (if s.held then s else s.advance 1) := .ite (.refl s) ((State.Measured.refl s).advance 1)
    rw [← e]
    exact ⟨advanced.frequency, advanced.converter _⟩
  next c rest _ => exact State.laws_exec (s := { s with pending := rest }) c e

end Commands

/-- Settles O53: every event keeps both laws; a period event publishes a frequency in its range, and a reset gives both
blocks the values they start with. -/
theorem frequencyAndConverterLawsAreKept : Obligations.FrequencyAndConverterLawsAreKept :=
  ⟨fun _ _ law e => State.frequencyLaw_iff.2 ((State.laws_step e).1 (State.frequencyLaw_iff.1 law)),
   fun _ _ law e => State.converterLaw_iff.2 ((State.laws_step e).2 (State.converterLaw_iff.1 law))⟩

end Sys2Proof.Machine

/-! # The frequency of a period event (O38) -/

namespace Sys2Proof.Machine

section Frequency

variable {s : State}

theorem exec_crossingEdge (released : s.held = false) (count : BitVec 32) :
    exec (.crossingEdge count) s = .next ((s.advance (count - s.fsu.captureCount).toNat).crossing count).settle :=
  unlessHeld_of_released (fun s => ((s.advanceTo count).crossing count).settle) released

theorem Fsu.filtered_of_spaced {u : Fsu} {count : BitVec 32}
    (spaced : u.lastCrossing = none ∨ ∃ l, u.lastCrossing = some l ∧ 96000 ≤ (count - l).toNat) :
    u.filtered count = false := by
  obtain none | ⟨l, some, long⟩ := spaced
  · simp [Fsu.filtered, none]
  · simpa [Fsu.filtered, some] using long

theorem State.fsu_advance (n : Nat) : (s.advance n).fsu = s.fsu.pass n := rfl

theorem State.gauges_periodEvent (p : Nat) : (s.periodEvent p).fsu.gauges = (s.publish p).fsu.gauges := by
  have told (t : State) (valid : Bool) : (t.tellPeriod valid).fsu.gauges = t.fsu.gauges := by
    unfold State.tellPeriod
    cases valid <;> simp [Fsu.gauges]
  rw [State.periodEvent_eq]
  dsimp only
  split
  · rw [told]
    simp [Fsu.gauges]
  · have rested (t : State) : t.restTest.fsu.gauges = t.fsu.gauges := by simp [Fsu.gauges]
    rw [rested, told]
    simp [Fsu.gauges]

/-- A crossing that ends a period in the valid range is a period event (R52, R56). -/
theorem State.crossing_of_period {count r : BitVec 32} (accepted : s.fsu.filtered count = false)
    (reference : s.fsu.reference = some r) (short : 114286 ≤ (count - r).toNat) (long : (count - r).toNat ≤ 266667) :
    s.crossing count = ((s.accept count).refer (some count)).periodEvent (count - r).toNat := by
  rw [State.crossing_of_accepted accepted,
    State.judgeCapture_of_period (r := r) (by rw [State.fsu_accept, reference]) short long]

/-- A crossing outside a period in the valid range leaves the published frequency. -/
theorem State.freq_crossing_of_outside {count : BitVec 32}
    (outside : ∀ r, s.fsu.reference = some r → (count - r).toNat < 114286 ∨ 266667 < (count - r).toNat) :
    (s.crossing count).fsu.freq = s.fsu.freq := by
  obtain measured | ⟨t, r, -, reference, short, long, -⟩ := State.crossing_cases count s
  · exact measured.freq
  · obtain below | above := outside r reference <;> omega

end Frequency

/-- Settles O38: the quotient by its remainder, the bounds by division, and the writers of the frequency by the relation
that every other command keeps. -/
theorem frequencyIsTheRoundedQuotient : Obligations.FrequencyIsTheRoundedQuotient := by
  refine ⟨fun p => ⟨fun h => if_pos h, fun h => if_neg (by omega)⟩, by decide, by decide,
    fun p short long => frequencyOf_bounds short long, ?_, ?_, ?_⟩
  · intro s count r released spaced reference short long
    have accepted : (s.advance (count - s.fsu.captureCount).toNat).fsu.filtered count = false :=
      Fsu.filtered_of_spaced (u := s.fsu.pass _) spaced
    refine ⟨_, exec_crossingEdge released count, ?_⟩
    rw [(State.settle_keeps _).1, State.crossing_of_period accepted reference short long]
    have gauges := State.gauges_periodEvent (s := ((s.advance (count - s.fsu.captureCount).toNat).accept count).refer
      (some count)) (count - r).toNat
    simp only [Fsu.gauges, Prod.mk.injEq] at gauges
    obtain ⟨freq, -, valid, -⟩ := gauges
    exact ⟨freq, valid⟩
  · intro s t count e outside
    have run : (if s.held then s else ((s.advanceTo count).crossing count).settle) = t := Host.Outcome.next.inj e
    rw [← run]
    split
    · rfl
    · rw [(State.settle_keeps _).1]
      exact State.freq_crossing_of_outside (s := s.advanceTo count) outside
  · intro s t c e crossing power pin calm
    obtain measured | ⟨called, -⟩ := s.metersTo_exec c crossing power pin t e
    · exact measured.freq
    · simp [calm] at called

end Sys2Proof.Machine

/-! # Time, stopped timers and the reset state (O2, O5, O59) -/

namespace Sys2Proof.Machine

/-! ## The reset state -/

theorem Settings.valid_defaults : Settings.defaults.valid := by
  refine ⟨fun c => ?_, by decide⟩
  cases c with
  | stageAmps k => revert k; decide
  | arborNominal k => revert k; decide
  | sawDraw k => revert k; decide
  | offset k => revert k; decide
  | gain k => revert k; decide
  | low k => revert k; decide
  | high k => revert k; decide
  | count k => revert k; decide
  | _ => decide

/-- The state of a new installation has no record, no load and no governor at work. -/
theorem State.terms_reset (n : RecNo) : State.reset.terms n = Terms.vacant := by
  have slots : State.reset.nva.slots = Vector.replicate 64 Slot.vacant := rfl
  rw [State.terms, slots]
  simp [Slot.vacant]

theorem State.recState_reset (n : RecNo) : State.reset.recState n = .vacant :=
  congrArg Terms.state (State.terms_reset n)

theorem State.station_reset (i : StationNo) : State.reset.station i = Station.rest := by
  simp [State.reset, State.station]

theorem State.outlet_reset (o : OutletId) :
    State.reset.outlet o = { closed := false, essential := false, answered := false } := by
  simp [State.reset, State.outlet, Fcl.reset]

theorem State.governorLaw_reset : State.reset.governorLaw := by
  refine ⟨?_, ?_, ?_, ?_, ?_, ?_, ?_, ?_, ?_, ?_⟩ <;> decide

theorem State.reserveLaw_reset : State.reset.reserveLaw := by
  have table : State.reset.rsv.table = [] := rfl
  have watch : State.reset.sld.watch = [] := rfl
  refine ⟨rfl, by simp [table], by simp [table], ?_, ?_, by simp [watch], ?_, ?_, ?_, ?_⟩ <;>
    simp [State.holds, table, watch, State.recState_reset, State.station_reset, Station.rest]

theorem State.supplyLaw_reset : State.reset.supplyLaw := by
  refine ⟨?_, ?_, ?_, ?_, ?_, ?_, ?_, ?_⟩
  · simp [State.outlet_reset]
  · simp [State.station_reset, Station.rest, Station.clutch]
  all_goals decide

theorem State.quotaLaw_reset : State.reset.quotaLaw := fun n =>
  ⟨by simp [State.terms_reset, Terms.vacant], by simp [State.recState_reset]⟩

theorem State.settingsLaw_reset : State.reset.settingsLaw := ⟨Settings.valid_defaults, nofun, Nat.zero_le _⟩

/-- Settles O59: each law, on the state of a new installation. -/
theorem resetStateHasTheLaws : Obligations.ResetStateHasTheLaws :=
  ⟨State.frequencyLaw_iff.2 (Fsu.lawful_reset .quadrature), State.governorLaw_reset, State.reserveLaw_reset,
    State.supplyLaw_reset, State.quotaLaw_reset, State.settingsLaw_reset, State.converterLaw_iff.2 Msq.sound_reset⟩

/-! ## Time -/

section Time

variable {s : State}

theorem step_of_idle (idle : s.pending = []) : step s = .next (if s.held then s else s.advance 1) := by
  unfold step
  split
  · rfl
  next e => cases idle.symm.trans e

theorem State.station_advance (n : Nat) (i : StationNo) : (s.advance n).station i = (s.station i).pass n := by
  simp [State.station, State.advance]

theorem State.reading_advance (n : Nat) (c : ChannelNo) :
    (s.advance n).reading c = { s.reading c with timer := (s.reading c).timer.pass n } := by
  simp [State.reading, State.advance, Msq.pass]

theorem State.work_advance (n : Nat) (m : RecNo) : (s.advance n).work m = (s.work m).pass n (s.recState m) := by
  simp [State.work, State.advance]

end Time

/-- Settles O2: one count on an empty queue, and what so many counts do to each timer. -/
theorem emptyQueuePassesOneCount : Obligations.EmptyQueuePassesOneCount := by
  refine ⟨fun s idle => ⟨fun held => ?_, fun released => ?_⟩, fun s k => ⟨?_, ?_, ?_, ?_⟩⟩
  · rw [step_of_idle idle, if_pos held]
  · rw [step_of_idle idle, if_neg (by simp [released])]
  · obtain ⟨nva, atb, ⟨nodes, outlets, pointer, timer, list, toPoll, done, phase⟩, fsu, bgv⟩ := s
    cases phase <;> rfl
  · exact fun i => State.station_advance k i
  · exact fun c => State.reading_advance k c
  · intro n
    rw [State.work_advance]
    cases s.recState n
    case shed =>
      simp only [Working.pass, countDown]
      split <;> rfl
    case tripped =>
      simp only [Working.pass, countDown]
      split <;> rfl
    case live =>
      simp only [Working.pass, countUp]
      split <;> rfl
    all_goals rfl

/-! ## Commands that find nothing under way -/

section Stopped

variable {s : State}

/-- A command that acts under a condition changes nothing without it, the reset pin held or not. -/
theorem unlessHeld_of_same {f : State → State} (h : f s = s) : unlessHeld f s = .next s := by
  unfold unlessHeld
  rw [h, ite_self]

theorem unlessHeld_of_stopped {t : Timer} {f : State → State} {u : State} (h : t = none)
    (e : f s = if t.running then u else s) : unlessHeld f s = .next s :=
  unlessHeld_of_same (e.trans (if_neg (by simp [h, Timer.running])))

theorem State.modStation_of_same {i : StationNo} {f : Station → Station} (h : f (s.station i) = s.station i) :
    s.modStation i f = s := by
  have same : s.spu.set i (f (s.station i)) = s.spu := by
    rw [h]
    exact Vector.set_getElem_self i.isLt
  show { s with spu := s.spu.set i (f (s.station i)) } = s
  rw [same]

/-- A command of the chain outside its part of a slot (R34, R38). -/
theorem exec_outside_phase (chars : List LineChar) :
    ((s.fcl.phase matches .turnaround _ _ _) = false → exec .lineTurnaroundEnd s = .next s) ∧
    ((s.fcl.phase matches .sending _ _ _) = false → exec .frameSent s = .next s) ∧
    ((s.fcl.phase matches .window _ _ _) = false →
      exec .replyBegins s = .next s ∧ exec .replyWindowExpiry s = .next s) ∧
    ((s.fcl.phase matches .receiving _ _ _) = false →
      exec (.replyReceived chars) s = .next s ∧ exec .receptionTimeout s = .next s) := by
  refine ⟨fun h => (?_ : execLineTurnaroundEnd s = _), fun h => (?_ : execFrameSent s = _),
    fun h => ⟨(?_ : execReplyBegins s = _), (?_ : execReplyWindowExpiry s = _)⟩,
    fun h => ⟨(?_ : execReplyReceived chars s = _), (?_ : execReceptionTimeout s = _)⟩⟩ <;>
  · refine unlessHeld_of_same ?_
    split
    next e => simp [e] at h
    next => rfl

theorem exec_holdoffExpiry_of_other {n : RecNo} (h : s.recState n ≠ .shed ∨ (s.work n).holdoff = 0) :
    exec (.holdoffExpiry n) s = .next s :=
  unlessHeld_of_same (if_neg fun ⟨shed, runs⟩ => h.elim (absurd shed) fun zero => runs zero)

theorem exec_conversionComplete_of_free (calm : s.calm) (free : s.msq.conv = .free) (raw : BitVec 12) :
    exec (.conversionComplete raw) s = .next s := by
  have nothing : s.completeConversion raw = s := by rw [State.completeConversion, free]
  exact unlessHeld_of_same (f := fun s => (s.completeConversion raw).settle)
    (by rw [nothing, State.settle_of_calm calm])

theorem exec_calibrationComplete_of_other (calm : s.calm) (h : s.msq.state ≠ .calibrating) (raw : BitVec 12) :
    exec (.calibrationComplete raw) s = .next s := by
  have nothing : s.calibrate raw = s := if_neg h
  exact unlessHeld_of_same (f := fun s => (s.calibrate raw).settle) (by rw [nothing, State.settle_of_calm calm])

theorem exec_settingsStoreComplete_of_idle (h : s.svl.store = .idle) : exec .settingsStoreComplete s = .next s := by
  show execSettingsStoreComplete s = _
  refine unlessHeld_of_same ?_
  split
  next e => cases h.symm.trans e
  next => rfl

end Stopped

/-- Settles O5: each command finds its own condition false. -/
theorem expiriesOfStoppedTimersChangeNothing : Obligations.ExpiriesOfStoppedTimersChangeNothing := by
  intro s i n c raw chars
  obtain ⟨turnaround, sending, window, receiving⟩ := exec_outside_phase (s := s) chars
  exact ⟨
    fun gap => unlessHeld_of_stopped gap rfl,
    fun reply => unlessHeld_of_same (if_neg (by simp [reply])),
    exec_settingsStoreComplete_of_idle,
    fun round => unlessHeld_of_stopped round rfl,
    turnaround, sending, window, receiving,
    fun gap => unlessHeld_of_stopped gap rfl,
    fun window => unlessHeld_of_stopped window rfl,
    fun hold => unlessHeld_of_stopped hold rfl,
    fun slip => unlessHeld_of_stopped slip rfl,
    fun step => unlessHeld_of_stopped step rfl,
    fun pause => unlessHeld_of_stopped pause rfl,
    fun first => unlessHeld_of_stopped first rfl,
    fun second => unlessHeld_of_stopped second rfl,
    exec_holdoffExpiry_of_other,
    fun live => unlessHeld_of_same (if_neg fun ⟨is, _⟩ => live is),
    fun tripped => unlessHeld_of_same (if_neg tripped),
    fun start => unlessHeld_of_stopped start rfl,
    fun stop => unlessHeld_of_stopped stop rfl,
    fun wait => unlessHeld_of_stopped wait rfl,
    fun engage => unlessHeld_of_stopped engage rfl,
    fun dip => unlessHeld_of_stopped dip rfl,
    fun jam => unlessHeld_of_stopped jam rfl,
    fun refusal => unlessHeld_of_same (State.modStation_of_same (by rw [← refusal])),
    fun scan => unlessHeld_of_stopped scan rfl,
    fun fresh => unlessHeld_of_stopped fresh rfl,
    fun calm free => exec_conversionComplete_of_free calm free raw,
    fun calm other => exec_calibrationComplete_of_other calm other raw,
    fun sync => unlessHeld_of_stopped sync rfl,
    fun runup => unlessHeld_of_stopped runup rfl,
    fun short => unlessHeld_of_stopped short rfl,
    fun recovery => unlessHeld_of_stopped recovery rfl,
    fun level => unlessHeld_of_stopped level rfl,
    fun lost => unlessHeld_of_stopped lost rfl,
    fun freq => unlessHeld_of_stopped freq rfl,
    fun shaft => unlessHeld_of_stopped shaft rfl,
    fun timeout => unlessHeld_of_stopped timeout rfl,
    fun pulse => unlessHeld_of_stopped pulse rfl⟩

end Sys2Proof.Machine

/-! # The shaft pickup and the index (O40) -/

namespace Sys2Proof.Machine

section Pickup

variable {s : State}

/-! ## The machine at rest (R166) -/

/-- The plant in STANDSTILL with the watch timers stopped, before any block takes the change. -/
def State.standing (s : State) : State :=
  s.modWgc fun w => { w with plant := .standstill, freqOver := none, shaftOver := none }

/-- In STANDSTILL the ladder and the stations have nothing to do. -/
theorem State.enterStandstill_eq :
    s.enterStandstill = s.standing.governorInactive.stepTest.collapseTests.slipTest.promptEvaluation := by
  have ladder (t : State) (h : t.wgc.plant = .standstill) : t.ladderTakesPlant = t := by
    rw [State.ladderTakesPlant, State.plant, h]
  have stations (t : State) (h : t.wgc.plant = .standstill) : t.stationsTakePlant = t := by
    rw [State.stationsTakePlant, State.plant, h]
  have governor : s.standing.governorTakesPlant = s.standing.governorInactive := if_pos rfl
  have plant : s.standing.wgc.plant = .standstill := rfl
  show s.standing.plantChanged = _
  rw [State.plantChanged, governor, ladder _ (by simp [plant]), stations _ (by simp [plant])]

theorem State.rsv_table_governorInactive : s.governorInactive.rsv.table = s.rsv.table := by
  unfold State.governorInactive State.governorUpdate
  split
  · rfl
  · simp [State.promptEvaluation]

theorem State.enterStandstill_leaves :
    s.enterStandstill.nva = s.nva ∧ s.enterStandstill.atb = s.atb ∧ s.enterStandstill.fcl = s.fcl ∧
    s.enterStandstill.spu = s.spu ∧ s.enterStandstill.rsv.table = s.rsv.table := by
  rw [State.enterStandstill_eq]
  refine ⟨by simp [State.standing], by simp [State.standing], by simp [State.standing], by simp [State.standing], ?_⟩
  simp [State.promptEvaluation, State.rsv_table_governorInactive, State.standing]

/-- The rest test touches no record, no order, no station and no reservation. -/
theorem State.restTest_leaves :
    s.restTest.nva = s.nva ∧ s.restTest.atb = s.atb ∧ s.restTest.fcl = s.fcl ∧ s.restTest.spu = s.spu ∧
    s.restTest.rsv.table = s.rsv.table := by
  unfold State.restTest
  split
  · exact State.enterStandstill_leaves
  · exact ⟨rfl, rfl, rfl, rfl, rfl⟩

/-! ## Good and bad revolutions (R60, R61) -/

/-- What a change of the shaft speed's validity leaves alone. -/
theorem State.shaftValidityChanged_leaves :
    s.shaftValidityChanged.nva = s.nva ∧ s.shaftValidityChanged.atb = s.atb ∧ s.shaftValidityChanged.fcl = s.fcl := by
  obtain ⟨nva, atb, fcl, -⟩ := State.restTest_leaves (s := s.slipTest.shaftOverTest)
  exact ⟨nva.trans (by simp), atb.trans (by simp), fcl.trans (by simp)⟩

/-- The pulse counts and the judgements of the pickup. -/
def Fsu.pickup (u : Fsu) : Nat × Nat × Int × Bool × Nat × Nat × Bool :=
  (u.forward, u.reverse, u.revolution, u.armed, u.badRun, u.goodRun, u.pickupFault)

theorem State.pickup_shaftValidityChanged : s.shaftValidityChanged.fsu.pickup = s.fsu.pickup := by
  simp [State.shaftValidityChanged, Fsu.pickup]

/-- A bad revolution counted, before the fault it may end in (R61). -/
def State.countBad (s : State) : State := s.modFsu fun u => { u with badRun := min 3 (u.badRun + 1), goodRun := 0 }

/-- A good revolution counted, before the fault it may clear (R61). -/
def State.countGood (s : State) : State := s.modFsu fun u => { u with goodRun := min 3 (u.goodRun + 1), badRun := 0 }

theorem State.badRevolution_of_third (sound : s.fsu.pickupFault = false) (run : 2 ≤ s.fsu.badRun) :
    s.badRevolution =
      ((s.countBad.modFsu fun u => { u with pickupFault := true }).latch .pickupFault).shaftValidityChanged :=
  if_pos ⟨sound, Nat.min_eq_left (by omega)⟩

theorem State.badRevolution_of_other (h : s.fsu.pickupFault = true ∨ s.fsu.badRun < 2) :
    s.badRevolution = s.countBad := by
  refine if_neg fun ⟨sound, third⟩ => ?_
  obtain fault | few := h
  · simp [fault] at sound
  · simp only [State.modFsu_fsu] at third
    omega

theorem State.goodRevolution_of_third (fault : s.fsu.pickupFault = true) (run : 2 ≤ s.fsu.goodRun) :
    s.goodRevolution = (s.countGood.modFsu fun u => { u with pickupFault := false }).shaftValidityChanged :=
  if_pos ⟨fault, Nat.min_eq_left (by omega)⟩

theorem State.goodRevolution_of_other (h : s.fsu.pickupFault = false ∨ s.fsu.goodRun < 2) :
    s.goodRevolution = s.countGood := by
  refine if_neg fun ⟨fault, third⟩ => ?_
  obtain sound | few := h
  · simp [sound] at fault
  · simp only [State.modFsu_fsu] at third
    omega

theorem State.pickup_badRevolution : s.badRevolution.fsu.pickup = Fsu.pickup { s.fsu with
    badRun := min 3 (s.fsu.badRun + 1)
    goodRun := 0
    pickupFault := s.fsu.pickupFault || decide (2 ≤ s.fsu.badRun) } := by
  by_cases third : s.fsu.pickupFault = false ∧ 2 ≤ s.fsu.badRun
  · obtain ⟨sound, run⟩ := third
    rw [State.badRevolution_of_third sound run, State.pickup_shaftValidityChanged]
    simp [Fsu.pickup, State.countBad, run]
  · rw [State.badRevolution_of_other (by grind)]
    grind [Fsu.pickup, State.countBad, State.modFsu_fsu]

theorem State.pickup_goodRevolution : s.goodRevolution.fsu.pickup = Fsu.pickup { s.fsu with
    goodRun := min 3 (s.fsu.goodRun + 1)
    badRun := 0
    pickupFault := s.fsu.pickupFault && decide (s.fsu.goodRun < 2) } := by
  by_cases third : s.fsu.pickupFault = true ∧ 2 ≤ s.fsu.goodRun
  · obtain ⟨fault, run⟩ := third
    rw [State.goodRevolution_of_third fault run, State.pickup_shaftValidityChanged]
    simpa [Fsu.pickup, State.countGood] using fun _ => Nat.lt_of_succ_le run
  · rw [State.goodRevolution_of_other (by grind)]
    grind [Fsu.pickup, State.countGood, State.modFsu_fsu]

theorem State.badRevolution_leaves : s.badRevolution.nva = s.nva ∧ s.badRevolution.atb = s.atb ∧
    s.badRevolution.fcl = s.fcl ∧ s.badRevolution.msq = s.msq := by
  refine and_assoc.1 (and_assoc.1 ⟨?_, (State.badRevolution_keeps s).1⟩)
  by_cases third : s.fsu.pickupFault = false ∧ 2 ≤ s.fsu.badRun
  · rw [State.badRevolution_of_third third.1 third.2, and_assoc]
    exact State.shaftValidityChanged_leaves
  · rw [State.badRevolution_of_other (by grind)]
    exact ⟨⟨rfl, rfl⟩, rfl⟩

theorem State.goodRevolution_leaves : s.goodRevolution.nva = s.nva ∧ s.goodRevolution.atb = s.atb ∧
    s.goodRevolution.fcl = s.fcl ∧ s.goodRevolution.msq = s.msq := by
  refine and_assoc.1 (and_assoc.1 ⟨?_, (State.goodRevolution_keeps s).1⟩)
  by_cases third : s.fsu.pickupFault = true ∧ 2 ≤ s.fsu.goodRun
  · rw [State.goodRevolution_of_third third.1 third.2, and_assoc]
    exact State.shaftValidityChanged_leaves
  · rw [State.goodRevolution_of_other (by grind)]
    exact ⟨⟨rfl, rfl⟩, rfl⟩

/-- The third bad revolution in a row latches PICKUP_FAULT. -/
theorem State.flag_badRevolution (sound : s.fsu.pickupFault = false) (run : 2 ≤ s.fsu.badRun) :
    s.badRevolution.flag .pickupFault = true := by
  rw [State.badRevolution_of_third sound run, State.flag, (State.shaftValidityChanged_keeps _).2.1]
  exact State.flag_latch_self _ _

/-! ## Pulses (R57, R60) -/

/-- A pulse counted in its direction. -/
def Fsu.countPulse (back : Bool) (u : Fsu) : Fsu :=
  { u with
    forward := if back = true then u.forward else min 65535 (u.forward + 1)
    reverse := if back = true then min 65535 (u.reverse + 1) else u.reverse
    revolution := if back = true then u.revolution - 1 else u.revolution + 1 }

/-- A pulse runs backward with track B high in QUADRATURE alone. -/
def State.pulsesBack (s : State) (trackB : Bool) : Bool := s.svl.settings.pickupMode == .quadrature && trackB

/-- The state with a pulse counted, before the lost-index test. -/
def State.pulsed (s : State) (trackB : Bool) : State := s.modFsu (Fsu.countPulse (s.pulsesBack trackB))

theorem State.shaftPulse_eq (trackB : Bool) : s.shaftPulse trackB = (s.pulsed trackB).lostIndexTest := by
  refine congrArg State.lostIndexTest ?_
  by_cases back : s.set.pickupMode = .quadrature ∧ trackB = true
  · have runs : s.pulsesBack trackB = true := by simpa [State.pulsesBack] using back
    rw [if_pos back, State.pulsed, runs]
    rfl
  · have runs : s.pulsesBack trackB = false := by simpa [State.pulsesBack] using back
    rw [if_neg back, State.pulsed, runs]
    rfl

theorem State.lostIndexTest_of_few (h : s.fsu.revolution.natAbs < 2 * s.svl.settings.shaftTeeth + 2) :
    s.lostIndexTest = s := if_neg (Nat.not_le_of_lt h)

/-- The revolution count taken back to 0 (R60). -/
def State.clearRevolution (s : State) : State := s.modFsu fun u => { u with revolution := 0 }

theorem State.lostIndexTest_of_quiet (h : 2 * s.svl.settings.shaftTeeth + 2 ≤ s.fsu.revolution.natAbs)
    (quiet : s.judging = false) : s.lostIndexTest = s.clearRevolution :=
  (if_pos h).trans (if_neg (Bool.eq_false_iff.1 quiet))

theorem State.lostIndexTest_of_judged (h : 2 * s.svl.settings.shaftTeeth + 2 ≤ s.fsu.revolution.natAbs)
    (judged : s.judging = true) : s.lostIndexTest = s.clearRevolution.badRevolution := (if_pos h).trans (if_pos judged)

theorem exec_shaftPulse (released : s.held = false) (trackB : Bool) :
    exec (.shaftPulse trackB) s =
      .next (s.pulsed trackB).lostIndexTest.settle := by
  rw [← State.shaftPulse_eq]
  exact unlessHeld_of_released (fun s => (s.shaftPulse trackB).settle) released

/-- The revolution count taken back to 0 by an index edge, which arms the check (R60). -/
def State.indexed (s : State) : State := s.modFsu fun u => { u with revolution := 0, armed := true }

theorem State.indexEdge_eq : s.indexEdge =
    if (s.fsu.armed && s.judging) = true then
      if ((s.fsu.revolution.natAbs : Int) - s.svl.settings.shaftTeeth).natAbs ≤ 1 then s.indexed.goodRevolution
      else s.indexed.badRevolution
    else s.indexed := rfl

theorem exec_indexEdge (released : s.held = false) : exec .indexEdge s = .next s.indexEdge.settle :=
  unlessHeld_of_released (fun s => s.indexEdge.settle) released

/-- A bad revolution in each of the fields it writes. -/
theorem State.badRevolution_counts :
    (s.badRevolution.fsu.forward = s.fsu.forward ∧ s.badRevolution.fsu.reverse = s.fsu.reverse ∧
      s.badRevolution.fsu.revolution = s.fsu.revolution ∧ s.badRevolution.fsu.armed = s.fsu.armed) ∧
    s.badRevolution.fsu.badRun = min 3 (s.fsu.badRun + 1) ∧ s.badRevolution.fsu.goodRun = 0 ∧
    s.badRevolution.fsu.pickupFault = (s.fsu.pickupFault || decide (2 ≤ s.fsu.badRun)) ∧
    (s.fsu.pickupFault = false → 2 ≤ s.fsu.badRun → s.badRevolution.flag .pickupFault = true) := by
  have counted := State.pickup_badRevolution (s := s)
  simp only [Fsu.pickup, Prod.mk.injEq] at counted
  obtain ⟨forward, reverse, revolution, armed, badRun, goodRun, fault⟩ := counted
  exact ⟨⟨forward, reverse, revolution, armed⟩, badRun, goodRun, fault, State.flag_badRevolution⟩

/-- A good revolution in each of the fields it writes. -/
theorem State.goodRevolution_counts :
    (s.goodRevolution.fsu.revolution = s.fsu.revolution ∧ s.goodRevolution.fsu.armed = s.fsu.armed) ∧
    s.goodRevolution.fsu.goodRun = min 3 (s.fsu.goodRun + 1) ∧ s.goodRevolution.fsu.badRun = 0 ∧
    s.goodRevolution.fsu.pickupFault = (s.fsu.pickupFault && decide (s.fsu.goodRun < 2)) ∧
    s.goodRevolution.svl = s.svl := by
  have counted := State.pickup_goodRevolution (s := s)
  simp only [Fsu.pickup, Prod.mk.injEq] at counted
  obtain ⟨-, -, revolution, armed, badRun, goodRun, fault⟩ := counted
  exact ⟨⟨revolution, armed⟩, goodRun, badRun, fault, (State.goodRevolution_keeps s).2.1⟩

end Pickup

/-- Settles O40: a count that stays below the lost-index bound is judged no further, and the others end in a good or a
bad revolution. -/
theorem pulsesAndIndexAreCounted : Obligations.PulsesAndIndexAreCounted := by
  intro s trackB i released calm
  refine ⟨fun few => ?_, fun lost => ⟨fun quiet => ?_, fun judged => ?_⟩, fun unjudged => ?_,
    fun armed judged => ?_, ?_⟩
  · rw [exec_shaftPulse released, State.lostIndexTest_of_few (s := s.pulsed trackB) few]
    exact congrArg _ (State.settle_of_calm calm)
  · rw [exec_shaftPulse released, State.lostIndexTest_of_quiet (s := s.pulsed trackB) lost quiet]
    exact congrArg _ (State.settle_of_calm calm)
  · obtain ⟨⟨forward, reverse, revolution, -⟩, bad⟩ :=
      State.badRevolution_counts (s := (s.pulsed trackB).clearRevolution)
    refine ⟨_, ?_, forward, reverse, revolution, bad, State.badRevolution_leaves⟩
    rw [exec_shaftPulse released, State.lostIndexTest_of_judged (s := s.pulsed trackB) lost judged]
  · have idle : (s.fsu.armed && s.judging) = false := by
      obtain unarmed | quiet := unjudged
      · rw [unarmed, Bool.false_and]
      · rw [show s.judging = false from quiet, Bool.and_false]
    rw [exec_indexEdge released, State.indexEdge_eq, if_neg (Bool.eq_false_iff.1 idle)]
    exact congrArg _ (State.settle_of_calm calm)
  · have judges : (s.fsu.armed && s.judging) = true := by rw [armed, show s.judging = true from judged]; rfl
    rw [exec_indexEdge released, State.indexEdge_eq, if_pos judges]
    by_cases close : ((s.fsu.revolution.natAbs : Int) - s.svl.settings.shaftTeeth).natAbs ≤ 1
    · obtain ⟨⟨revolution, armed⟩, good⟩ := State.goodRevolution_counts (s := s.indexed)
      refine ⟨_, by rw [if_pos close], revolution, armed, ?_, State.goodRevolution_leaves⟩
      rw [if_pos close]
      exact good
    · obtain ⟨⟨-, -, revolution, armed⟩, bad⟩ := State.badRevolution_counts (s := s.indexed)
      refine ⟨_, by rw [if_neg close], revolution, armed, ?_, State.badRevolution_leaves⟩
      rw [if_neg close]
      exact bad
  · exact unlessHeld_of_released _ released

end Sys2Proof.Machine

/-! # The speed window and the slip timer (O41) -/

namespace Sys2Proof.Machine

/-! ## Stations at a window end (R130, R134, R135) -/

section Stations

variable {s t : State} {i j : StationNo}

theorem Timer.follow_true (n : Nat) (t : Timer) : t.follow true n = some (t.getD n) := by
  cases t <;> rfl

theorem Timer.follow_decide (p : Prop) [Decidable p] (n : Nat) (t : Timer) :
    t.follow (decide p) n = if p then some (t.getD n) else none := by
  by_cases h : p
  · rw [decide_eq_true h, if_pos h, Timer.follow_true]
  · rw [decide_eq_false h, if_neg h]
    rfl

/-- A station at a window end that finds its arbor at a speed. -/
def Station.window (speed : Nat) (x : Station) : Station :=
  match x.state with
  | .engaging => if 900 ≤ speed then
      { x with
        state := .running
        refusal := none
        engage := none
        dip := none
        jam := none
        voltPending := false }
    else x
  | .running => { x with jam := if speed < 600 then some (x.jam.getD 4000000) else none }
  | .windingDown => if speed < 100 then
      { x with
        state := .idle
        refusal := none }
    else x
  | _ => x

theorem State.station_stationTo (st : SawState) :
    (s.stationTo i st).station j =
      if j = i then { s.station i with state := st, refusal := none } else s.station j := by
  have moved : (s.modStation i fun x => { x with state := st, refusal := none }).station j =
      if j = i then { s.station i with state := st, refusal := none } else s.station j :=
        State.station_modStation s i j _
  unfold State.stationTo
  dsimp only
  split
  · exact moved
  · exact moved

theorem State.station_dropReservation (h : Holder) : (s.dropReservation h).station j = s.station j := by
  simp [State.station]

theorem State.table_stationTo (st : SawState) : (s.stationTo i st).rsv.table = s.rsv.table := by
  unfold State.stationTo
  dsimp only
  split <;> rfl

theorem State.station_stationWindow_same :
    (s.stationWindow i).station i = (s.station i).window s.fsu.arborSpeed[i] := by
  unfold State.stationWindow Station.window
  cases state : (s.station i).state with
  | engaging =>
    dsimp only
    split
    · rw [State.station_dropReservation, State.station_modStation_same, State.station_stationTo, if_pos rfl]
    · rfl
  | running =>
    rw [State.station_modStation_same, Timer.follow_decide, state]
    rfl
  | windingDown =>
    dsimp only
    split
    · rw [State.station_stationTo, if_pos rfl]
    · rfl
  | idle | waiting | lockedOut => rfl

theorem State.station_stationWindow_of_ne (h : j ≠ i) : (s.stationWindow i).station j = s.station j := by
  unfold State.stationWindow
  cases (s.station i).state with
  | engaging =>
    dsimp only
    split
    · rw [State.station_dropReservation, State.station_modStation, if_neg h, State.station_stationTo, if_neg h]
    · rfl
  | running => rw [State.station_modStation, if_neg h]
  | windingDown =>
    dsimp only
    split
    · rw [State.station_stationTo, if_neg h]
    · rfl
  | idle | waiting | lockedOut => rfl

/-- An engagement that ends gives up its reservation. -/
theorem State.holds_stationWindow_of_engaged (engaging : (s.station i).state = .engaging)
    (fast : 900 ≤ s.fsu.arborSpeed[i]) : (s.stationWindow i).holds (.station i) = false := by
  unfold State.stationWindow
  simp only [engaging, if_pos fast]
  exact State.holds_of_filter (congrArg Rsv.table (State.rsv_dropReservation _ _))

theorem State.holds_dropReservation_of_none (x h : Holder) (none : s.holds x = false) :
    (s.dropReservation h).holds x = false := by
  simp only [State.holds, State.rsv_dropReservation, List.any_eq_false, List.mem_filter] at none ⊢
  exact fun e he => none e he.1

/-- A window end makes no reservation. -/
theorem State.holds_stationWindow_of_none (x : Holder) (none : s.holds x = false) :
    (s.stationWindow i).holds x = false := by
  have moved (st : SawState) : (s.stationTo i st).holds x = false :=
    (State.holds_congr (State.table_stationTo st) x).trans none
  unfold State.stationWindow
  cases (s.station i).state with
  | engaging =>
    dsimp only
    split
    · exact State.holds_dropReservation_of_none x _ (moved .running)
    · exact none
  | running => exact none
  | windingDown =>
    dsimp only
    split
    · exact moved .idle
    · exact none
  | idle | waiting | lockedOut => exact none

theorem allStations_nodup : allStations.Nodup := by decide

/-- Each station comes to its own arbor's speed, whatever the others do. -/
theorem State.station_windows (i : StationNo) :
    (s.eachStation State.stationWindow).station i = (s.station i).window s.fsu.arborSpeed[i] ∧
    ((s.station i).state = .engaging → 900 ≤ s.fsu.arborSpeed[i] →
      (s.eachStation State.stationWindow).holds (.station i) = false) := by
  refine foldl_at (P := fun t : State => t.station i = s.station i ∧ t.fsu = s.fsu)
    (Q := fun t : State => t.station i = (s.station i).window s.fsu.arborSpeed[i] ∧
      ((s.station i).state = .engaging → 900 ≤ s.fsu.arborSpeed[i] → t.holds (.station i) = false))
    (mem_allStations i) allStations_nodup ⟨rfl, rfl⟩ (fun t j _ other ⟨station, fsu⟩ => ?_) (fun t ⟨station, fsu⟩ => ?_)
    (fun t j _ other ⟨station, held⟩ => ?_)
  · exact ⟨(State.station_stationWindow_of_ne other.symm).trans station, by simpa using fsu⟩
  · rw [State.station_stationWindow_same, station, fsu]
    exact ⟨rfl, fun engaging fast =>
      State.holds_stationWindow_of_engaged (by rw [station, engaging]) (by rw [fsu]; exact fast)⟩
  · exact ⟨(State.station_stationWindow_of_ne other.symm).trans station, fun engaging fast =>
      State.holds_stationWindow_of_none _ (held engaging fast)⟩

end Stations

/-! ## The trip of a running plant (R167, R168) -/

section Trip

variable {s : State}

/-- The cause recorded and the plant in TRIPPED, before the gate and the other blocks take it (R168). -/
def State.tripping (cause : TripCause) (s : State) : State :=
  (s.modPlantRecord fun r => { r with cause := some cause }).modWgc fun w =>
    { w.quiet with plant := .tripped, emergency := true, freqOver := none, shaftOver := none }

/-- The gate sent to 0 and TRIP latched. -/
def State.shutting (cause : TripCause) (s : State) : State := ((s.tripping cause).setTarget 0).latch .trip

theorem State.trip_of_running (cause : TripCause) (running : s.running = true) :
    s.trip cause = (s.shutting cause).plantChanged := by
  simp only [State.running, Bool.or_eq_true, decide_eq_true_eq] at running
  unfold State.trip
  obtain ((plant | plant) | plant) | plant := running <;> rw [plant] <;> rfl

theorem State.gateTarget_startMove : s.startMove.wgc.gateTarget = s.wgc.gateTarget := by
  unfold State.startMove
  dsimp only
  split
  · split <;> simp [State.checkGate, State.stepToward]
  · rfl

theorem State.gateTarget_setTarget (target : Nat) : (s.setTarget target).wgc.gateTarget = target := by
  unfold State.setTarget
  split
  case isTrue same => exact same.1
  case isFalse => exact State.gateTarget_startMove

theorem State.plant_shutting (cause : TripCause) : (s.shutting cause).wgc.plant = .tripped := by
  simp [State.shutting, State.tripping]

/-- What the trip of a running plant leaves. -/
theorem State.trip_tells (cause : TripCause) (running : s.running = true) :
    (s.trip cause).plant = .tripped ∧ (s.trip cause).plantRecord.cause = some cause ∧
    (s.trip cause).flag .trip = true ∧ (s.trip cause).wgc.gateTarget = 0 := by
  rw [State.trip_of_running cause running]
  refine ⟨?_, ?_, ?_, ?_⟩
  · exact (State.Eased.refl _).plantChanged.plant.trans (State.plant_shutting cause)
  · rw [(State.Eased.refl _).plantChanged.cause]
    simp [State.shutting, State.tripping, State.plantRecord, State.modPlantRecord]
  · rw [State.flag, (State.plantChanged_keeps _).2.1]
    exact State.flag_latch_self _ _
  · simp only [State.plantChanged_keeps]
    exact State.gateTarget_setTarget 0

theorem State.slip_trip (cause : TripCause) (running : s.running = true) :
    (s.trip cause).fsu.slip = none ∧ (s.trip cause).fsu.slipSpent = false := by
  have off : (s.shutting cause).slipCondition = false :=
    State.slipCondition_of_plant (by rw [State.plant, State.plant_shutting]; decide)
  rw [State.trip_of_running cause running, State.fsu_plantChanged, State.fsu_slipTest_of_not off]
  exact ⟨rfl, rfl⟩

end Trip

/-! ## The window end (R58, R59, R62) -/

section Window

variable {s t : State}

/-- The unit without its slip check. -/
def Fsu.unslipped (u : Fsu) : Fsu := { u with slip := none, slipSpent := false }

theorem Fsu.eq_of_unslipped {u v : Fsu} (h : u.unslipped = v.unslipped) :
    u = { v with slip := u.slip, slipSpent := u.slipSpent } := by
  cases u
  cases v
  simp_all [Fsu.unslipped]

theorem State.unslipped_slipTest : s.slipTest.fsu.unslipped = s.fsu.unslipped := rfl

theorem State.unslipped_plantChanged : s.plantChanged.fsu.unslipped = s.fsu.unslipped := by
  rw [State.fsu_plantChanged, State.unslipped_slipTest]

theorem State.unslipped_trip (cause : TripCause) : (s.trip cause).fsu.unslipped = s.fsu.unslipped := by
  have shut : (s.shutting cause).plantChanged.fsu.unslipped = s.fsu.unslipped := by
    rw [State.unslipped_plantChanged]
    simp [State.shutting, State.tripping]
  unfold State.trip
  split
  · rfl
  · split <;> simp
  · exact shut

theorem State.unslipped_restTest : s.restTest.fsu.unslipped = s.fsu.unslipped := by
  unfold State.restTest
  split
  · exact State.unslipped_plantChanged
  · rfl

theorem State.unslipped_reverseTest : s.reverseTest.fsu.unslipped = s.fsu.unslipped := by
  unfold State.reverseTest
  split
  · exact State.unslipped_trip _
  · rfl

/-- The speeds published and the slip test made, before the stations take them. -/
def State.published (s : State) : State := (s.modFsu fun u => u.endWindow s.set).slipTest

/-- The stations at their arbors' new speeds. -/
def State.windowed (s : State) : State := s.published.eachStation State.stationWindow

theorem State.windowEnd_eq : s.windowEnd = s.windowed.reverseTest.shaftOverTest.restTest := rfl

/-- The stations alone take the speeds; their reservations go with their engagements. -/
theorem State.windowed_leaves : s.windowed.nva = s.nva ∧ s.windowed.atb = s.atb ∧ s.windowed.fcl = s.fcl ∧
    s.windowed.fsu = s.published.fsu ∧ s.windowed.bgv = s.bgv ∧ s.windowed.sld = s.sld ∧ s.windowed.msq = s.msq ∧
    s.windowed.wgc = s.wgc ∧ s.windowed.svl = s.svl := by
  have kept {β : Type} (P : State → β) (step : ∀ i t, P (State.stationWindow i t) = P t) :
      P s.windowed = P s.published := State.eachStation_keeps P _ step _
  exact ⟨kept State.nva (by simp), kept State.atb (by simp), kept State.fcl (by simp), kept State.fsu (by simp),
    kept State.bgv (by simp), kept State.sld (by simp), kept State.msq (by simp), kept State.wgc (by simp),
    kept State.svl (by simp)⟩

/-! ### What the window publishes -/

/-- The shaft speed of the window that ends (R58). -/
def State.windowSpeed (s : State) : Nat :=
  min 2000 ((if (s.svl.settings.pickupMode == .quadrature) = true then ((s.fsu.forward : Int) - s.fsu.reverse).natAbs
    else s.fsu.forward) * 1000 / s.svl.settings.shaftNominal)

/-- The direction of the window that ends (R59). -/
def State.windowTurn (s : State) : Direction :=
  if (s.svl.settings.pickupMode == .quadrature) = false then .none
  else if s.fsu.reverse < s.fsu.forward then .forward
  else if s.fsu.forward < s.fsu.reverse then .reverse
  else s.fsu.direction

/-- An arbor's speed in the window that ends (R62). -/
def State.arborPace (s : State) (i : StationNo) : Nat :=
  min 2000 (s.fsu.arborCount[i] * 1000 / s.svl.settings.arborNominal[i])

theorem State.endWindow_eq : s.fsu.endWindow s.set = { s.fsu with
    window := some 800000
    shaftSpeed := s.windowSpeed
    direction := s.windowTurn
    arborSpeed := Vector.ofFn s.arborPace
    forward := 0
    reverse := 0
    arborCount := #v[0, 0, 0] } := by
  have net : s.fsu.netCount s.set.pickupMode =
      if (s.svl.settings.pickupMode == .quadrature) = true then ((s.fsu.forward : Int) - s.fsu.reverse).natAbs
      else s.fsu.forward := by
    unfold Fsu.netCount
    cases s.svl.settings.pickupMode <;> rfl
  have turn : s.fsu.windowDirection s.set.pickupMode = s.windowTurn := by
    unfold Fsu.windowDirection State.windowTurn
    cases s.svl.settings.pickupMode <;> rfl
  rw [Fsu.endWindow, net, turn]
  rfl

/-- Whether the shaft is found to turn backward (R167). -/
def State.backward (s : State) : Bool :=
  s.svl.settings.pickupMode == .quadrature && !s.fsu.pickupFault && s.windowTurn == .reverse &&
    decide (20 < s.windowSpeed)

/-- Whether the belt is found to slip (R63). -/
def State.slips (s : State) : Bool :=
  s.plant == .onLine && s.fsu.freqValid && !s.fsu.pickupFault &&
    decide (50 < (((s.fsu.freq * 1000 / s.svl.settings.fset : Nat) : Int) - s.windowSpeed).natAbs)

/-- Whether the machine is found at rest with its gate closed in RUN-DOWN (R166). -/
def State.rests (s : State) : Bool :=
  s.plant == .runDown &&
    (if s.fsu.pickupFault = false then decide (s.windowSpeed < 50) else s.bgv.state == .inactive) && s.gateClosed

/-- The shaft overspeed timer after the test at a window end (R167). -/
def State.shaftWatch (s : State) : Timer :=
  if s.running = false then s.wgc.shaftOver
  else if s.fsu.pickupFault = false ∧ 1300 < s.windowSpeed then some (s.wgc.shaftOver.getD 1600000)
  else none

theorem State.fsu_published : s.published.fsu = { s.fsu.endWindow s.set with
    slip := if s.slips = true then (if s.fsu.slipSpent = true then s.fsu.slip else some (s.fsu.slip.getD 16000000))
      else none
    slipSpent := s.slips && s.fsu.slipSpent } := by
  have condition : (s.modFsu fun u => u.endWindow s.set).slipCondition = s.slips := by
    rw [State.slipCondition_eq, State.modFsu_fsu, State.endWindow_eq]
    rfl
  have timer : s.fsu.slip.followUnlessSpent s.slips s.fsu.slipSpent (seconds 2) =
      if s.slips = true then (if s.fsu.slipSpent = true then s.fsu.slip else some (s.fsu.slip.getD 16000000))
      else none := by
    unfold Timer.followUnlessSpent
    cases s.fsu.slip <;> rfl
  rw [State.published, State.fsu_slipTest, condition, ← timer]
  rfl

theorem State.shaftSpeed_published : s.published.fsu.shaftSpeed = s.windowSpeed := by
  rw [State.fsu_published, State.endWindow_eq]

theorem State.direction_published : s.published.fsu.direction = s.windowTurn := by
  rw [State.fsu_published, State.endWindow_eq]

theorem State.arborSpeed_published (i : StationNo) : s.published.fsu.arborSpeed[i] = s.arborPace i := by
  rw [State.fsu_published, State.endWindow_eq]
  simp

/-- Every window end publishes the speeds, whatever the plant makes of them. -/
theorem State.fsu_windowEnd : s.windowEnd.fsu = { s.fsu.endWindow s.set with
    slip := s.windowEnd.fsu.slip
    slipSpent := s.windowEnd.fsu.slipSpent } := by
  obtain ⟨-, -, -, fsu, -⟩ := s.windowed_leaves
  refine Fsu.eq_of_unslipped ?_
  rw [State.windowEnd_eq, State.unslipped_restTest, State.fsu_shaftOverTest, State.unslipped_reverseTest,
    fsu]
  rfl

/-! ### A shaft that turns backward -/

theorem State.reverseTest_windowed :
    s.windowed.reverseTest = if s.backward = true then s.windowed.trip .reverse else s.windowed := by
  obtain ⟨-, -, -, fsu, -, -, -, -, svl⟩ := s.windowed_leaves
  unfold State.reverseTest
  rw [State.shaftValid, fsu, State.direction_published, State.shaftSpeed_published, State.set, svl]
  rfl

/-- A tripped plant takes no further test of a window end. -/
theorem State.windowEnd_of_backward (backward : s.backward = true) (running : s.running = true) :
    s.windowEnd = s.windowed.trip .reverse := by
  obtain ⟨-, -, -, -, -, -, -, wgc, -⟩ := s.windowed_leaves
  have runs : s.windowed.running = true := by rwa [State.running, State.plant, wgc]
  have tripped : (s.windowed.trip .reverse).plant = .tripped := (State.trip_tells .reverse runs).1
  have still : (s.windowed.trip .reverse).shaftOverTest = s.windowed.trip .reverse :=
    if_neg (by rw [State.running, tripped]; decide)
  rw [State.windowEnd_eq, State.reverseTest_windowed, if_pos backward, still]
  exact if_neg (by rw [tripped]; simp)

/-! ### A shaft that does not -/

/-- The state that the rest test finds at a window end. -/
def State.restTested (s : State) : State := s.windowed.shaftOverTest

theorem State.windowEnd_of_forward (forward : s.backward = false) : s.windowEnd = s.restTested.restTest := by
  rw [State.windowEnd_eq, State.reverseTest_windowed, if_neg (Bool.eq_false_iff.1 forward)]
  rfl

theorem State.shaftWatch_of_running (running : s.running = true) : s.shaftWatch =
    s.wgc.shaftOver.follow (!s.fsu.pickupFault && decide (1300 < s.windowSpeed)) (millis 200) := by
  have high : (!s.fsu.pickupFault && decide (1300 < s.windowSpeed)) =
      decide (s.fsu.pickupFault = false ∧ 1300 < s.windowSpeed) := by
    cases s.fsu.pickupFault <;> simp
  rw [high, Timer.follow_decide, State.shaftWatch, if_neg (by simp [running])]
  rfl

theorem State.wgc_restTested : s.restTested.wgc = { s.wgc with shaftOver := s.shaftWatch } := by
  obtain ⟨-, -, -, fsu, -, -, -, wgc, -⟩ := s.windowed_leaves
  have runs : s.windowed.running = s.running := by rw [State.running, State.plant, wgc]; rfl
  unfold State.restTested State.shaftOverTest
  split
  case isTrue on =>
    have runs : s.running = true := by rwa [← runs]
    rw [State.modWgc_wgc, wgc, State.shaftWatch_of_running runs, State.shaftValid, fsu, State.shaftSpeed_published]
    rfl
  case isFalse off =>
    have off : s.running = false := by simpa [runs] using off
    rw [wgc, State.shaftWatch, if_pos off]

theorem State.restTested_leaves : s.restTested.nva = s.nva ∧ s.restTested.atb = s.atb ∧ s.restTested.fcl = s.fcl ∧
    s.restTested.fsu = s.published.fsu ∧ s.restTested.bgv = s.bgv ∧ s.restTested.sld = s.sld ∧
    s.restTested.msq = s.msq ∧ s.restTested.svl = s.svl := by
  obtain ⟨nva, atb, fcl, fsu, bgv, sld, msq, -, svl⟩ := s.windowed_leaves
  have shaft := State.shaftOverTest_keeps s.windowed
  unfold State.restTested
  simp only [State.shaftOverTest_keeps, nva, atb, fcl, fsu, bgv, sld, msq, svl, and_self]

theorem State.gateClosed_congr (h : t.msq = s.msq) : t.gateClosed = s.gateClosed := by
  rw [State.gateClosed, State.freshValue, State.reading, h]
  rfl

theorem State.restTest_restTested :
    s.restTested.restTest = if s.rests = true then s.restTested.enterStandstill else s.restTested := by
  obtain ⟨-, -, -, fsu, bgv, -, msq, -⟩ := s.restTested_leaves
  have plant : s.restTested.plant = s.plant := by rw [State.plant, State.wgc_restTested]; rfl
  have rest : s.restTested.atRest =
      if s.fsu.pickupFault = false then decide (s.windowSpeed < 50) else s.bgv.state == .inactive := by
    rw [State.atRest, State.shaftValid, fsu, State.shaftSpeed_published, bgv]
    have fault : s.published.fsu.pickupFault = s.fsu.pickupFault := rfl
    rw [fault]
    cases s.fsu.pickupFault <;> rfl
  unfold State.restTest
  rw [plant, rest, State.gateClosed_congr msq]
  rfl

/-- A plant in RUN-DOWN has no slip check to stop. -/
theorem State.fsu_windowEnd_of_forward (forward : s.backward = false) : s.windowEnd.fsu = s.published.fsu := by
  obtain ⟨-, -, -, fsu, -⟩ := s.restTested_leaves
  rw [State.windowEnd_of_forward forward]
  by_cases down : s.plant = .runDown
  · have still : s.slips = false := by simp [State.slips, down]
    refine (State.fsu_restTest_of_idle ?_ ?_).trans fsu <;> rw [fsu, State.fsu_published, still]
    · rfl
    · rfl
  · rw [State.restTest_restTested, if_neg (by simp [State.rests, down]), fsu]

/-- At rest the governor becomes INACTIVE and the watches stop (R71, R166). -/
theorem State.enterStandstill_tells : s.enterStandstill.plant = .standstill ∧
    s.enterStandstill.wgc.gateTarget = s.wgc.gateTarget ∧ s.enterStandstill.wgc.freqOver = none ∧
    s.enterStandstill.wgc.shaftOver = none ∧
    s.enterStandstill.bgv = if s.bgv.state = .inactive then s.bgv else { Bgv.reset with health := s.bgv.health } := by
  have governor : s.standing.governorInactive.bgv =
      if s.bgv.state = .inactive then s.bgv else { Bgv.reset with health := s.bgv.health } := by
    unfold State.governorInactive
    split
    case isTrue off => exact (if_pos off).symm
    case isFalse on =>
      rw [State.bgv_governorUpdate]
      exact (if_neg on).symm
  rw [State.enterStandstill_eq]
  refine ⟨?_, ?_, ?_, ?_, ?_⟩
  · simp [State.plant, State.standing]
  · simp [State.standing]
  · simp [State.standing]
  · simp [State.standing]
  · simpa using governor

theorem State.windowEnd_of_moving (forward : s.backward = false) (moving : s.rests = false) :
    s.windowEnd = s.restTested := by
  rw [State.windowEnd_of_forward forward, State.restTest_restTested, if_neg (Bool.eq_false_iff.1 moving)]

theorem State.windowEnd_of_rest (forward : s.backward = false) (rests : s.rests = true) :
    s.windowEnd = s.restTested.enterStandstill := by
  rw [State.windowEnd_of_forward forward, State.restTest_restTested, if_pos rests]

/-- A window end of a shaft that does not turn backward touches no record, no order and no flag, and at the stations and
their reservations only what each arbor's speed calls for. -/
theorem State.windowEnd_leaves (forward : s.backward = false) : s.windowEnd.nva = s.nva ∧ s.windowEnd.atb = s.atb ∧
    s.windowEnd.fcl = s.fcl ∧ s.windowEnd.svl = s.svl ∧ s.windowEnd.spu = s.windowed.spu ∧
    s.windowEnd.rsv.table = s.windowed.rsv.table := by
  obtain ⟨nva, atb, fcl, -, -, -, -, svl⟩ := s.restTested_leaves
  obtain ⟨nva', atb', fcl', spu', table'⟩ := State.restTest_leaves (s := s.restTested)
  have spu : s.restTested.spu = s.windowed.spu := by simp [State.restTested]
  have table : s.restTested.rsv.table = s.windowed.rsv.table := by simp [State.restTested]
  rw [State.windowEnd_of_forward forward]
  exact ⟨nva'.trans nva, atb'.trans atb, fcl'.trans fcl, (State.restTest_keeps _).2.1.trans svl, spu'.trans spu,
    table'.trans table⟩

end Window

theorem exec_slipTimerExpiry {s : State} (released : s.held = false) (runs : s.fsu.slip.isSome = true) :
    exec .slipTimerExpiry s = .next s.slipExpiry :=
  (unlessHeld_of_released _ released).trans (congrArg _ (if_pos runs))

theorem exec_speedWindowEnd {s : State} (released : s.held = false) (runs : s.fsu.window.isSome = true) :
    exec .speedWindowEnd s = .next s.windowEnd.settle :=
  (unlessHeld_of_released _ released).trans (congrArg _ (if_pos runs))

/-- Settles O41: the speeds are the new window's; a shaft that turns backward trips a running plant, and otherwise each
test of the window end is read off the state that the one before it leaves. -/
theorem speedWindowPublishesTheSpeeds : Obligations.SpeedWindowPublishesTheSpeeds := by
  intro s released calm
  refine ⟨exec_slipTimerExpiry released, fun runs => ⟨s.windowEnd, exec_speedWindowEnd released runs, ?_⟩⟩
  have runs' (running : s.running = true) : s.windowed.running = true := by
    obtain ⟨-, -, -, -, -, -, -, wgc, -⟩ := s.windowed_leaves
    rwa [State.running, State.plant, wgc]
  refine ⟨s.fsu_windowEnd.trans (by rw [State.endWindow_eq]; rfl), fun backward running => ?_,
    fun backward running => ?_, fun forward => ⟨?_, ?_, fun moving => ?_, fun rests => ?_⟩, fun forward => ?_⟩
  · rw [State.windowEnd_of_backward backward running]
    exact State.trip_tells .reverse (runs' running)
  · rw [State.windowEnd_of_backward backward running]
    exact State.slip_trip .reverse (runs' running)
  · rw [State.fsu_windowEnd_of_forward forward, State.fsu_published]
    rfl
  · rw [State.fsu_windowEnd_of_forward forward, State.fsu_published]
    rfl
  · obtain ⟨-, -, -, -, bgv, sld, -⟩ := s.restTested_leaves
    rw [State.windowEnd_of_moving forward moving]
    exact ⟨bgv, sld, s.wgc_restTested⟩
  · obtain ⟨-, -, -, -, bgv, -⟩ := s.restTested_leaves
    obtain ⟨plant, target, freqOver, shaftOver, governor⟩ := State.enterStandstill_tells (s := s.restTested)
    rw [State.windowEnd_of_rest forward rests]
    exact ⟨plant, target.trans (by rw [State.wgc_restTested]), freqOver, shaftOver, governor.trans (by rw [bgv])⟩
  · obtain ⟨nva, atb, fcl, svl, spu, table⟩ := State.windowEnd_leaves forward
    refine ⟨nva, atb, fcl, svl, fun i => ?_, fun i engaging fast => ?_⟩
    · have window := (s.published.station_windows i).1
      rw [State.arborSpeed_published] at window
      exact (congrArg (·[i]) spu).trans window
    · rw [State.holds_congr table]
      exact (s.published.station_windows i).2 engaging (by rw [State.arborSpeed_published]; exact fast)

end Sys2Proof.Machine

/-! # The first-level action (R104, R110)

What the collapse action does at one station and at one record, where every section reads without an error. -/

namespace Sys2Proof.Machine

/-! ## Its two passes over the stations -/

section Stations

variable {s : State} {i j : StationNo}

/-- A pass that changes each station by itself. -/
theorem State.station_eachStation {f : StationNo → State → State} {F : Station → Station}
    (own : ∀ i t, (f i t).station i = F (t.station i)) (others : ∀ i j t, j ≠ i → (f i t).station j = t.station j)
    (s : State) (i : StationNo) : (s.eachStation f).station i = F (s.station i) :=
  foldl_at (P := fun t : State => t.station i = s.station i) (Q := fun t : State => t.station i = F (s.station i))
    (mem_allStations i) allStations_nodup rfl (fun t j _ other same => (others j i t other.symm).trans same)
    (fun t same => (own i t).trans (congrArg F same)) fun t j _ other made => (others j i t other.symm).trans made

theorem State.station_windDown_same (s : State) (i : StationNo) : (s.windDown i).station i =
    if (s.station i).state = .running then (s.station i).wound else s.station i := by
  unfold State.windDown
  split
  · rw [State.station_modStation_same, State.station_stationTo, if_pos rfl]
    rfl
  · rfl

theorem State.station_windDown_of_ne (s : State) (h : j ≠ i) : (s.windDown i).station j = s.station j := by
  unfold State.windDown
  split
  · rw [State.station_modStation, if_neg h, State.station_stationTo, if_neg h]
  · rfl

theorem State.station_abortStation_same (s : State) (i : StationNo) (why : SawOutcome) :
    (s.abortStation i why).station i =
      if (s.station i).state = .engaging then (s.station i).aborted why else s.station i := by
  unfold State.abortStation
  split
  · rw [State.station_dropReservation, State.station_modStation_same, State.station_stationTo, if_pos rfl]
    rfl
  · rfl

theorem State.station_abortStation_of_ne (s : State) (why : SawOutcome) (h : j ≠ i) :
    (s.abortStation i why).station j = s.station j := by
  unfold State.abortStation
  split
  · rw [State.station_dropReservation, State.station_modStation, if_neg h, State.station_stationTo, if_neg h]
  · rfl

/-- Every RUNNING station wound down (R104). -/
def State.windEvery (s : State) : State := s.eachStation fun i t => t.windDown i

theorem State.station_windEvery (s : State) (i : StationNo) : s.windEvery.station i =
    if (s.station i).state = .running then (s.station i).wound else s.station i :=
  State.station_eachStation (F := fun x => if x.state = .running then x.wound else x)
    (fun i t => t.station_windDown_same i) (fun _ _ t h => t.station_windDown_of_ne h) s i

theorem State.station_abortEngaging (s : State) (why : SawOutcome) (i : StationNo) : (s.abortEngaging why).station i =
    if (s.station i).state = .engaging then (s.station i).aborted why else s.station i :=
  State.station_eachStation (F := fun x => if x.state = .engaging then x.aborted why else x)
    (fun i t => t.station_abortStation_same i why) (fun _ _ t h => t.station_abortStation_of_ne why h) s i

theorem State.table_windDown (s : State) (i : StationNo) : (s.windDown i).rsv.table = s.rsv.table := by
  unfold State.windDown
  split
  · exact State.table_stationTo .windingDown
  · rfl

theorem State.table_windEvery (s : State) : s.windEvery.rsv.table = s.rsv.table :=
  State.eachStation_keeps (fun t => t.rsv.table) _ (fun i t => t.table_windDown i) s

theorem State.holds_abortStation_of_none (why : SawOutcome) {x : Holder} (none : s.holds x = false) :
    (s.abortStation i why).holds x = false := by
  unfold State.abortStation
  split
  · exact State.holds_dropReservation_of_none x _ ((State.holds_congr (State.table_stationTo .idle) x).trans none)
  · exact none

theorem State.holds_abortEngaging_of_none (why : SawOutcome) {x : Holder} (none : s.holds x = false) :
    (s.abortEngaging why).holds x = false :=
  State.eachStation_inv (fun t => t.holds x = false) _ (fun _ _ h => State.holds_abortStation_of_none why h) s none

theorem State.holds_abortStation (why : SawOutcome) (engaging : (s.station i).state = .engaging) :
    (s.abortStation i why).holds (.station i) = false := by
  rw [State.abortStation, if_pos engaging]
  exact State.holds_of_filter (congrArg Rsv.table (State.rsv_dropReservation _ _))

/-- An aborted engagement gives up its reservation (R131). -/
theorem State.holds_abortEngaging (why : SawOutcome) (engaging : (s.station i).state = .engaging) :
    (s.abortEngaging why).holds (.station i) = false :=
  foldl_at (P := fun t : State => t.station i = s.station i) (Q := fun t : State => t.holds (.station i) = false)
    (mem_allStations i) allStations_nodup rfl
    (fun t j _ other same => (t.station_abortStation_of_ne why other.symm).trans same)
    (fun t same => State.holds_abortStation why (by rw [same, engaging]))
    fun t j _ _ none => State.holds_abortStation_of_none why none

end Stations

/-! ## Its two passes over the records -/

section Records

variable {s t u : State} {n m : RecNo}

/-- What a shed of the first pass does at a record (R110). -/
def State.shedLadder (t : State) (n : RecNo) : State := if t.recordOnLadder n then t.shed .plain .collapse n else t

/-- What the second pass does at a record (R110). -/
def State.cancelWaiting (t : State) (n : RecNo) : State := if t.isRestoring n then t.cancel n else t

theorem State.supplied_of_recordOnLadder (h : s.recordOnLadder n = true) : s.supplied n = true := by
  simp only [State.recordOnLadder, Bool.and_eq_true, decide_eq_true_eq] at h
  simp [State.supplied, h.1]

theorem State.supplied_of_isRestoring (h : s.isRestoring n = true) : s.supplied n = true := by
  simp only [State.isRestoring, decide_eq_true_eq] at h
  simp [State.supplied, h]

theorem dimsOne_shedLadder : DimsOne State.shedLadder := by
  intro t n
  unfold State.shedLadder
  split
  next on =>
    have on := State.supplied_of_recordOnLadder on
    exact ⟨State.dimmed_shed .plain .collapse on, fun m ne => State.passed_shed .plain .collapse on ne⟩
  next => exact ⟨.refl t, fun m _ => .refl t m⟩

theorem dimsOne_cancelWaiting : DimsOne State.cancelWaiting := by
  intro t n
  unfold State.cancelWaiting
  split
  next on =>
    have on := State.supplied_of_isRestoring on
    exact ⟨State.dimmed_shed .cancel .restoreFail on, fun m ne => State.passed_shed .cancel .restoreFail on ne⟩
  next => exact ⟨.refl t, fun m _ => .refl t m⟩

theorem State.reads_shed (k : ShedKind) (cause : ShedCause) (h : s.reads m) : (s.shed k cause n).reads m := by
  unfold State.shed
  cases spent : s.quotaSpent n with
  | true =>
    rw [State.shedWith_of_spent _ _ _ _ _ spent, State.reads, State.slots_become]
    split
    next e => exact ⟨rfl, by rw [← e]; exact h.2⟩
    next => exact h
  | false =>
    rw [State.reads, State.slots_shedWith_of_unspent _ _ _ _ _ _ spent]
    split
    · exact ⟨rfl, rfl⟩
    · exact h

theorem State.allRead_shedLadder (h : s.allRead) (n : RecNo) : (s.shedLadder n).allRead := by
  unfold State.shedLadder
  split
  · exact fun m => State.reads_shed .plain .collapse (h m)
  · exact h

theorem State.allRead_cancelWaiting (h : s.allRead) (n : RecNo) : (s.cancelWaiting n).allRead := by
  unfold State.cancelWaiting
  split
  · exact fun m => State.reads_shed .cancel .restoreFail (h m)
  · exact h

/-- The ladder's records shed. -/
def State.ladderShed (s : State) : State := allRecords.foldl State.shedLadder s

/-- The waiting records cancelled. -/
def State.waitingCancelled (s : State) : State := allRecords.foldl State.cancelWaiting s

/-- A record is read before it is acted on, and then acted on only if it still calls for it (R101). -/
def State.readThen (p : State → RecNo → Bool) (act : RecNo → State → State) (n : RecNo) (t : State) : State :=
  if p t n then
    let t := t.readRecord n
    if p t n then act n t else t
  else t

theorem State.readThen_of_reads (p : State → RecNo → Bool) (act : RecNo → State → State) (h : s.reads n) :
    s.readThen p act n = if p s n then act n s else s := by
  unfold State.readThen
  rw [State.readRecord_of_reads h]
  dsimp only
  split <;> rfl

theorem State.collapseFirst_eq_readThen : s.collapseFirst =
    (((s.eachRecord (State.readThen State.recordOnLadder fun n t => t.shed .plain .collapse n)).windEvery).eachRecord
      (State.readThen State.isRestoring fun n t => t.cancel n)).abortEngaging .abortCollapse := rfl

theorem State.eachRecord_readThen_of_allRead {p : State → RecNo → Bool} {act : RecNo → State → State}
    (kept : ∀ (t : State) (n : RecNo), t.allRead → (if p t n then act n t else t).allRead) (h : s.allRead) :
    s.eachRecord (State.readThen p act) = s.eachRecord fun n t => if p t n then act n t else t :=
  foldl_congr_of_inv (P := State.allRead) (fun t n reads => t.readThen_of_reads p act (reads n)) kept allRecords s h

theorem State.allRead_ladderShed (h : s.allRead) : s.ladderShed.allRead := by
  rw [State.ladderShed]
  generalize allRecords = l
  exact foldl_inv State.allRead State.shedLadder (fun _ n reads => State.allRead_shedLadder reads n) l s h

/-- Where every section reads without an error, the passes act on every record as it stands. -/
theorem State.collapseFirst_eq (h : s.allRead) :
    s.collapseFirst = s.ladderShed.windEvery.waitingCancelled.abortEngaging .abortCollapse := by
  have wound : s.ladderShed.windEvery.allRead := State.allRead_congr (State.allRead_ladderShed h)
    (congrArg Nva.slots (State.eachStation_keeps State.nva _ (by simp) _))
  have first : s.eachRecord (State.readThen State.recordOnLadder fun n t => t.shed .plain .collapse n) = s.ladderShed :=
    State.eachRecord_readThen_of_allRead (fun t n reads => State.allRead_shedLadder reads n) h
  have second := State.eachRecord_readThen_of_allRead (p := State.isRestoring) (act := fun n t => t.cancel n)
    (fun t n reads => State.allRead_cancelWaiting reads n) wound
  rw [State.collapseFirst_eq_readThen, first, second]
  rfl

/-- What a change leaves as the sheds find it: the records and what is kept beside them, the outlets and the
settings; and it makes no reservation. -/
structure State.Alike (s t : State) : Prop where
  slots : t.nva.slots = s.nva.slots
  work : t.atb = s.atb
  outlets : t.fcl.outlets = s.fcl.outlets
  settings : t.svl.settings = s.svl.settings
  holds : ∀ x, s.holds x = false → t.holds x = false

theorem State.Alike.trans (h : s.Alike t) (h' : t.Alike u) : s.Alike u :=
  ⟨h'.slots.trans h.slots, h'.work.trans h.work, h'.outlets.trans h.outlets, h'.settings.trans h.settings,
    fun x none => h'.holds x (h.holds x none)⟩

theorem State.Alike.shedDraw (h : s.Alike t) (n : RecNo) : t.shedDraw n = s.shedDraw n := by
  unfold State.shedDraw
  rw [State.work_congr h.work, State.recState_congr h.slots]

/-- A shed of a record that begins after such a change. -/
theorem State.Alike.recordShed_before {k : ShedKind} {cause : ShedCause} (h : s.Alike t)
    (shed : t.recordShed k cause u n) : s.recordShed k cause u n := by
  obtain ⟨fields, outlets, gone⟩ := shed
  rw [State.quotaSpent_congr h.slots, State.terms_congr h.slots, State.account_congr h.slots, State.work_congr h.work,
    State.set, h.settings, h.shedDraw] at fields
  refine ⟨fields, fun o place => ?_, fun restoring => gone ((State.recState_congr h.slots n).trans restoring)⟩
  rw [outlets o (by rw [State.terms_congr h.slots, place]), State.outlet_congr h.outlets]

/-- A shed of a record that such a change follows. -/
theorem State.Alike.recordShed_after {k : ShedKind} {cause : ShedCause} (h : t.Alike u)
    (shed : s.recordShed k cause t n) : s.recordShed k cause u n := by
  obtain ⟨fields, outlets, gone⟩ := shed
  rw [State.recordShed, State.terms_congr h.slots, State.account_congr h.slots, State.work_congr h.work]
  exact ⟨fields, fun o place => (State.outlet_congr h.outlets o).trans (outlets o place),
    fun restoring => h.holds _ (gone restoring)⟩

theorem State.Alike.recordKept (h : s.Alike t) (n : RecNo) : s.recordKept t n :=
  ⟨by rw [h.slots], State.work_congr h.work n⟩

theorem State.alike_windEvery (s : State) : s.Alike s.windEvery := by
  have kept {β : Type} (P : State → β) (step : ∀ i t, P (State.windDown i t) = P t) : P s.windEvery = P s :=
    State.eachStation_keeps P _ step s
  exact ⟨kept (fun t => t.nva.slots) (by simp), kept State.atb (by simp), kept (fun t => t.fcl.outlets) (by simp),
    kept (fun t => t.svl.settings) (by simp), fun x none => (State.holds_congr s.table_windEvery x).trans none⟩

theorem State.alike_abortEngaging (s : State) (why : SawOutcome) : s.Alike (s.abortEngaging why) :=
  ⟨by simp, by simp, by simp, by simp, fun _ none => State.holds_abortEngaging_of_none why none⟩

theorem State.recordOnLadder_of_kept (h : s.recordKept t n) : t.recordOnLadder n = s.recordOnLadder n := by
  rw [State.recordOnLadder, State.recordOnLadder, h.recState, h.terms]

theorem State.isRestoring_of_kept (h : s.recordKept t n) : t.isRestoring n = s.isRestoring n := by
  rw [State.isRestoring, State.isRestoring, h.recState]

/-- What becomes of a record in a collapse: one on the ladder is shed, one that waits for its restoration is
cancelled, and every other one stays as it was. -/
def State.collapsesTo (s t : State) (n : RecNo) : Prop :=
  if s.recordOnLadder n = true then s.recordShed .plain .collapse t n
  else if s.recState n = .restoring then s.recordShed .cancel .restoreFail t n
  else s.recordKept t n

theorem State.Alike.collapsesTo_before (h : s.Alike t) (made : t.collapsesTo u n) : s.collapsesTo u n := by
  unfold State.collapsesTo at made ⊢
  have ladder : t.recordOnLadder n = s.recordOnLadder n := State.recordOnLadder_of_kept (h.recordKept n)
  rw [ladder, State.recState_congr h.slots] at made
  split at made
  case isTrue on => rw [if_pos on]; exact h.recordShed_before made
  case isFalse off =>
    rw [if_neg off]
    split at made
    case isTrue waits => rw [if_pos waits]; exact h.recordShed_before made
    case isFalse rests => rw [if_neg rests]; exact (h.recordKept n).trans made

theorem State.Alike.collapsesTo_after (h : t.Alike u) (made : s.collapsesTo t n) : s.collapsesTo u n := by
  unfold State.collapsesTo at made ⊢
  split
  case isTrue on => rw [if_pos on] at made; exact h.recordShed_after made
  case isFalse off =>
    rw [if_neg off] at made
    split
    case isTrue waits => rw [if_pos waits] at made; exact h.recordShed_after made
    case isFalse rests => rw [if_neg rests] at made; exact made.trans (h.recordKept n)

theorem State.isRestoring_of_shed {k : ShedKind} {cause : ShedCause} (shed : s.recordShed k cause t n) :
    t.isRestoring n = false := by
  obtain ⟨state, -⟩ := shed.parts
  rw [State.isRestoring, state]
  split <;> rfl

theorem State.mem_allRecords (n : RecNo) : n ∈ allRecords := List.mem_finRange n

theorem State.allRecords_nodup : allRecords.Nodup := List.nodup_finRange 64

/-- The first pass at one record. -/
theorem State.ladderShed_at (s : State) (n : RecNo) :
    (s.recordOnLadder n = true → s.recordShed .plain .collapse s.ladderShed n) ∧
    (s.recordOnLadder n = false → s.Passed n s.ladderShed) := by
  obtain ⟨u, before, after⟩ : ∃ u, s.Passed n u ∧ (u.shedLadder n).Passed n s.ladderShed :=
    dimsOne_shedLadder.hit (State.mem_allRecords n) State.allRecords_nodup s
  unfold State.shedLadder at after
  rw [State.recordOnLadder_of_kept before.kept] at after
  constructor
  · intro on
    rw [if_pos on] at after
    exact State.recordShed_of_kept before.dimmed before.kept (u.recordShed_shed n _ _) after.dimmed after.kept
  · intro off
    rw [if_neg (Bool.eq_false_iff.1 off)] at after
    exact before.trans after

/-- The second pass at one record. -/
theorem State.waitingCancelled_at (s : State) (n : RecNo) :
    (s.isRestoring n = true → s.recordShed .cancel .restoreFail s.waitingCancelled n) ∧
    (s.isRestoring n = false → s.Passed n s.waitingCancelled) := by
  obtain ⟨u, before, after⟩ : ∃ u, s.Passed n u ∧ (u.cancelWaiting n).Passed n s.waitingCancelled :=
    dimsOne_cancelWaiting.hit (State.mem_allRecords n) State.allRecords_nodup s
  unfold State.cancelWaiting at after
  rw [State.isRestoring_of_kept before.kept] at after
  constructor
  · intro on
    rw [if_pos on] at after
    exact State.recordShed_of_kept before.dimmed before.kept (u.recordShed_shed n _ _) after.dimmed after.kept
  · intro off
    rw [if_neg (Bool.eq_false_iff.1 off)] at after
    exact before.trans after

/-- Both passes, with the stations wound down between them. -/
theorem State.collapsesTo_passes (s : State) (n : RecNo) : s.collapsesTo s.ladderShed.windEvery.waitingCancelled n := by
  obtain ⟨shed, passed⟩ := s.ladderShed_at n
  have between := s.ladderShed.alike_windEvery
  obtain ⟨cancelled, spared⟩ := s.ladderShed.windEvery.waitingCancelled_at n
  rw [State.isRestoring_of_kept (between.recordKept n)] at cancelled spared
  unfold State.collapsesTo
  split
  case isTrue on =>
    have shed := shed on
    have spared := spared (State.isRestoring_of_shed shed)
    exact State.recordShed_of_kept (.refl s) ⟨rfl, rfl⟩ (between.recordShed_after shed) spared.dimmed spared.kept
  case isFalse off =>
    have passed := passed (Bool.eq_false_iff.2 off)
    rw [State.isRestoring_of_kept passed.kept] at cancelled spared
    split
    case isTrue waits =>
      exact State.recordShed_of_kept passed.dimmed passed.kept
        (between.recordShed_before (cancelled (decide_eq_true waits))) (.refl _) ⟨rfl, rfl⟩
    case isFalse rests =>
      exact (passed.kept.trans (between.recordKept n)).trans (spared (decide_eq_false rests)).kept

theorem State.collapsesTo_collapseFirst (h : s.allRead) (n : RecNo) : s.collapsesTo s.collapseFirst n := by
  rw [State.collapseFirst_eq h]
  exact (State.alike_abortEngaging _ _).collapsesTo_after (s.collapsesTo_passes n)

end Records

end Sys2Proof.Machine

/-! # The loss of the frequency (R54, R69, R110) -/

namespace Sys2Proof.Machine

section Collapse

variable {s : State} {i : StationNo}

theorem State.spu_readThen {p : State → RecNo → Bool} {act : RecNo → State → State}
    (kept : ∀ n t, (act n t).spu = t.spu) (s : State) : (s.eachRecord (State.readThen p act)).spu = s.spu := by
  refine State.eachRecord_keeps State.spu _ (fun n t => ?_) s
  unfold State.readThen
  dsimp only
  split
  · split
    · rw [kept, State.spu_readRecord]
    · exact State.spu_readRecord t n
  · rfl

/-- The collapse action before the ENGAGING station is aborted. -/
def State.collapsePasses (s : State) : State :=
  ((s.eachRecord (State.readThen State.recordOnLadder fun n t => t.shed .plain .collapse n)).windEvery).eachRecord
    (State.readThen State.isRestoring fun n t => t.cancel n)

theorem State.collapseFirst_eq_passes : s.collapseFirst = s.collapsePasses.abortEngaging .abortCollapse :=
  State.collapseFirst_eq_readThen

theorem State.station_collapsePasses (s : State) (i : StationNo) : s.collapsePasses.station i =
    if (s.station i).state = .running then (s.station i).wound else s.station i := by
  have first := State.spu_readThen (p := State.recordOnLadder) (act := fun n t => t.shed .plain .collapse n) (by simp) s
  have second := State.spu_readThen (p := State.isRestoring) (act := fun n t => t.cancel n) (by simp)
    (s.eachRecord (State.readThen State.recordOnLadder fun n t => t.shed .plain .collapse n)).windEvery
  rw [State.collapsePasses, State.station, second, ← State.station, State.station_windEvery, State.station, first]
  rfl

theorem State.station_collapseFirst (s : State) (i : StationNo) : s.collapseFirst.station i =
    if (s.station i).state = .engaging then (s.station i).aborted .abortCollapse
    else if (s.station i).state = .running then (s.station i).wound
    else s.station i := by
  rw [State.collapseFirst_eq_passes, State.station_abortEngaging, State.station_collapsePasses]
  cases state : (s.station i).state <;> simp [Station.wound, state]

theorem State.holds_collapseFirst (engaging : (s.station i).state = .engaging) :
    s.collapseFirst.holds (.station i) = false := by
  have still : (s.collapsePasses.station i).state = .engaging := by
    rw [State.station_collapsePasses, if_neg (by simp [engaging]), engaging]
  rw [State.collapseFirst_eq_passes]
  exact State.holds_abortEngaging .abortCollapse still

/-- The ladder's timers, without its restoration watch. -/
def Sld.timers (l : Sld) : Sld := { l with watch := [] }

theorem Sld.eq_of_timers {l k : Sld} (h : l.timers = k.timers) : l = { k with watch := l.watch } := by
  cases l
  cases k
  simp_all [Sld.timers]

theorem State.timers_dropRestoration (s : State) (n : RecNo) : (s.dropRestoration n).sld.timers = s.sld.timers := rfl

theorem State.timers_leave (s : State) (n : RecNo) : (s.leave n).sld.timers = s.sld.timers := by
  rw [State.sld_leave]
  rfl

theorem State.timers_shed (s : State) (k : ShedKind) (cause : ShedCause) (n : RecNo) :
    (s.shed k cause n).sld.timers = s.sld.timers := by
  have become (st : RecState) : (s.become n st).sld.timers = s.sld.timers := by
    rw [State.sld_become, State.timers_leave]
  unfold State.shed
  cases spent : s.quotaSpent n with
  | true =>
    rw [State.shedWith_of_spent _ _ _ _ _ spent]
    exact become .quotaOut
  | false =>
    rw [State.shedWith_eq_of_unspent _ _ _ spent]
    exact become .shed

theorem State.timers_readRecord (s : State) (n : RecNo) : (s.readRecord n).sld.timers = s.sld.timers := by
  have map : s.readMap.sld = s.sld := by simp
  obtain ⟨e, -⟩ | ⟨e, -⟩ | ⟨-, ⟨o, -, e⟩ | ⟨-, e⟩⟩ := s.readRecord_cases n
  · rw [e]
  · rw [e]
    simp
  · have suspect : (s.readMap.suspectRecord n o).sld = (s.readMap.dropRestoration n).sld := by
      unfold State.suspectRecord
      dsimp only
      split <;> split <;> simp
    rw [e, suspect, State.timers_dropRestoration, map]
  · have vacated : (s.readMap.vacateLost n).sld.timers = s.readMap.sld.timers := by
      unfold State.vacateLost State.vacate
      simp [State.timers_leave, State.timers_dropRestoration, State.unbind]
    rw [e, vacated, map]

theorem State.timers_collapseFirst (s : State) : s.collapseFirst.sld.timers = s.sld.timers :=
  State.collapseFirst_keepsWhat (fun t => t.sld.timers) (fun n t => t.timers_readRecord n)
    (fun n t => t.timers_shed .plain .collapse n) (fun n t => t.timers_shed .cancel .restoreFail n)
    (by simp) (by simp) s

end Collapse

/-! ## The tests of a loss -/

section Loss

variable {s t : State} {i : StationNo} {n : RecNo}

/-- The ladder with its step and collapse timers stopped. -/
def Sld.stilled (l : Sld) : Sld :=
  { l with
    step := none
    collapse1 := none
    collapse1Spent := false
    collapse2 := none
    collapse2Spent := false }

/-- The governor that has lost the frequency (R69). -/
def Bgv.lost (b : Bgv) : Bgv := if b.state = .active then { b with state := .holding, hold := some 8000000 } else b

/-- Whether the loss ends in STANDSTILL: only a governor that held on to an ACTIVE state asks for the rest
test (R166). -/
def State.lossRests (s : State) : Bool :=
  s.plant == .runDown && s.bgv.state == .active && !s.fsu.pickupFault && decide (s.fsu.shaftSpeed < 50) && s.gateClosed

/-- Without a valid frequency no condition of the ladder holds (R107, R110, R111). -/
theorem State.sld_tests_of_invalid (invalid : s.fsu.freqValid = false) :
    s.stepTest.collapseTests.sld = s.sld.stilled := by
  have step : s.stepCondition = false := by simp [State.stepCondition, invalid]
  have collapse (level : Nat) : s.stepTest.collapseCondition level = false := by
    simp [State.collapseCondition, invalid]
  simp only [State.collapseTests, collapse]
  simp [State.stepTest, step, Sld.stilled, Timer.follow, Timer.followUnlessSpent]

theorem State.bgv_governorLosesFrequency : s.governorLosesFrequency.bgv = s.bgv.lost := by
  unfold State.governorLosesFrequency Bgv.lost
  split <;> rfl

theorem State.bgv_loseFrequency : s.loseFrequency.bgv = s.bgv.lost := by
  simp [State.loseFrequency, State.bgv_governorLosesFrequency]

theorem State.loseFrequency_leaves : s.loseFrequency.nva = s.nva ∧ s.loseFrequency.atb = s.atb ∧
    s.loseFrequency.fcl = s.fcl ∧ s.loseFrequency.spu = s.spu ∧ s.loseFrequency.rsv = s.rsv ∧
    s.loseFrequency.msq = s.msq ∧ s.loseFrequency.wgc = s.wgc ∧ s.loseFrequency.svl = s.svl := by
  simp [State.loseFrequency]

theorem State.sld_loseFrequency : s.loseFrequency.sld = s.sld.stilled :=
  (State.sld_tests_of_invalid (by simp)).trans (by simp)

theorem State.alike_loseFrequency (s : State) : s.Alike s.loseFrequency := by
  obtain ⟨nva, atb, fcl, -, rsv, -, -, svl⟩ := s.loseFrequency_leaves
  exact ⟨by rw [nva], atb, by rw [fcl], by rw [svl], fun x none => (State.holds_congr (by rw [rsv]) x).trans none⟩

theorem State.plant_loseFrequency : s.loseFrequency.plant = s.plant := by
  obtain ⟨-, -, -, -, -, -, wgc, -⟩ := s.loseFrequency_leaves
  rw [State.plant, wgc]
  rfl

theorem State.shedOnLoss_of_onLine (on : s.plant = .onLine) : s.shedOnLoss = s.loseFrequency.collapseFirst :=
  if_pos (State.plant_loseFrequency.trans on)

theorem State.shedOnLoss_of_other (off : s.plant ≠ .onLine) : s.shedOnLoss = s.loseFrequency :=
  if_neg (by rwa [State.plant_loseFrequency])

theorem State.shedOnLoss_keeps : s.shedOnLoss.bgv = s.bgv.lost ∧ s.shedOnLoss.wgc = s.wgc ∧ s.shedOnLoss.msq = s.msq ∧
    s.shedOnLoss.sld.timers = s.sld.stilled.timers := by
  obtain ⟨-, -, -, -, -, msq, wgc, -⟩ := s.loseFrequency_leaves
  by_cases on : s.plant = .onLine
  · rw [State.shedOnLoss_of_onLine on, State.timers_collapseFirst, State.sld_loseFrequency]
    exact ⟨by simp [State.bgv_loseFrequency], by simp [wgc], by simp [msq], rfl⟩
  · rw [State.shedOnLoss_of_other on, State.sld_loseFrequency]
    exact ⟨State.bgv_loseFrequency, wgc, msq, rfl⟩

/-- What the loss leaves of a station (R110, R129). -/
def Station.lost (onLine : Prop) [Decidable onLine] (x : Station) : Station :=
  if onLine then
    (if x.state = .engaging then x.aborted .abortCollapse else if x.state = .running then x.wound else x)
  else if x.state = .engaging then { x with dip := none }
  else x

theorem State.station_dipTest_of_invalid (invalid : s.fsu.freqValid = false) (i : StationNo) :
    s.dipTest.station i =
      if (s.station i).state = .engaging then { s.station i with dip := none } else s.station i := by
  have dip : s.dipCondition = false := by simp [State.dipCondition, invalid]
  simp only [State.dipTest, State.station, State.modSpu, Fin.getElem_fin, Vector.getElem_map, dip]
  rfl

theorem State.station_tellLoss (i : StationNo) : s.tellLoss.station i = (s.station i).lost (s.plant = .onLine) := by
  have told : s.tellLoss.station i = s.shedOnLoss.dipTest.station i := by simp [State.tellLoss, State.station]
  have lost : s.loseFrequency.station i = s.station i := by
    obtain ⟨-, -, -, spu, -⟩ := s.loseFrequency_leaves
    rw [State.station, spu]
    rfl
  rw [told, State.station_dipTest_of_invalid (by rw [State.fsu_shedOnLoss]), Station.lost]
  by_cases on : s.plant = .onLine
  · rw [State.shedOnLoss_of_onLine on, State.station_collapseFirst, lost, if_pos on]
    cases state : (s.station i).state <;> simp [Station.wound, Station.aborted, state]
  · rw [State.shedOnLoss_of_other on, lost, if_neg on]

/-- The water controller without a valid frequency (R161, R167). -/
def Wgc.lost (running : Bool) (w : Wgc) : Wgc :=
  { w with
    sync := if w.plant = .runUp then none else w.sync
    freqOver := if running = true then none else w.freqOver }

theorem State.wgc_waterTakesFrequency_of_invalid (invalid : s.fsu.freqValid = false) :
    s.waterTakesFrequency.wgc = s.wgc.lost s.running := by
  have step : s.inStep = false := by simp [State.inStep, invalid]
  have test : s.inStepTest.wgc = { s.wgc with sync := if s.wgc.plant = .runUp then none else s.wgc.sync } := by
    unfold State.inStepTest
    split
    case isTrue up => rw [step, if_pos (show s.wgc.plant = .runUp from up)]; rfl
    case isFalse other => rw [if_neg (show s.wgc.plant ≠ .runUp from other)]
  have runs : s.inStepTest.running = s.running := by rw [State.running, State.plant, test]; rfl
  have high : (s.inStepTest.fsu.freqValid && decide (57500 < s.inStepTest.fsu.freq)) = false := by simp [invalid]
  rw [State.waterTakesFrequency, State.freqOverTest, runs, high]
  split
  case isTrue on => rw [State.modWgc_wgc, test, Wgc.lost, if_pos on]; rfl
  case isFalse off => rw [test, Wgc.lost, if_neg off]

theorem State.tellLoss_keeps : s.tellLoss.bgv = s.bgv.lost ∧ s.tellLoss.wgc = s.wgc.lost s.running ∧
    s.tellLoss.msq = s.msq ∧ s.tellLoss.sld.timers = s.sld.stilled.timers := by
  obtain ⟨bgv, wgc, msq, sld⟩ := s.shedOnLoss_keeps
  refine ⟨by simp [State.tellLoss, bgv], ?_, by simp [State.tellLoss, msq], by simp [State.tellLoss, sld]⟩
  have told : s.tellLoss.wgc = s.shedOnLoss.dipTest.waterTakesFrequency.wgc := by simp [State.tellLoss]
  have invalid : s.shedOnLoss.dipTest.fsu.freqValid = false := by simp [State.fsu_shedOnLoss]
  have water : s.shedOnLoss.dipTest.wgc = s.wgc := by simp [wgc]
  rw [told, State.wgc_waterTakesFrequency_of_invalid invalid, State.running, State.plant, water]
  rfl

/-- The records after a loss in ON-LINE (R110). -/
theorem State.collapsesTo_tellLoss (on : s.plant = .onLine) (reads : s.allRead) (n : RecNo) :
    s.collapsesTo s.tellLoss n := by
  have lost : s.Alike s.loseFrequency := s.alike_loseFrequency
  have told : s.shedOnLoss.Alike s.tellLoss :=
    ⟨by simp [State.tellLoss], by simp [State.tellLoss], by simp [State.tellLoss], by simp [State.tellLoss],
      fun x none => (State.holds_congr (by simp [State.tellLoss]) x).trans none⟩
  have shed := State.collapsesTo_collapseFirst (State.allRead_congr reads lost.slots) n
  rw [← State.shedOnLoss_of_onLine on] at shed
  exact told.collapsesTo_after (lost.collapsesTo_before shed)

theorem State.holds_tellLoss (on : s.plant = .onLine) (engaging : (s.station i).state = .engaging) :
    s.tellLoss.holds (.station i) = false := by
  obtain ⟨-, -, -, spu, -⟩ := s.loseFrequency_leaves
  have table : s.tellLoss.rsv.table = s.loseFrequency.collapseFirst.rsv.table := by
    simp [State.tellLoss, State.shedOnLoss_of_onLine on]
  rw [State.holds_congr table]
  exact State.holds_collapseFirst (by rw [State.station, spu]; exact engaging)

theorem State.tellLoss_leaves (off : s.plant ≠ .onLine) : s.tellLoss.nva = s.nva ∧ s.tellLoss.atb = s.atb ∧
    s.tellLoss.fcl = s.fcl := by
  obtain ⟨nva, atb, fcl, -⟩ := s.loseFrequency_leaves
  simp [State.tellLoss, State.shedOnLoss_of_other off, nva, atb, fcl]

/-! ## The rest test of a loss (R166) -/

theorem State.plant_tellLoss : s.tellLoss.plant = s.plant := by
  obtain ⟨-, wgc, -⟩ := s.tellLoss_keeps
  rw [State.plant, wgc]
  rfl

theorem State.restTest_tellLoss (active : s.bgv.state = .active) :
    s.tellLoss.restTest = if s.lossRests = true then s.tellLoss.enterStandstill else s.tellLoss := by
  obtain ⟨bgv, -, msq, -⟩ := s.tellLoss_keeps
  have holding : s.tellLoss.bgv.state = .holding := by rw [bgv, Bgv.lost, if_pos active]
  have rest : s.tellLoss.atRest = (!s.fsu.pickupFault && decide (s.fsu.shaftSpeed < 50)) := by
    rw [State.atRest, State.shaftValid, holding, State.fsu_tellLoss]
    cases s.fsu.pickupFault <;> rfl
  have finds : (decide (s.tellLoss.plant = .runDown) && s.tellLoss.atRest && s.tellLoss.gateClosed) = s.lossRests := by
    rw [State.plant_tellLoss, rest, State.gateClosed_congr msq, State.lossRests, active, ← Bool.and_assoc]
    simp only [beq_self_eq_true, Bool.and_true]
    rfl
  unfold State.restTest
  rw [finds]

theorem State.frequencyLost_of_moving (moving : s.lossRests = false) : s.frequencyLost = s.tellLoss := by
  rw [State.frequencyLost_eq]
  split
  · rfl
  case isFalse changed =>
    obtain ⟨bgv, -⟩ := s.tellLoss_keeps
    have active : s.bgv.state = .active := by
      by_contra other
      exact changed (by rw [bgv, Bgv.lost, if_neg other])
    rw [State.restTest_tellLoss active, if_neg (Bool.eq_false_iff.1 moving)]

theorem State.active_of_lossRests (rests : s.lossRests = true) : s.bgv.state = .active := by
  simp only [State.lossRests, Bool.and_eq_true, beq_iff_eq] at rests
  obtain ⟨⟨⟨⟨-, active⟩, -⟩, -⟩, -⟩ := rests
  exact active

theorem State.frequencyLost_of_rest (rests : s.lossRests = true) : s.frequencyLost = s.tellLoss.enterStandstill := by
  have active := State.active_of_lossRests rests
  obtain ⟨bgv, -⟩ := s.tellLoss_keeps
  have changed : s.tellLoss.bgv.state ≠ s.bgv.state := by rw [bgv, Bgv.lost, if_pos active, active]; exact nofun
  rw [State.frequencyLost_eq, if_neg changed, State.restTest_tellLoss active, if_pos rests]

theorem State.moving_of_plant (h : s.plant ≠ .runDown) : s.lossRests = false := by simp [State.lossRests, h]

/-- A rest stops no further timer of the ladder. -/
theorem State.sld_enterStandstill_of_invalid (invalid : s.fsu.freqValid = false) :
    s.enterStandstill.sld = s.sld.stilled := by
  have inactive : s.standing.governorInactive.sld.stilled = s.sld.stilled := by
    unfold State.governorInactive
    split
    · rfl
    · simp [State.governorUpdate, State.stepTest, Sld.stilled, State.standing]
  have tests : s.standing.governorInactive.stepTest.collapseTests.sld = s.standing.governorInactive.sld.stilled :=
    State.sld_tests_of_invalid (by simp [State.standing, invalid])
  rw [State.enterStandstill_eq]
  simp [tests, inactive]

theorem State.sld_frequencyLost : s.frequencyLost.sld = { s.sld.stilled with watch := s.frequencyLost.sld.watch } := by
  obtain ⟨-, -, -, told⟩ := s.tellLoss_keeps
  refine Sld.eq_of_timers ?_
  cases rests : s.lossRests with
  | false => rw [State.frequencyLost_of_moving rests, told]
  | true =>
    have still : s.tellLoss.sld.stilled.timers = s.tellLoss.sld.timers.stilled := rfl
    rw [State.frequencyLost_of_rest rests, State.sld_enterStandstill_of_invalid (by rw [State.fsu_tellLoss]),
      still, told]
    rfl

/-- The rest test of a loss touches no record, no order, no station and no reservation. -/
theorem State.frequencyLost_leaves : s.frequencyLost.nva = s.tellLoss.nva ∧ s.frequencyLost.atb = s.tellLoss.atb ∧
    s.frequencyLost.fcl = s.tellLoss.fcl ∧ s.frequencyLost.spu = s.tellLoss.spu ∧
    s.frequencyLost.rsv.table = s.tellLoss.rsv.table := by
  cases rests : s.lossRests with
  | false => rw [State.frequencyLost_of_moving rests]; exact ⟨rfl, rfl, rfl, rfl, rfl⟩
  | true => rw [State.frequencyLost_of_rest rests]; exact State.enterStandstill_leaves

end Loss

end Sys2Proof.Machine

/-! # Crossings and gaps (O39) -/

namespace Sys2Proof.Machine

section Judgement

variable {s a q : State} {count r : BitVec 32}

/-! ## The gap timer (R53) -/

/-- The gap timer restarted and the reference absent, before the rejection. -/
def State.gapped (s : State) : State := s.modFsu fun u => { u with reference := none, gap := some (millis 40) }

theorem exec_gapTimerExpiry (released : s.held = false) (runs : s.fsu.gap.isSome = true) :
    exec .gapTimerExpiry s = .next s.gapped.reject.settle :=
  (unlessHeld_of_released _ released).trans (congrArg _ (if_pos runs))

/-- The rejection that makes the frequency invalid (R54). -/
def State.losing (s : State) : Bool := decide (2 ≤ s.fsu.rejections) && s.fsu.freqValid

theorem State.reject_of_losing (h : s.losing = true) : s.reject = s.countRejection.frequencyLost := by
  simp only [State.losing, Bool.and_eq_true, decide_eq_true_eq] at h
  exact State.reject_of_third h.1 h.2

theorem State.reject_of_keeping (h : s.losing = false) : s.reject = s.countRejection := by
  refine State.reject_of_other ?_
  simp only [State.losing, Bool.and_eq_false_iff, decide_eq_false_iff_not, Nat.not_le] at h
  exact h

/-- What the third rejection of a gap leaves. -/
theorem State.frequencyLost_gapped (lost : s.losing = true) :
    s.gapped.countRejection.frequencyLost.fsu = { s.fsu with
      gap := some 320000
      reference := none
      rejections := 3
      freqValid := false
      slip := none
      slipSpent := false } := by
  simp only [State.losing, Bool.and_eq_true, decide_eq_true_eq] at lost
  obtain ⟨run, -⟩ := lost
  have third : min 3 (s.fsu.rejections + 1) = 3 := Nat.min_eq_left (by omega)
  rw [State.fsu_frequencyLost, ← third]
  rfl

/-! ## The crossing (R51, R52) -/

theorem State.bgv_accept : (s.accept count).bgv =
    { s.bgv with switched := if s.bgv.state = .inactive then s.bgv.switched else s.bgv.target } := by
  have joined (before : Banks) (g : Stage) (t : State) : (t.testIfJoined before g).bgv = t.bgv := by
    unfold State.testIfJoined
    split <;> simp
  unfold State.accept State.switchingInstant
  split
  case isTrue off => rw [if_pos (show s.bgv.state = .inactive from off)]; rfl
  case isFalse on =>
    dsimp only
    rw [joined, joined, joined, joined, if_neg (show s.bgv.state ≠ .inactive from on)]
    rfl

theorem State.accept_leaves : (s.accept count).nva = s.nva ∧ (s.accept count).atb = s.atb ∧
    (s.accept count).fcl = s.fcl ∧ (s.accept count).spu = s.spu ∧ (s.accept count).wgc = s.wgc ∧
    (s.accept count).svl = s.svl ∧ (s.accept count).rsv = s.rsv := by
  simp [State.accept]

theorem State.alike_accept (v : Option (BitVec 32)) : s.Alike ((s.accept count).refer v).countRejection := by
  obtain ⟨nva, atb, fcl, -, -, svl, rsv⟩ := s.accept_leaves (count := count)
  exact ⟨congrArg Nva.slots nva, atb, congrArg Fcl.outlets fcl, congrArg Svl.settings svl,
    fun x none => (State.holds_congr (t := ((s.accept count).refer v).countRejection)
      (congrArg Rsv.table rsv) x).trans none⟩

/-- The marks that the judgement of a capture does not write. -/
def Fsu.capture (u : Fsu) : BitVec 32 × Option (BitVec 32) × Timer × Option (BitVec 32) :=
  (u.captureCount, u.lastCrossing, u.gap, u.reference)

theorem State.capture_reject : s.reject.fsu.capture = s.fsu.capture := by
  rw [State.fsu_reject]
  split <;> rfl

theorem State.tellPeriod_leaves (valid : Bool) : (s.tellPeriod valid).nva = s.nva ∧ (s.tellPeriod valid).fcl = s.fcl ∧
    (s.tellPeriod valid).bgv = s.bgv ∧ (s.tellPeriod valid).plant = s.plant ∧
    (s.tellPeriod valid).fsu.capture = s.fsu.capture := by
  unfold State.tellPeriod
  cases valid <;> simp [Fsu.capture, State.plant]

theorem State.bgv_tellPeriod (valid : Bool) : (s.tellPeriod valid).bgv = s.bgv := by
  obtain ⟨-, -, bgv, -⟩ := s.tellPeriod_leaves valid
  exact bgv

theorem State.plant_tellPeriod (valid : Bool) : (s.tellPeriod valid).plant = s.plant := by
  obtain ⟨-, -, -, plant, -⟩ := s.tellPeriod_leaves valid
  exact plant

/-- The state of a period event before its rest test. -/
def State.periodTold (p : Nat) (s : State) : State := ((s.publish p).governorPeriod).tellPeriod s.fsu.freqValid

theorem State.periodEvent_eq_told (p : Nat) : s.periodEvent p =
    if (s.periodTold p).bgv.state = s.bgv.state then s.periodTold p else (s.periodTold p).restTest := rfl

theorem State.periodEvent_of_plant (p : Nat) (up : s.plant ≠ .runDown) : s.periodEvent p = s.periodTold p := by
  obtain ⟨-, -, -, plant, -⟩ := ((s.publish p).governorPeriod).tellPeriod_leaves s.fsu.freqValid
  have same : (s.periodTold p).plant = s.plant := plant.trans (by simp [State.plant, State.publish])
  have rest : (s.periodTold p).restTest = s.periodTold p := if_neg (by simp [same, up])
  rw [State.periodEvent_eq_told, rest, ite_self]

theorem State.periodEvent_leaves (p : Nat) : (s.periodEvent p).nva = s.nva ∧ (s.periodEvent p).fcl = s.fcl ∧
    (s.periodEvent p).fsu.capture = s.fsu.capture := by
  obtain ⟨nva, fcl, -, -, capture⟩ := ((s.publish p).governorPeriod).tellPeriod_leaves s.fsu.freqValid
  have nva : (s.periodTold p).nva = s.nva := nva.trans (by simp [State.publish])
  have fcl : (s.periodTold p).fcl = s.fcl := fcl.trans (by simp [State.publish])
  have capture : (s.periodTold p).fsu.capture = s.fsu.capture := capture.trans (by simp [State.publish, Fsu.capture])
  rw [State.periodEvent_eq_told]
  split
  · exact ⟨nva, fcl, capture⟩
  · obtain ⟨nva', -, fcl', -⟩ := State.restTest_leaves (s := s.periodTold p)
    exact ⟨nva'.trans nva, fcl'.trans fcl, Eq.trans (by simp [Fsu.capture]) capture⟩

theorem State.switched_governorPeriod : s.governorPeriod.bgv.switched = s.bgv.switched := by
  unfold State.governorPeriod
  split
  · rfl
  · dsimp only
    rw [State.bgv_governorUpdate]
    split
    · rw [State.bgv_triggerStage]
      rfl
    · rfl

theorem State.switched_periodEvent (p : Nat) (up : s.plant ≠ .runDown) :
    (s.periodEvent p).bgv.switched = s.bgv.switched := by
  obtain ⟨-, -, bgv, -, -⟩ := ((s.publish p).governorPeriod).tellPeriod_leaves s.fsu.freqValid
  rw [State.periodEvent_of_plant p up, State.periodTold, bgv, State.switched_governorPeriod]
  rfl

theorem State.switched_reject (up : s.plant ≠ .runDown) : s.reject.bgv.switched = s.bgv.switched := by
  cases lost : s.losing with
  | false => rw [State.reject_of_keeping lost]; rfl
  | true =>
    obtain ⟨bgv, -⟩ := s.countRejection.tellLoss_keeps
    rw [State.reject_of_losing lost, State.frequencyLost_of_moving (s := s.countRejection)
      (State.moving_of_plant up), bgv,
      Bgv.lost]
    split <;> rfl

/-- What an accepted crossing comes to: a first reference, a rejection, or a period event (R52). -/
theorem State.crossing_accepted_cases (accepted : s.fsu.filtered count = false) :
    (s.fsu.reference = none ∧ s.crossing count = (s.accept count).refer (some count)) ∨
    (∃ r v, s.fsu.reference = some r ∧
      ((count - r).toNat < 114286 ∧ v = none ∨ 266667 < (count - r).toNat ∧ v = some count) ∧
      s.crossing count = ((s.accept count).refer v).reject) ∨
    (∃ r, s.fsu.reference = some r ∧ 114286 ≤ (count - r).toNat ∧ (count - r).toNat ≤ 266667 ∧
      s.crossing count = ((s.accept count).refer (some count)).periodEvent (count - r).toNat) := by
  rw [State.crossing_of_accepted accepted]
  cases reference : s.fsu.reference with
  | none => exact .inl ⟨rfl, State.judgeCapture_of_none (by rw [State.fsu_accept, reference])⟩
  | some r =>
    have taken : (s.accept count).fsu.reference = some r := by rw [State.fsu_accept, reference]
    rcases Nat.lt_or_ge (count - r).toNat 114286 with short | short
    · exact .inr (.inl ⟨r, _, rfl, .inl ⟨short, rfl⟩, State.judgeCapture_of_short taken short⟩)
    · rcases Nat.lt_or_ge 266667 (count - r).toNat with long | long
      · exact .inr (.inl ⟨r, _, rfl, .inr ⟨long, rfl⟩, State.judgeCapture_of_long taken long⟩)
      · exact .inr (.inr ⟨r, rfl, short, long, State.judgeCapture_of_period taken short long⟩)

/-- The capture of an accepted crossing, whatever its judgement. -/
theorem State.crossing_marks (accepted : s.fsu.filtered count = false) :
    (s.crossing count).fsu.lastCrossing = some count ∧ (s.crossing count).fsu.gap = some 320000 ∧
    (s.crossing count).fsu.captureCount = s.fsu.captureCount := by
  have marks (v : Option (BitVec 32)) : ((s.accept count).refer v).fsu.capture =
      (s.fsu.captureCount, some count, some 320000, v) := by
    simp [State.refer, State.fsu_accept, Fsu.capture]
  have judged : ∃ v, (s.crossing count).fsu.capture = (s.fsu.captureCount, some count, some 320000, v) := by
    obtain ⟨-, e⟩ | ⟨r, v, -, -, e⟩ | ⟨r, -, -, -, e⟩ := State.crossing_accepted_cases accepted
    · exact ⟨_, by rw [e, marks]⟩
    · exact ⟨_, by rw [e, State.capture_reject, marks]⟩
    · exact ⟨_, by rw [e, (State.periodEvent_leaves _).2.2, marks]⟩
  obtain ⟨v, e⟩ := judged
  simp only [Fsu.capture, Prod.mk.injEq] at e
  obtain ⟨stamp, last, gap, -⟩ := e
  exact ⟨last, gap, stamp⟩

/-- The switching instant of an accepted crossing, whatever its judgement (R77). -/
theorem State.switched_crossing (accepted : s.fsu.filtered count = false) (up : s.plant ≠ .runDown) :
    (s.crossing count).bgv.switched = if s.bgv.state = .inactive then s.bgv.switched else s.bgv.target := by
  obtain ⟨-, -, -, -, wgc, -⟩ := s.accept_leaves (count := count)
  have up (v : Option (BitVec 32)) : ((s.accept count).refer v).plant ≠ .runDown := by
    rw [State.plant, State.refer, State.modFsu_wgc, wgc]
    exact up
  have switched (v : Option (BitVec 32)) : ((s.accept count).refer v).bgv.switched =
      if s.bgv.state = .inactive then s.bgv.switched else s.bgv.target := congrArg Bgv.switched State.bgv_accept
  obtain ⟨-, e⟩ | ⟨r, v, -, -, e⟩ | ⟨r, -, -, -, e⟩ := State.crossing_accepted_cases accepted
  · rw [e, switched]
  · rw [e, State.switched_reject (up v), switched]
  · rw [e, State.switched_periodEvent _ (up _), switched]

/-! ### A crossing that is rejected (R52, R54) -/

/-- An accepted crossing whose capture is rejected. -/
def State.rejected (count : BitVec 32) (v : Option (BitVec 32)) (s : State) : State :=
  ((s.accept count).refer v).reject

theorem State.fsu_rejected (v : Option (BitVec 32)) : (s.rejected count v).fsu.freq = s.fsu.freq ∧
    (s.rejected count v).fsu.rejections = min 3 (s.fsu.rejections + 1) ∧
    (s.rejected count v).fsu.freqValid = (if 2 ≤ s.fsu.rejections then false else s.fsu.freqValid) ∧
    (s.rejected count v).fsu.reference = v := by
  have fsu : ((s.accept count).refer v).fsu =
      { s.fsu with
        lastCrossing := some count
        gap := some 320000
        reference := v } := by
    rw [State.refer, State.modFsu_fsu, State.fsu_accept]
  rw [State.rejected, State.fsu_reject, fsu]
  split
  case isTrue lost =>
    have run : 2 ≤ s.fsu.rejections := lost.1
    have third : min 3 (s.fsu.rejections + 1) = 3 := Nat.min_eq_left (by omega)
    exact ⟨rfl, third.symm, (if_pos run).symm, rfl⟩
  case isFalse kept =>
    refine ⟨rfl, rfl, ?_, rfl⟩
    split
    case isTrue run => exact Bool.eq_false_iff.2 fun valid => kept ⟨run, valid⟩
    case isFalse => rfl

theorem State.reference_rejected (v : Option (BitVec 32)) : (s.rejected count v).fsu.reference = v := by
  obtain ⟨-, -, -, reference⟩ := State.fsu_rejected (s := s) (count := count) v
  exact reference

theorem State.losing_refer (v : Option (BitVec 32)) : ((s.accept count).refer v).losing = s.losing := by
  rw [State.losing, State.losing, State.refer, State.modFsu_fsu, State.fsu_accept]

/-- A rejection that keeps the frequency changes the switched banks alone. -/
theorem State.rejected_of_keeping (v : Option (BitVec 32)) (keeps : s.losing = false) :
    (s.rejected count v).nva = s.nva ∧ (s.rejected count v).fcl = s.fcl ∧ (s.rejected count v).spu = s.spu ∧
    (s.rejected count v).wgc = s.wgc ∧
    (s.rejected count v).bgv = { s.bgv with switched := (s.rejected count v).bgv.switched } := by
  obtain ⟨nva, -, fcl, spu, wgc, -⟩ := s.accept_leaves (count := count)
  rw [State.rejected, State.reject_of_keeping (by rw [State.losing_refer, keeps])]
  refine ⟨nva, fcl, spu, wgc, ?_⟩
  show (s.accept count).bgv = { s.bgv with switched := (s.accept count).bgv.switched }
  rw [State.bgv_accept]

/-- A rejection that loses the frequency of a plant that is not running down. -/
theorem State.rejected_of_losing (v : Option (BitVec 32)) (lost : s.losing = true) (up : s.plant ≠ .runDown) :
    s.rejected count v = ((s.accept count).refer v).countRejection.tellLoss ∧
    ((s.accept count).refer v).countRejection.plant = s.plant := by
  obtain ⟨-, -, -, -, wgc, -⟩ := s.accept_leaves (count := count)
  have plant : ((s.accept count).refer v).countRejection.plant = s.plant := congrArg Wgc.plant wgc
  rw [State.rejected, State.reject_of_losing (by rw [State.losing_refer, lost])]
  exact ⟨State.frequencyLost_of_moving (State.moving_of_plant (by rwa [plant])), plant⟩

theorem State.bgv_rejected_of_losing (v : Option (BitVec 32)) (lost : s.losing = true) (up : s.plant ≠ .runDown)
    (active : s.bgv.state = .active) :
    (s.rejected count v).bgv.state = .holding ∧ (s.rejected count v).bgv.hold = some 8000000 := by
  obtain ⟨bgv, -⟩ := ((s.accept count).refer v).countRejection.tellLoss_keeps
  have active : ((s.accept count).refer v).countRejection.bgv.state = .active :=
    (congrArg Bgv.state State.bgv_accept).trans active
  rw [(State.rejected_of_losing v lost up).1, bgv, Bgv.lost, if_pos active]
  exact ⟨rfl, rfl⟩

/-- In ON-LINE the loss sheds the ladder, cancels the restorations and stops the stations (R104, R110, R131). -/
theorem State.rejected_of_losing_onLine (v : Option (BitVec 32)) (lost : s.losing = true) (on : s.plant = .onLine) :
    (s.allRead → ∀ n, s.collapsesTo (s.rejected count v) n) ∧
    (∀ i, (s.rejected count v).station i = (s.station i).lost True) ∧
    ∀ i, (s.station i).state = .engaging → (s.rejected count v).holds (.station i) = false := by
  obtain ⟨e, plant⟩ := State.rejected_of_losing (count := count) v lost (by rw [on]; decide)
  obtain ⟨-, -, -, spu, -⟩ := s.accept_leaves (count := count)
  have alike := s.alike_accept (count := count) v
  have station (i : StationNo) : ((s.accept count).refer v).countRejection.station i = s.station i :=
    congrArg (·[i]) spu
  rw [e]
  refine ⟨fun reads n => ?_, fun i => ?_, fun i engaging => ?_⟩
  · exact alike.collapsesTo_before
      (State.collapsesTo_tellLoss (plant.trans on) (State.allRead_congr reads alike.slots) n)
  · rw [State.station_tellLoss, station]
    simp [Station.lost, plant, on]
  · exact State.holds_tellLoss (plant.trans on) (by rw [station, engaging])

/-! ### A crossing that ends a period (R52, R56) -/

/-- A period event publishes its frequency, whatever the rest of it. -/
theorem State.publishes_periodEvent (p : Nat) : (s.periodEvent p).fsu.freq = frequencyOf p ∧
    (s.periodEvent p).fsu.freqValid = true ∧ (s.periodEvent p).fsu.rejections = 0 := by
  have gauges := State.gauges_periodEvent (s := s) p
  simp only [Fsu.gauges, Prod.mk.injEq] at gauges
  obtain ⟨freq, rejections, valid, -⟩ := gauges
  exact ⟨freq, valid, rejections⟩

/-- An accepted crossing against a reference: rejected outside the valid range, a period event within it. -/
theorem State.crossing_of_reference (accepted : s.fsu.filtered count = false) (reference : s.fsu.reference = some r) :
    ((count - r).toNat < 114286 → s.crossing count = s.rejected count none) ∧
    (266667 < (count - r).toNat → s.crossing count = s.rejected count (some count)) ∧
    (114286 ≤ (count - r).toNat → (count - r).toNat ≤ 266667 →
      s.crossing count = ((s.accept count).refer (some count)).periodEvent (count - r).toNat) := by
  have taken : (s.accept count).fsu.reference = some r := by rw [State.fsu_accept, reference]
  rw [State.crossing_of_accepted accepted]
  exact ⟨State.judgeCapture_of_short taken, State.judgeCapture_of_long taken, State.judgeCapture_of_period taken⟩

/-- A crossing too late to be short is the next reference, rejected or not. -/
theorem State.reference_crossing_of_long (accepted : s.fsu.filtered count = false)
    (reference : s.fsu.reference = some r)
    (long : 114286 ≤ (count - r).toNat) : (s.crossing count).fsu.reference = some count := by
  obtain ⟨-, -, capture⟩ := State.periodEvent_leaves (s := (s.accept count).refer (some count)) (count - r).toNat
  simp only [Fsu.capture, Prod.mk.injEq] at capture
  obtain ⟨-, -, -, period⟩ := capture
  rcases Nat.lt_or_ge 266667 (count - r).toNat with late | within
  · rw [(State.crossing_of_reference accepted reference).2.1 late, State.reference_rejected]
  · rw [(State.crossing_of_reference accepted reference).2.2 long within, period]
    rfl

/-! ### The state at the edge, its time passed -/

theorem State.bgv_advance (n : Nat) : (s.advance n).bgv = { s.bgv with hold := s.bgv.hold.pass n } := rfl

/-- What the passing of time leaves for a crossing to find. -/
theorem State.advance_leaves (n : Nat) : (s.advance n).nva = s.nva ∧ (s.advance n).plant = s.plant ∧
    (s.advance n).fsu.reference = s.fsu.reference ∧ (s.advance n).fsu.freq = s.fsu.freq ∧
    (s.advance n).fsu.rejections = s.fsu.rejections ∧ (s.advance n).fsu.freqValid = s.fsu.freqValid ∧
    ∀ i, ((s.advance n).station i).state = (s.station i).state := by
  refine ⟨?_, ?_, ?_, ?_, ?_, ?_, fun i => by rw [State.station_advance]; rfl⟩ <;>
    simp only [State.plant, State.advance, Fsu.pass, Wgc.pass]

end Judgement

/-- Settles O39: a crossing is ignored, gives a first reference, is rejected or ends a period; a rejection, by the gap
timer too, either counts one more or loses the frequency. -/
theorem crossingsAndGapsAreJudged : Obligations.CrossingsAndGapsAreJudged := by
  refine ⟨fun s count released calm => ⟨fun ignored => ?_, fun accepted => ?_⟩, fun s released calm runs =>
    ⟨fun keeps => ?_, fun lost => ?_⟩⟩
  · rw [exec_crossingEdge released]
    generalize (count - s.fsu.captureCount).toNat = n
    rw [State.crossing_of_filtered (s := s.advance n) (show (s.fsu.pass n).filtered count = true from ignored)]
    exact congrArg _ (State.settle_of_calm calm)
  · refine ⟨_, exec_crossingEdge released count, ?_⟩
    have captured : (s.fsu.pass (count - s.fsu.captureCount).toNat).captureCount = count := by
      show s.fsu.captureCount + BitVec.ofNat 32 (count - s.fsu.captureCount).toNat = count
      rw [BitVec.ofNat_toNat, BitVec.setWidth_eq, add_sub_cancel]
    generalize (count - s.fsu.captureCount).toNat = n at captured ⊢
    have accepted : (s.advance n).fsu.filtered count = false :=
      show (s.fsu.pass n).filtered count = false from accepted
    obtain ⟨nva, plant, reference, freq, rejections, valid, station⟩ := s.advance_leaves n
    have governor := s.bgv_advance n
    rw [← State.fsu_advance] at captured
    generalize s.advance n = a at *
    obtain ⟨last, gap, stamp⟩ := State.crossing_marks accepted
    refine ⟨last, gap, stamp.trans captured, fun up => ?_, fun first => ?_, fun r taken => ?_⟩
    · rw [State.switched_crossing accepted (by rwa [plant]), governor]
    · obtain ⟨-, e⟩ | ⟨r, -, some, -⟩ | ⟨r, some, -⟩ := State.crossing_accepted_cases accepted
      · obtain ⟨nva', -, fcl', spu', wgc', -⟩ := a.accept_leaves (count := count)
        rw [e]
        refine ⟨?_, nva'.trans nva, fcl', spu', wgc'⟩
        rw [State.refer, State.modFsu_fsu, State.fsu_accept]
      · exact nomatch some.symm.trans (reference.trans first)
      · exact nomatch some.symm.trans (reference.trans first)
    · have taken := reference.trans taken
      obtain ⟨shortOf, longOf, periodOf⟩ := State.crossing_of_reference accepted taken
      have rejects (outside : (count - r).toNat < 114286 ∨ 266667 < (count - r).toNat) : ∃ v,
          a.crossing count = a.rejected count v :=
          outside.elim (fun short => ⟨_, shortOf short⟩) fun long => ⟨_, longOf long⟩
      refine ⟨?_, fun outside => ?_, fun short long => ?_⟩
      · split
        case isTrue short => rw [shortOf short, State.reference_rejected]
        case isFalse short => exact State.reference_crossing_of_long accepted taken (by omega)
      · obtain ⟨v, e⟩ := rejects outside
        obtain ⟨freq', rejections', valid', -⟩ := State.fsu_rejected (s := a) (count := count) v
        have losing : a.losing = (decide (2 ≤ s.fsu.rejections) && s.fsu.freqValid) := by
          rw [State.losing, rejections, valid]
        rw [e, ← losing, ← nva]
        rw [rejections] at rejections' valid'
        rw [valid] at valid'
        refine ⟨freq'.trans freq, rejections', valid', State.rejected_of_keeping v, fun lost active up => ?_,
          fun lost on => ?_⟩
        · exact State.bgv_rejected_of_losing v lost (by rwa [plant]) (by rw [governor]; exact active)
        · obtain ⟨records, stations, gone⟩ := State.rejected_of_losing_onLine (count := count) v lost (plant.trans on)
          refine ⟨fun reads n => ?_, fun i => ?_, fun i engaging => gone i (by rw [station, engaging])⟩
          · have slots : s.nva.slots = a.nva.slots := by rw [nva]
            have record := records (State.allRead_congr reads slots.symm) n
            rw [State.recordOnLadder, State.recState_congr slots, State.terms_congr slots]
            exact record
          · rw [stations, ← station]
            rfl
      · obtain ⟨nva', fcl', -⟩ := State.periodEvent_leaves (s := (a.accept count).refer (some count)) (count - r).toNat
        obtain ⟨nva'', -, fcl'', -⟩ := a.accept_leaves (count := count)
        obtain ⟨freq', valid', run'⟩ := State.publishes_periodEvent (s := (a.accept count).refer (some count))
          (count - r).toNat
        rw [periodOf short long]
        exact ⟨freq', valid', run', nva'.trans (nva''.trans nva), fcl'.trans fcl''⟩
  · have keeps : s.gapped.losing = false := keeps
    rw [exec_gapTimerExpiry released runs, State.reject_of_keeping keeps]
    exact congrArg _ (State.settle_of_calm calm)
  · have lost' : s.gapped.losing = true := lost
    refine ⟨_, exec_gapTimerExpiry released runs, ?_⟩
    rw [State.reject_of_losing lost']
    obtain ⟨bgv, wgc, -, -⟩ := s.gapped.countRejection.tellLoss_keeps
    obtain ⟨nva, atb, fcl, spu, table⟩ := s.gapped.countRejection.frequencyLost_leaves
    refine ⟨State.frequencyLost_gapped lost, fun up => ?_, fun on reads n => ?_, fun off => ?_,
      State.sld_frequencyLost (s := s.gapped.countRejection), fun i => ?_, fun on i engaging => ?_, fun moving => ?_,
      fun rests => ?_⟩
    · rw [State.frequencyLost_of_moving (s := s.gapped.countRejection) (State.moving_of_plant up)]
      exact bgv
    · have up : s.gapped.countRejection.plant ≠ .runDown := fun down => absurd (on.symm.trans down) (by decide)
      rw [State.frequencyLost_of_moving (State.moving_of_plant up)]
      exact State.collapsesTo_tellLoss (s := s.gapped.countRejection) on reads n
    · obtain ⟨nva', atb', fcl'⟩ := State.tellLoss_leaves (s := s.gapped.countRejection) off
      exact ⟨nva.trans nva', atb.trans atb', fcl.trans fcl'⟩
    · exact (congrArg (·[i]) spu).trans (s.gapped.countRejection.station_tellLoss i)
    · rw [State.holds_congr table]
      exact State.holds_tellLoss (s := s.gapped.countRejection) on engaging
    · rw [State.frequencyLost_of_moving (s := s.gapped.countRejection) moving]
      exact wgc
    · have active : s.bgv.state = .active := State.active_of_lossRests rests
      have holding : s.gapped.countRejection.bgv.lost =
          { s.bgv with
            state := .holding
            hold := some 8000000 } := if_pos active
      rw [State.frequencyLost_of_rest (s := s.gapped.countRejection) rests]
      obtain ⟨plant, -, -, -, governor⟩ := State.enterStandstill_tells (s := s.gapped.countRejection.tellLoss)
      rw [bgv, holding] at governor
      exact ⟨plant, governor.trans (if_neg nofun)⟩

end Sys2Proof.Machine

/-! # The governor on a period event (O42) -/

namespace Sys2Proof.Machine

/-! ## The computation (R72 to R76) -/

section Compute

variable {x : Settings} {f : Nat} {b : Bgv} {h : Healths}

theorem Healths.fit_eq (h : Healths) (g : Stage) : h.fit g = (h.get g != .faulted) := by
  unfold Healths.fit
  cases h.get g <;> rfl

theorem clampInt_eq (lo hi v : Int) : clampInt lo hi v = max lo (min hi v) := by
  rw [clampInt, min_comm]

theorem clampLimit_cast (limit : Nat) (v : Int) : (clampLimit limit v : Int) = max 0 (min (limit : Int) v) := by
  rw [clampLimit, clampInt_eq]
  exact Int.toNat_of_nonneg (le_max_left _ _)

/-- The weights of the banks that are not FAULTED. -/
theorem Healths.integLimit_cast (h : Healths) : (h.integLimit : Int) =
    (256 * ((if (h.get .a != .faulted) = true then 8 else 0) + (if (h.get .b != .faulted) = true then 4 else 0) +
      (if (h.get .c != .faulted) = true then 2 else 0) + (if (h.get .d != .faulted) = true then 1 else 0) : Nat) +
      (if (h.get .trim != .faulted) = true then 255 else 0)) * 256 + 255 := by
  simp only [Healths.integLimit, Healths.capacity, Healths.coarseCapacity, Healths.fit_eq]
  push_cast
  rfl

theorem Bgv.err_compute : (b.compute x f).err = max (-2000) (min 2000 ((f : Int) - x.fset)) := clampInt_eq ..

theorem Bgv.integ_compute : ((b.compute x f).integ : Int) =
    max 0 (min (b.health.integLimit : Int) (b.integ + x.ki * (b.compute x f).err)) := clampLimit_cast ..

theorem Bgv.demand_compute : ((b.compute x f).demand : Int) =
    max 0 (min (b.health.integLimit : Int) ((b.compute x f).integ + x.kp * (b.compute x f).err)) / 256 := by
  rw [← clampLimit_cast]
  rfl

/-- The banks taken are fit. -/
theorem fit_of_coarseBanks (q : Nat) (g : Stage) (taken : (coarseBanks h q).has g = true) : h.fit g = true := by
  cases g with
  | trim => exact nomatch taken
  | a | b | c | d =>
    simp only [coarseBanks, Banks.has, Bool.and_eq_true] at taken
    exact taken.1

theorem Bgv.coarse_compute : (b.compute x f).coarse = (b.compute x f).target.level ∧
    (b.compute x f).coarse ≤ (b.compute x f).demand / 256 := ⟨rfl, coarseBanks_level_le _ _⟩

theorem Bgv.coarse_compute_best (y : Banks) (fit : ∀ g, y.has g = true → b.health.fit g = true)
    (within : y.level ≤ (b.compute x f).demand / 256) : y.level ≤ (b.compute x f).coarse :=
  level_le_coarseBanks _ _ y (fit .a) (fit .b) (fit .c) (fit .d) within

end Compute

/-! ## What the sequencer keeps of its readings -/

section Entries

variable {s t : State}

theorem Msq.entries_arbitrate (list : List ChannelNo) (m : Msq) : (m.arbitrate list).entries = m.entries := by
  unfold Msq.arbitrate
  (repeat' split) <;> rfl

theorem Msq.entries_abandonRoutine (m : Msq) : m.abandonRoutine.entries = m.entries := by
  unfold Msq.abandonRoutine
  split <;> rfl

theorem State.entries_triggerStage (g : Stage) (s : State) : (s.triggerStage g).msq.entries = s.msq.entries := by
  rw [State.triggerStage, State.modMsq_msq]
  split
  · rw [Msq.entries_arbitrate, Msq.entries_abandonRoutine]
  · rfl

theorem State.entries_accept (count : BitVec 32) : (s.accept count).msq.entries = s.msq.entries := by
  have joined (before : Banks) (g : Stage) (t : State) : (t.testIfJoined before g).msq.entries = t.msq.entries := by
    unfold State.testIfJoined
    split
    · exact State.entries_triggerStage g t
    · rfl
  unfold State.accept State.switchingInstant
  split
  · rfl
  · dsimp only
    rw [joined, joined, joined, joined]
    rfl

theorem State.freshValue_congr (h : t.msq.entries = s.msq.entries) (c : ChannelNo) :
    t.freshValue c = s.freshValue c := by
  have same : t.reading c = s.reading c := by rw [State.reading, h]; rfl
  rw [State.freshValue, State.freshValue, same]

theorem State.gateClosed_of_entries (h : t.msq.entries = s.msq.entries) : t.gateClosed = s.gateClosed := by
  simp only [State.gateClosed, State.freshValue_congr h]

end Entries

/-! ## The governor's event and its update (R68, R76) -/

section Period

variable {s t : State} {p : Nat}

theorem Timer.follow_eq (holds : Bool) (n : Nat) (t : Timer) :
    t.follow holds n = if holds = true then some (t.getD n) else none := by
  cases holds with
  | true => rw [Timer.follow_true, if_pos rfl]
  | false => rfl

theorem Timer.followUnlessSpent_eq (holds spent : Bool) (n : Nat) (t : Timer) : t.followUnlessSpent holds spent n =
    if holds = true then (if spent = true then t else some (t.getD n)) else none := by
  cases t <;> rfl

/-- A timer that a condition has been found for is found again without effect. -/
theorem Timer.follow_follow (holds : Bool) (n : Nat) (t : Timer) :
    (t.follow holds n).follow holds n = t.follow holds n := by
  cases holds with
  | true => simp [Timer.follow_true]
  | false => rfl

/-- The governor's computation and the test of a trim that it turns on (R68, R79). -/
def State.computed (s : State) : State :=
  let t := s.modBgv fun b => b.compute s.set s.fsu.freq
  if s.bgv.trim < 128 ∧ 128 ≤ t.bgv.trim then t.triggerStage .trim else t

theorem State.governorPeriod_of_standstill (down : s.plant = .standstill) : s.governorPeriod = s := if_pos down

theorem State.governorPeriod_of_other (up : s.plant ≠ .standstill) : s.governorPeriod = s.computed.governorUpdate :=
  if_neg up

theorem State.computed_leaves : s.computed.fsu = s.fsu ∧ s.computed.sld = s.sld ∧ s.computed.spu = s.spu ∧
    s.computed.wgc = s.wgc ∧ s.computed.svl = s.svl ∧ s.computed.bgv = s.bgv.compute s.set s.fsu.freq ∧
    s.computed.msq.entries = s.msq.entries := by
  unfold State.computed
  dsimp only
  split
  · exact ⟨by simp, by simp, by simp, by simp, by simp, by simp, State.entries_triggerStage _ _⟩
  · exact ⟨rfl, rfl, rfl, rfl, rfl, rfl, rfl⟩

theorem State.bgv_governorPeriod : s.governorPeriod.bgv =
    if s.plant = .standstill then s.bgv else s.bgv.compute s.set s.fsu.freq := by
  obtain ⟨-, -, -, -, -, bgv, -⟩ := s.computed_leaves
  split
  case isTrue down => rw [State.governorPeriod_of_standstill down]
  case isFalse up => rw [State.governorPeriod_of_other up, State.bgv_governorUpdate, bgv]

theorem State.entries_governorPeriod : s.governorPeriod.msq.entries = s.msq.entries := by
  obtain ⟨-, -, -, -, -, -, entries⟩ := s.computed_leaves
  by_cases down : s.plant = .standstill
  · rw [State.governorPeriod_of_standstill down]
  · rw [State.governorPeriod_of_other down, State.msq_governorUpdate, entries]

/-- The step condition, of what it reads (R107). -/
def sags (supplying : Bool) (x : Settings) (u : Fsu) (b : Bgv) : Bool :=
  supplying && u.freqValid && decide (u.freq + x.shedOffset < x.fset) && b.demand == 0

theorem State.stepCondition_eq : s.stepCondition = sags s.supplying s.svl.settings s.fsu s.bgv := rfl

theorem State.sld_stepTest : s.stepTest.sld =
    { s.sld with step := s.sld.step.follow s.stepCondition s.stepLength } := rfl

theorem State.sld_governorPeriod : s.governorPeriod.sld = { s.sld with
    step := if s.plant = .standstill then s.sld.step
      else s.sld.step.follow (sags s.supplying s.svl.settings s.fsu s.governorPeriod.bgv) s.stepLength } := by
  by_cases down : s.plant = .standstill
  · rw [State.governorPeriod_of_standstill down, if_pos down]
  · obtain ⟨fsu, sld, -, wgc, svl, -, -⟩ := s.computed_leaves
    have prompted : s.computed.governorUpdate.sld = s.computed.promptEvaluation.stepTest.sld := by
      simp [State.governorUpdate]
    have supplying : s.computed.promptEvaluation.supplying = s.supplying :=
      State.supplying_congr (by simp [State.plant, wgc])
    have length : s.computed.promptEvaluation.stepLength = s.stepLength := by
      simp [State.stepLength, State.shedDelay, State.set, sld, svl]
    rw [State.governorPeriod_of_other down, if_neg down, prompted, State.sld_stepTest,
      State.stepCondition_eq, supplying,
      length]
    simp [fsu, sld, svl]

/-- The short condition, of what it reads (R162). -/
def runsShort (target : Nat) (below : Bool) (x : Settings) (b : Bgv) : Bool :=
  (target == x.gateCeiling || below) && decide (b.reserve < x.shortMargin)

/-- The water controller after a governor update (R162, R163, R170). -/
def Wgc.updated (below : Bool) (x : Settings) (b : Bgv) (w : Wgc) : Wgc :=
  { w with
    short := if w.plant = .onLine then w.short.follow (runsShort w.gateTarget below x b) (seconds 30) else w.short
    recovery := if w.plant = .waterShort then
        w.recovery.follow (decide (2 * x.shortMargin ≤ b.reserve)) (seconds 60)
      else w.recovery
    waste := w.waste && decide (x.wasteLevel ≤ b.demand) }

theorem State.shortCondition_eq : s.shortCondition =
    runsShort s.wgc.gateTarget (s.levelBelow s.svl.settings.targetLevel) s.svl.settings s.bgv := rfl

theorem State.levelBelow_congr (h : t.msq.entries = s.msq.entries) (level : Int) :
    t.levelBelow level = s.levelBelow level := by
  simp only [State.levelBelow, State.freshValue_congr h]

theorem State.wgc_shortTest : s.shortTest.wgc = { s.wgc with
    short := if s.wgc.plant = .onLine then s.wgc.short.follow s.shortCondition (seconds 30) else s.wgc.short } := by
  unfold State.shortTest
  split
  case isTrue on => rw [if_pos (show s.wgc.plant = .onLine from on)]; rfl
  case isFalse off => rw [if_neg (show s.wgc.plant ≠ .onLine from off)]

theorem State.wgc_recoveryTest : s.recoveryTest.wgc = { s.wgc with
    recovery := if s.wgc.plant = .waterShort then
        s.wgc.recovery.follow (decide (2 * s.svl.settings.shortMargin ≤ s.bgv.reserve)) (seconds 60)
      else s.wgc.recovery } := by
  unfold State.recoveryTest
  split
  case isTrue on => rw [if_pos (show s.wgc.plant = .waterShort from on)]; rfl
  case isFalse off => rw [if_neg (show s.wgc.plant ≠ .waterShort from off)]

theorem State.wgc_wasteTest : s.wasteTest.wgc = { s.wgc with
    waste := s.wgc.waste && decide (s.svl.settings.wasteLevel ≤ s.bgv.demand) } := by
  unfold State.wasteTest
  split
  case isTrue low => rw [decide_eq_false (Nat.not_le.2 low), Bool.and_false]; rfl
  case isFalse high => rw [decide_eq_true (Nat.not_lt.1 high), Bool.and_true]

theorem State.wgc_governorUpdate : s.governorUpdate.wgc =
    s.wgc.updated (s.levelBelow s.svl.settings.targetLevel) s.svl.settings s.bgv := by
  have level : s.promptEvaluation.stepTest.levelBelow s.svl.settings.targetLevel =
      s.levelBelow s.svl.settings.targetLevel := State.levelBelow_congr (by simp) _
  rw [State.governorUpdate, State.wgc_wasteTest, State.wgc_recoveryTest, State.wgc_shortTest, State.shortCondition_eq]
  simp [level, Wgc.updated]

/-! ## The tests that follow it (R56) -/

theorem State.sld_collapseTests : s.collapseTests.sld = { s.sld with
    collapse1 := s.sld.collapse1.followUnlessSpent (s.collapseCondition 46000) s.sld.collapse1Spent (millis 500)
    collapse1Spent := s.collapseCondition 46000 && s.sld.collapse1Spent
    collapse2 := s.sld.collapse2.followUnlessSpent (s.collapseCondition 45000) s.sld.collapse2Spent (seconds 1)
    collapse2Spent := s.collapseCondition 45000 && s.sld.collapse2Spent } := rfl

theorem State.sld_tellPeriod (valid : Bool) : (s.tellPeriod valid).sld = { s.sld with
    step := if valid = true then s.sld.step else s.sld.step.follow s.stepCondition s.stepLength
    collapse1 := s.sld.collapse1.followUnlessSpent (s.collapseCondition 46000) s.sld.collapse1Spent (millis 500)
    collapse1Spent := s.collapseCondition 46000 && s.sld.collapse1Spent
    collapse2 := s.sld.collapse2.followUnlessSpent (s.collapseCondition 45000) s.sld.collapse2Spent (seconds 1)
    collapse2Spent := s.collapseCondition 45000 && s.sld.collapse2Spent } := by
  have tested (level : Nat) : s.stepTest.collapseCondition level = s.collapseCondition level := rfl
  unfold State.tellPeriod
  cases valid <;> simp [State.sld_collapseTests, State.sld_stepTest, tested]

theorem State.station_dipTest (i : StationNo) : s.dipTest.station i = { s.station i with
    dip := if (s.station i).state = .engaging then (s.station i).dip.follow s.dipCondition (seconds 1)
      else (s.station i).dip } := by
  have tested : s.dipTest.station i = if (s.station i).state = .engaging then
      { s.station i with dip := (s.station i).dip.follow s.dipCondition (seconds 1) }
    else s.station i := by
    simp only [State.dipTest, State.station, State.modSpu, Fin.getElem_fin, Vector.getElem_map]
    rfl
  by_cases on : (s.station i).state = .engaging
  · rw [tested, if_pos on, if_pos on]
  · rw [tested, if_neg on, if_neg on]

theorem State.station_tellPeriod (valid : Bool) (i : StationNo) : (s.tellPeriod valid).station i = { s.station i with
    dip := if (s.station i).state = .engaging then (s.station i).dip.follow s.dipCondition (seconds 1)
      else (s.station i).dip } := by
  have told : (s.tellPeriod valid).spu = (if valid then s else s.stepTest).collapseTests.dipTest.spu := by
    unfold State.tellPeriod
    cases valid <;> simp
  have dip : (if valid then s else s.stepTest).collapseTests.dipCondition = s.dipCondition := by
    unfold State.dipCondition
    cases valid <;> simp [State.set]
  have spu : (if valid then s else s.stepTest).collapseTests.spu = s.spu := by cases valid <;> simp
  rw [State.station, told, ← State.station, State.station_dipTest, dip, State.station, spu]
  rfl

theorem State.fsu_tellPeriod (valid : Bool) :
    (s.tellPeriod valid).fsu = if valid = true then s.fsu else s.slipTest.fsu := by
  unfold State.tellPeriod
  cases valid with
  | true => simp
  | false => exact State.fsu_slipTest_congr (by simp) (by simp) (by simp)

/-- The water controller's tests of a period (R161, R167). -/
def Wgc.measured (inStep high running : Bool) (w : Wgc) : Wgc :=
  { w with
    sync := if w.plant = .runUp then w.sync.follow inStep (seconds 10) else w.sync
    freqOver := if running = true then w.freqOver.follow high (seconds 2) else w.freqOver }

theorem State.wgc_waterTakesFrequency : s.waterTakesFrequency.wgc =
    s.wgc.measured s.inStep (s.fsu.freqValid && decide (57500 < s.fsu.freq)) s.running := by
  have test : s.inStepTest.wgc = { s.wgc with
      sync := if s.wgc.plant = .runUp then s.wgc.sync.follow s.inStep (seconds 10) else s.wgc.sync } := by
    unfold State.inStepTest
    split
    case isTrue up => rw [if_pos (show s.wgc.plant = .runUp from up)]; rfl
    case isFalse other => rw [if_neg (show s.wgc.plant ≠ .runUp from other)]
  have runs : s.inStepTest.running = s.running := by rw [State.running, State.plant, test]; rfl
  have fsu : s.inStepTest.fsu = s.fsu := by simp
  rw [State.waterTakesFrequency, State.freqOverTest, runs, fsu]
  split
  case isTrue on => rw [State.modWgc_wgc, test, Wgc.measured, if_pos on]
  case isFalse off => rw [test, Wgc.measured, if_neg off]

theorem State.wgc_tellPeriod (valid : Bool) : (s.tellPeriod valid).wgc =
    s.wgc.measured s.inStep (s.fsu.freqValid && decide (57500 < s.fsu.freq)) s.running := by
  have told : (s.tellPeriod valid).wgc =
      (if valid then s else s.stepTest).collapseTests.dipTest.waterTakesFrequency.wgc := by
    unfold State.tellPeriod
    cases valid <;> simp
  rw [told, State.wgc_waterTakesFrequency]
  cases valid <;> rfl

/-! ## A period event up to its rest test -/

/-- The state of a period event after its governor update. -/
def State.governed (p : Nat) (s : State) : State := (s.publish p).governorPeriod

theorem State.periodTold_eq (p : Nat) : s.periodTold p = (s.governed p).tellPeriod s.fsu.freqValid := rfl

theorem State.fsu_governed : (s.governed p).fsu =
    { s.fsu with
      freq := frequencyOf p
      freqValid := true
      rejections := 0 } := by
  rw [State.governed, State.fsu_governorPeriod]
  rfl

theorem State.bgv_periodTold_eq (p : Nat) : (s.periodTold p).bgv = (s.governed p).bgv :=
  State.bgv_tellPeriod _

theorem State.plant_governed : (s.governed p).plant = s.plant := by
  simp [State.plant, State.governed, State.publish]

theorem State.svl_governed : (s.governed p).svl = s.svl := by simp [State.governed, State.publish]

theorem State.running_governed : (s.governed p).running = s.running := by
  simp only [State.running, State.plant_governed]

theorem State.supplying_governed : (s.governed p).supplying = s.supplying := State.supplying_congr State.plant_governed

theorem State.collapseCondition_governed (level : Nat) :
    (s.governed p).collapseCondition level = (s.supplying && decide (frequencyOf p < level)) := by
  rw [State.collapseCondition, State.supplying_governed, State.fsu_governed, Bool.and_true]

theorem State.bgv_periodTold (p : Nat) : (s.periodTold p).bgv =
    if s.plant = .standstill then s.bgv else s.bgv.compute s.svl.settings (frequencyOf p) := by
  rw [State.periodTold, State.bgv_tellPeriod, State.bgv_governorPeriod]
  rfl

theorem State.stepLength_governorPeriod : s.governorPeriod.stepLength = s.stepLength := by
  simp [State.stepLength, State.shedDelay, State.set, State.sld_governorPeriod]

/-- Whether the frequency of a period calls for a step (R107). -/
def State.sagsAt (s : State) (f demand : Nat) : Bool :=
  s.supplying && decide (f + s.svl.settings.shedOffset < s.svl.settings.fset) && demand == 0

theorem State.sld_periodTold (p : Nat) : (s.periodTold p).sld = { s.sld with
    step := if s.plant = .standstill ∧ s.fsu.freqValid = true then s.sld.step
      else s.sld.step.follow (s.sagsAt (frequencyOf p) (s.periodTold p).bgv.demand) s.stepLength
    collapse1 := s.sld.collapse1.followUnlessSpent (s.supplying && decide (frequencyOf p < 46000)) s.sld.collapse1Spent
      (millis 500)
    collapse1Spent := (s.supplying && decide (frequencyOf p < 46000)) && s.sld.collapse1Spent
    collapse2 := s.sld.collapse2.followUnlessSpent (s.supplying && decide (frequencyOf p < 45000)) s.sld.collapse2Spent
      (seconds 1)
    collapse2Spent := (s.supplying && decide (frequencyOf p < 45000)) && s.sld.collapse2Spent } := by
  have collapse (level : Nat) := State.collapseCondition_governed (s := s) (p := p) level
  have length : (s.governed p).stepLength = s.stepLength := State.stepLength_governorPeriod
  have sag : sags s.supplying s.svl.settings (s.governed p).fsu (s.governed p).bgv =
      s.sagsAt (frequencyOf p) (s.periodTold p).bgv.demand := by
    rw [State.bgv_periodTold_eq, State.fsu_governed, sags, Bool.and_true]
    rfl
  have step : (s.governed p).sld = { s.sld with
      step := if s.plant = .standstill then s.sld.step
        else s.sld.step.follow (s.sagsAt (frequencyOf p) (s.periodTold p).bgv.demand) s.stepLength } := by
    have published : (s.publish p).fsu = (s.governed p).fsu := State.fsu_governed.symm
    rw [← sag, ← published]
    exact State.sld_governorPeriod
  rw [State.periodTold_eq, State.sld_tellPeriod, collapse, collapse, State.stepCondition_eq, State.supplying_governed,
    State.svl_governed, sag, length, step, ← State.periodTold_eq]
  by_cases down : s.plant = .standstill <;> cases s.fsu.freqValid <;> simp [down, Timer.follow_follow]

theorem State.station_periodTold (p : Nat) (i : StationNo) : (s.periodTold p).station i = { s.station i with
    dip := if (s.station i).state = .engaging then
        (s.station i).dip.follow (decide (frequencyOf p < s.svl.settings.engageDip)) (seconds 1)
      else (s.station i).dip } := by
  have dip : (s.governed p).dipCondition = decide (frequencyOf p < s.svl.settings.engageDip) := by
    rw [State.dipCondition, State.fsu_governed, Bool.true_and, State.set, State.svl_governed]
  have station : (s.governed p).station i = s.station i := by
    simp [State.station, State.governed, State.publish]
  rw [State.periodTold_eq, State.station_tellPeriod, dip, station]

/-- Whether the frequency of a period finds the belt to slip (R63). -/
def State.slipsAt (s : State) (f : Nat) : Bool :=
  s.plant == .onLine && !s.fsu.pickupFault &&
    decide (50 < (((f * 1000 / s.svl.settings.fset : Nat) : Int) - s.fsu.shaftSpeed).natAbs)

theorem State.slip_periodTold (p : Nat) : (s.periodTold p).fsu.slip = (if s.fsu.freqValid = true then s.fsu.slip
      else s.fsu.slip.followUnlessSpent (s.slipsAt (frequencyOf p)) s.fsu.slipSpent (seconds 2)) ∧
    (s.periodTold p).fsu.slipSpent = (if s.fsu.freqValid = true then s.fsu.slipSpent
      else s.slipsAt (frequencyOf p) && s.fsu.slipSpent) := by
  have slips : (s.governed p).slipCondition = s.slipsAt (frequencyOf p) := by
    have plant : (s.governed p).wgc.plant = s.wgc.plant := State.plant_governed
    rw [State.slipCondition_eq, plant, State.svl_governed, State.fsu_governed, slipHolds, Bool.and_true]
    rfl
  rw [State.periodTold_eq, State.fsu_tellPeriod, State.fsu_slipTest, slips, State.fsu_governed]
  cases s.fsu.freqValid <;> exact ⟨rfl, rfl⟩

theorem State.wgc_periodTold (p : Nat) : (s.periodTold p).wgc = { s.wgc with
    sync := if s.plant = .runUp then
        s.wgc.sync.follow (decide (((frequencyOf p : Int) - s.svl.settings.fset).natAbs ≤ 500)) (seconds 10)
      else s.wgc.sync
    freqOver := if s.running = true then s.wgc.freqOver.follow (decide (57500 < frequencyOf p)) (seconds 2)
      else s.wgc.freqOver
    short := if s.plant = .onLine then
        s.wgc.short.follow (runsShort s.wgc.gateTarget (s.levelBelow s.svl.settings.targetLevel) s.svl.settings
          (s.periodTold p).bgv) (seconds 30)
      else s.wgc.short
    recovery := if s.plant = .waterShort then
        s.wgc.recovery.follow (decide (2 * s.svl.settings.shortMargin ≤ (s.periodTold p).bgv.reserve)) (seconds 60)
      else s.wgc.recovery
    waste := s.wgc.waste && (s.plant == .standstill ||
      decide (s.svl.settings.wasteLevel ≤ (s.periodTold p).bgv.demand)) } := by
  have step : (s.governed p).inStep = decide (((frequencyOf p : Int) - s.svl.settings.fset).natAbs ≤ 500) := by
    rw [State.inStep, State.fsu_governed, Bool.true_and, State.set, State.svl_governed]
  have high : ((s.governed p).fsu.freqValid && decide (57500 < (s.governed p).fsu.freq)) =
      decide (57500 < frequencyOf p) := by
    rw [State.fsu_governed, Bool.true_and]
  have update : (s.governed p).wgc = if s.plant = .standstill then s.wgc else
      s.wgc.updated (s.levelBelow s.svl.settings.targetLevel) s.svl.settings (s.periodTold p).bgv := by
    by_cases down : s.plant = .standstill
    · rw [if_pos down, State.governed, State.governorPeriod_of_standstill (s := s.publish p) down]
      rfl
    · obtain ⟨-, -, -, wgc, svl, -, entries⟩ := (s.publish p).computed_leaves
      have governed : s.governed p = (s.publish p).computed.governorUpdate := State.governorPeriod_of_other down
      have bgv : (s.publish p).computed.bgv = (s.periodTold p).bgv := by
        rw [State.bgv_periodTold_eq, governed, State.bgv_governorUpdate]
      rw [if_neg down, governed, State.wgc_governorUpdate, wgc, svl, bgv, State.levelBelow_congr entries]
      rfl
  rw [State.periodTold_eq, State.wgc_tellPeriod, step, high, State.running_governed, update, ← State.periodTold_eq]
  have plant : s.wgc.plant = s.plant := rfl
  by_cases down : s.plant = .standstill
  · simp [down, Wgc.measured, plant]
  · have up : (s.plant == .standstill) = false := beq_eq_false_iff_ne.2 down
    simp [down, up, Wgc.measured, Wgc.updated, plant]

/-- Whether a period event ends in STANDSTILL (R166). -/
def State.periodRests (s : State) : Bool :=
  s.plant == .runDown && s.bgv.state != .active && !s.fsu.pickupFault && decide (s.fsu.shaftSpeed < 50) && s.gateClosed

theorem State.restTest_periodTold (p : Nat) (changed : (s.periodTold p).bgv.state ≠ s.bgv.state) :
    (s.periodTold p).restTest = if s.periodRests = true then (s.periodTold p).enterStandstill else s.periodTold p := by
  have up : s.plant ≠ .standstill := fun down => changed (by rw [State.bgv_periodTold, if_pos down])
  have active : (s.periodTold p).bgv.state = .active := by
    rw [State.bgv_periodTold, if_neg up]
    rfl
  have idle : (s.bgv.state != .active) = true := by
    rw [active] at changed
    simpa [bne_iff_ne] using changed.symm
  have shaft : (s.periodTold p).fsu.pickupFault = s.fsu.pickupFault ∧
      (s.periodTold p).fsu.shaftSpeed = s.fsu.shaftSpeed := by
    rw [State.periodTold_eq, State.fsu_tellPeriod, State.fsu_slipTest, State.fsu_governed]
    split <;> exact ⟨rfl, rfl⟩
  have rest : (s.periodTold p).atRest = (!s.fsu.pickupFault && decide (s.fsu.shaftSpeed < 50)) := by
    rw [State.atRest, State.shaftValid, active, shaft.1, shaft.2]
    cases s.fsu.pickupFault <;> rfl
  have plant : (s.periodTold p).plant = s.plant := (State.plant_tellPeriod _).trans State.plant_governed
  have gate : (s.periodTold p).gateClosed = s.gateClosed := by
    refine State.gateClosed_of_entries ?_
    have told : (s.periodTold p).msq = (s.governed p).msq := by
      rw [State.periodTold_eq, State.tellPeriod]
      cases s.fsu.freqValid <;> simp
    rw [told]
    exact State.entries_governorPeriod
  have finds : (decide ((s.periodTold p).plant = .runDown) && (s.periodTold p).atRest && (s.periodTold p).gateClosed) =
      s.periodRests := by
    rw [plant, rest, gate, State.periodRests, idle, Bool.and_true, ← Bool.and_assoc]
    rfl
  unfold State.restTest
  rw [finds]

theorem State.periodEvent_of_moving (p : Nat) (moving : s.periodRests = false) : s.periodEvent p = s.periodTold p := by
  rw [State.periodEvent_eq_told]
  split
  · rfl
  case isFalse changed => rw [State.restTest_periodTold p changed, if_neg (Bool.eq_false_iff.1 moving)]

theorem State.periodEvent_of_rest (p : Nat) (rests : s.periodRests = true) :
    s.periodEvent p = (s.periodTold p).enterStandstill := by
  have changed : (s.periodTold p).bgv.state ≠ s.bgv.state := by
    simp only [State.periodRests, Bool.and_eq_true, beq_iff_eq, bne_iff_ne] at rests
    obtain ⟨⟨⟨⟨down, other⟩, -⟩, -⟩, -⟩ := rests
    rw [State.bgv_periodTold, if_neg (by rw [down]; decide)]
    exact other.symm
  rw [State.periodEvent_eq_told, if_neg changed, State.restTest_periodTold p changed, if_pos rests]

end Period

end Sys2Proof.Machine

/-! # What a period event computes and starts (O42) -/

namespace Sys2Proof.Machine

section Edge

variable {s : State} {count : BitVec 32}

/-- What the passing of time leaves for the governor and the tests of a period to find. -/
theorem State.advance_leaves_tests (n : Nat) : (s.advance n).svl.settings = s.svl.settings ∧
    (s.advance n).fsu.pickupFault = s.fsu.pickupFault ∧ (s.advance n).fsu.shaftSpeed = s.fsu.shaftSpeed ∧
    (s.advance n).fsu.slipSpent = s.fsu.slipSpent ∧ (s.advance n).sld.collapse1Spent = s.sld.collapse1Spent ∧
    (s.advance n).sld.collapse2Spent = s.sld.collapse2Spent ∧ (s.advance n).wgc.gateTarget = s.wgc.gateTarget ∧
    (s.advance n).wgc.waste = s.wgc.waste ∧ ∀ c, (s.advance n).freshValue c = s.freshValue c := by
  refine ⟨?_, ?_, ?_, ?_, ?_, ?_, ?_, ?_, fun c => by rw [State.freshValue, State.reading_advance]; rfl⟩ <;>
    simp only [State.advance, Fsu.pass, Wgc.pass, Sld.pass]

/-- What an accepted crossing leaves for the period that it ends. -/
structure State.EndsPeriod (a t : State) : Prop where
  fsu : ∃ last gap ref, t.fsu = { a.fsu with
    lastCrossing := last
    gap := gap
    reference := ref }
  sld : t.sld = a.sld
  spu : t.spu = a.spu
  wgc : t.wgc = a.wgc
  svl : t.svl = a.svl
  bgv : t.bgv = { a.bgv with switched := if a.bgv.state = .inactive then a.bgv.switched else a.bgv.target }
  entries : t.msq.entries = a.msq.entries

theorem State.endsPeriod_accept (s : State) (count : BitVec 32) :
    s.EndsPeriod ((s.accept count).refer (some count)) where
  fsu := ⟨_, _, _, by rw [State.refer, State.modFsu_fsu, State.fsu_accept]⟩
  sld := show (s.accept count).sld = s.sld by simp [State.accept]
  spu := show (s.accept count).spu = s.spu by simp [State.accept]
  wgc := show (s.accept count).wgc = s.wgc by simp [State.accept]
  svl := show (s.accept count).svl = s.svl by simp [State.accept]
  bgv := show (s.accept count).bgv = _ from State.bgv_accept
  entries := State.entries_accept count

end Edge

/-- The settings that the timers' lengths are given in (R107). -/
theorem State.stepLength_eq (s : State) :
    s.stepLength = max (s.svl.settings.shedDelay * 800000) (s.sld.pause.getD 0) := by
  rw [State.stepLength, State.shedDelay, millis, Nat.mul_assoc]

/-- A computation in all its parts (R72 to R76). -/
theorem Bgv.compute_tells (x : Settings) (f : Nat) (b : Bgv) :
    let h := b.health
    let fit (g : Stage) : Bool := h.get g != .faulted
    let weights : Nat := (if fit .a = true then 8 else 0) + (if fit .b = true then 4 else 0) +
      (if fit .c = true then 2 else 0) + (if fit .d = true then 1 else 0)
    let limit : Int := (256 * weights + (if fit .trim = true then 255 else 0)) * 256 + 255
    let e : Int := max (-2000) (min 2000 ((f : Int) - x.fset))
    let i : Int := max 0 (min limit (b.integ + x.ki * e))
    let sum : Int := max 0 (min limit (i + x.kp * e))
    let n := b.compute x f
    n.state = .active ∧ n.hold = none ∧ n.health = h ∧ n.err = e ∧ (n.integ : Int) = i ∧ (n.demand : Int) = sum / 256 ∧
    n.coarse = n.target.level ∧ n.coarse ≤ n.demand / 256 ∧ (∀ g : Stage, n.target.has g = true → fit g = true) ∧
    (∀ y : Banks, (∀ g : Stage, y.has g = true → fit g = true) → y.level ≤ n.demand / 256 → y.level ≤ n.coarse) ∧
    n.trim = (if fit .trim = true then min (n.demand - 256 * n.coarse) 255 else 0) ∧
    n.effective = 256 * n.coarse + n.trim ∧ n.reserve = n.effective * x.ballastFull / 4096 := by
  have err := Bgv.err_compute (x := x) (f := f) (b := b)
  have integ := Bgv.integ_compute (x := x) (f := f) (b := b)
  have demand := Bgv.demand_compute (x := x) (f := f) (b := b)
  obtain ⟨coarse, within⟩ := Bgv.coarse_compute (x := x) (f := f) (b := b)
  rw [err, Healths.integLimit_cast] at integ
  rw [integ, err, Healths.integLimit_cast] at demand
  refine ⟨rfl, rfl, rfl, err, integ, demand, coarse, within, fun g taken => ?_, fun y fit level => ?_, ?_, rfl, rfl⟩
  · exact (Healths.fit_eq _ g).symm.trans (fit_of_coarseBanks _ g taken)
  · exact Bgv.coarse_compute_best y (fun g taken => by rw [Healths.fit_eq]; exact fit g taken) level
  · show (if b.health.fit .trim = true then _ else 0) = _
    rw [Healths.fit_eq]
    rfl

/-- Settles O42: an accepted crossing in the valid range is a period event, whose computation and tests are read off the
state at the edge. -/
theorem governorComputesOnThePeriod : Obligations.GovernorComputesOnThePeriod := by
  intro s count r released calm spaced reference short long
  refine ⟨_, exec_crossingEdge released count, ?_⟩
  have accepted : (s.advance (count - s.fsu.captureCount).toNat).fsu.filtered count = false :=
    Fsu.filtered_of_spaced (u := s.fsu.pass _) spaced
  have taken := reference
  generalize (count - s.fsu.captureCount).toNat = n at *
  obtain ⟨-, plant, refs, -, -, valid, state⟩ := s.advance_leaves n
  obtain ⟨settings, fault, speed, slipSpent, spent1, spent2, gateTarget, waste, fresh⟩ := s.advance_leaves_tests n
  have governor := s.bgv_advance n
  rw [← refs] at taken
  generalize s.advance n = a at *
  rw [State.crossing_of_period accepted taken short long]
  have edge := a.endsPeriod_accept count
  generalize (a.accept count).refer (some count) = t at *
  generalize (count - r).toNat = p at *
  obtain ⟨⟨last, gap, ref, fsu⟩, sld, spu, wgc, svl, bgv, entries⟩ := edge
  rw [governor] at bgv
  have plant : t.plant = s.plant := (congrArg Wgc.plant wgc).trans plant
  have fresh (c : ChannelNo) : t.freshValue c = s.freshValue c := (State.freshValue_congr entries c).trans (fresh c)
  have gate : t.gateClosed = s.gateClosed := by rw [State.gateClosed, State.gateClosed, fresh]
  have rest : t.periodRests = s.periodRests := by rw [State.periodRests, plant, bgv, fsu, fault, speed, gate]; rfl
  refine ⟨fun down idle off => ?_, fun rests => ?_, fun up moving => ?_, fun moving => ?_⟩
  · have standing : t.plant = .standstill := plant.trans down
    have moving : t.periodRests = false := by simp [State.periodRests, standing]
    rw [State.periodEvent_of_moving p moving, State.bgv_periodTold, if_pos standing, bgv, if_pos idle, off]
    show { s.bgv with hold := none } = s.bgv
    rw [← off]
  · have rests : t.periodRests = true := rest.trans rests
    have up : t.plant ≠ .standstill := fun down => by simp [State.periodRests, down] at rests
    obtain ⟨stands, -, -, -, inactive⟩ := State.enterStandstill_tells (s := t.periodTold p)
    rw [State.periodEvent_of_rest p rests]
    rw [State.bgv_periodTold, if_neg up, bgv] at inactive
    exact ⟨stands, inactive.trans (if_neg nofun)⟩
  · have moving : t.periodRests = false := rest.trans moving
    rw [State.periodEvent_of_moving p moving, State.bgv_periodTold, if_neg (by rwa [plant]), svl, settings, bgv]
    exact Bgv.compute_tells ..
  · have moving : t.periodRests = false := rest.trans moving
    rw [State.periodEvent_of_moving p moving]
    have slips := State.slip_periodTold (s := t) p
    have timers := State.sld_periodTold (s := t) p
    have stations := State.station_periodTold (s := t) p
    have water := State.wgc_periodTold (s := t) p
    simp only [Timer.follow_eq, Timer.followUnlessSpent_eq, State.stepLength_eq, State.sagsAt, State.slipsAt, runsShort,
      State.levelBelow, fresh, plant, svl, settings] at slips timers stations water
    have runs : t.running = s.running := by rw [State.running, State.running, plant]
    have station (i : StationNo) : t.station i = a.station i := congrArg (·[i]) spu
    have supplies : t.supplying = (s.plant == .onLine || s.plant == .waterShort) := by
      rw [State.supplying_congr plant]
      rfl
    simp only [fsu, sld, wgc, station, runs, supplies, valid, fault, speed, slipSpent, spent1, spent2]
      at slips timers stations water
    refine ⟨timers, fun i => ?_, slips.1, slips.2, ?_⟩
    · rw [← state]
      exact stations i
    · rw [← gateTarget, ← waste]
      exact water

end Sys2Proof.Machine

/-! # Settings written over the Service Link (O14) -/

namespace Sys2Proof.Machine

section Put

variable {s t : State} {c : Cell} {v : Int}

/-! ## The checks (R183, R192) -/

theorem StoreState.isIdle_iff (x : StoreState) : x.isIdle = true ↔ x = .idle := by
  cases x <;> simp [StoreState.isIdle]

theorem putCell_of_busy (busy : s.svl.store ≠ .idle) : putCell c v s = (s, .of .busy) :=
  if_pos (by simpa using mt (StoreState.isIdle_iff _).1 busy)

section Idle

variable (idle : s.svl.store = .idle)
include idle

theorem putCell_of_idle : putCell c v s =
    if (!c.inRange v) = true then (s, .of .badField)
    else if (c.standstillOnly && s.plant ≠ .standstill) = true then (s, .of .wrongState)
    else if (!c.crossOk s.set v) = true then (s, .of .badField)
    else (s.writeCell c v, .of .done) :=
  if_neg (by rw [idle]; decide)

theorem putCell_of_outOfRange (h : c.inRange v = false) : putCell c v s = (s, .of .badField) :=
  (putCell_of_idle idle).trans (if_pos (by rw [h]; rfl))

variable (range : c.inRange v = true)
include range

theorem putCell_of_running (only : c.standstillOnly = true) (up : s.plant ≠ .standstill) :
    putCell c v s = (s, .of .wrongState) := by
  rw [putCell_of_idle idle, if_neg (by simp [range]), if_pos (by simp [only, up])]

variable (free : c.standstillOnly = false ∨ s.plant = .standstill)
include free

theorem putCell_of_crossed (crossed : c.crossOk s.svl.settings v = false) : putCell c v s = (s, .of .badField) := by
  rw [putCell_of_idle idle, if_neg (by simp [range]), if_neg (by obtain h | h := free <;> simp [h]),
    if_pos (by rw [State.set, crossed]; rfl)]

theorem putCell_of_ok (ok : c.crossOk s.svl.settings v = true) : putCell c v s = (s.writeCell c v, .of .done) := by
  rw [putCell_of_idle idle, if_neg (by simp [range]), if_neg (by obtain h | h := free <;> simp [h]),
    if_neg (by rw [State.set, ok]; decide)]

end Idle

/-! ## The request -/

theorem settingPutChecked_of_fit {id index : Byte} {rest : List Byte} (long : 2 ≤ rest.length)
    (short : rest.length ≤ 17) :
    settingPutChecked id index rest = settingPut id index rest := by
  refine if_pos ?_
  simp [Kind.lengthOk, Kind.lengths]
  omega

theorem settingPutChecked_of_misfit {id index : Byte} {rest : List Byte} (h : rest.length < 2 ∨ 17 < rest.length) :
    settingPutChecked id index rest = refuse .badLength := by
  refine if_neg ?_
  simp [Kind.lengthOk, Kind.lengths]
  omega

/-- A command whose owner leaves no evaluation to make. -/
theorem exec_settingPut {id index : Byte} {rest : List Byte} {a : Answer} (ready : s.ready)
    (e : settingPutChecked id index rest s = (t, a)) (calm : t.calm) :
    exec (.settingPut id index rest) s = .next (t.answer 0x21 a) := request_of_calm .settingPut ready e calm

theorem settingPut_cell {id index hi lo : Byte} (other : id ≠ 28) (cell : Cell.ofBytes id index = some c) :
    settingPutChecked id index [hi, lo] = putCell c (c.ofHalf (hi ++ lo)) := by
  rw [settingPutChecked_of_fit (by simp) (by simp), settingPut,
    if_neg (show id ≠ routineId from other), cell]
  rfl

/-! ## What the owning block does (R64, R156, R173) -/

theorem State.rsv_settingChanged : (s.settingChanged c).rsv = s.rsv := by
  unfold State.settingChanged
  cases c with
  | gateCeiling => dsimp only; split <;> simp
  | pickupMode | shaftTeeth | shaftNominal | low | high | count => rfl
  | _ => rfl

theorem State.settingChanged_gateCeiling_of_below (below : s.svl.settings.gateCeiling < s.wgc.gateTarget) :
    s.settingChanged .gateCeiling = s.changeTarget s.svl.settings.gateCeiling := if_pos below

theorem State.gateTarget_changeTarget (target : Nat) : (s.changeTarget target).wgc.gateTarget = target := by
  unfold State.changeTarget
  split
  case isTrue same => exact same.symm
  case isFalse => simpa using State.gateTarget_setTarget target

theorem State.settingChanged_gateCeiling_of_within (within : s.wgc.gateTarget ≤ s.svl.settings.gateCeiling) :
    s.settingChanged .gateCeiling = s := if_neg (Nat.not_lt.2 within)

/-- The change at the owner, setting by setting: the state after the working value is written, and the one after it. -/
theorem State.settingChanged_tells (c : Cell) (t : State) :
    match c with
    | .gateCeiling =>
      (t.svl.settings.gateCeiling < t.wgc.gateTarget →
        (t.settingChanged c).wgc.gateTarget = t.svl.settings.gateCeiling) ∧
      (t.wgc.gateTarget ≤ t.svl.settings.gateCeiling → t.settingChanged c = t) ∧
      (t.settingChanged c).plant = t.plant ∧ (t.settingChanged c).svl = t.svl ∧ (t.settingChanged c).nva = t.nva
    | .pickupMode =>
      t.settingChanged c = { t with fsu := { t.fsu with
        armed := false
        revolution := 0
        badRun := 0
        goodRun := 0
        direction := (match t.svl.settings.pickupMode with | .quadrature => .forward | .single => .none) } }
    | .shaftTeeth | .shaftNominal =>
      t.settingChanged c = { t with fsu := { t.fsu with
        armed := false
        revolution := 0
        badRun := 0
        goodRun := 0 } }
    | .low k | .high k | .count k => t.settingChanged c = t.modReading k fun x => { x with outside := 0, inside := 0 }
    | _ => t.settingChanged c = t := by
  have ceiling (t : State) : (t.settingChanged .gateCeiling).plant = t.plant ∧
      (t.settingChanged .gateCeiling).svl = t.svl ∧ (t.settingChanged .gateCeiling).nva = t.nva := by
    unfold State.settingChanged
    dsimp only
    split
    · exact ⟨by simp [State.plant], by simp, by simp⟩
    · exact ⟨rfl, rfl, rfl⟩
  cases c with
  | gateCeiling =>
    exact ⟨fun below => by rw [State.settingChanged_gateCeiling_of_below below, State.gateTarget_changeTarget],
      State.settingChanged_gateCeiling_of_within, ceiling t⟩
  | pickupMode =>
    have direction : t.svl.settings.pickupMode.firstDirection =
        (match t.svl.settings.pickupMode with | .quadrature => .forward | .single => .none) := by
      cases t.svl.settings.pickupMode <;> rfl
    dsimp only
    rw [← direction]
    rfl
  | _ => rfl

/-! ## The routine list (R156) -/

theorem channelNumber_ofNat (c : ChannelNo) : channelNumber (BitVec.ofNat 8 c.val) = some c := by
  revert c
  decide

theorem channels_ofNat (l : List ChannelNo) : channels (l.map fun c => BitVec.ofNat 8 c.val) = some l := by
  unfold channels
  induction l with
  | nil => rfl
  | cons c l ih => simp [channelNumber_ofNat, ih]

theorem channelNumber_of_large {b : Byte} (h : 16 ≤ b.toNat) : channelNumber b = none := by
  simp [channelNumber, indexFrom0, Nat.not_lt.2 h]

theorem channels_of_large {l : List Byte} (h : ∃ b ∈ l, 16 ≤ b.toNat) : channels l = none := by
  induction l with
  | nil => exact absurd h (by simp)
  | cons c l ih =>
    obtain ⟨b, mem, large⟩ := h
    unfold channels at ih ⊢
    rw [List.mapM_cons]
    obtain rfl | later := List.mem_cons.1 mem
    · rw [channelNumber_of_large large]
      rfl
    · rw [ih ⟨b, later, large⟩]
      cases channelNumber c <;> rfl

/-- The arbiter leaves the run's own counts, and so does an abandoned conversion. -/
theorem Msq.run_arbitrate (m : Msq) (list : List ChannelNo) : (m.arbitrate list).pointer = m.pointer ∧
    (m.arbitrate list).runCount = m.runCount ∧ (m.arbitrate list).scan = m.scan := by
  unfold Msq.arbitrate
  (repeat' split) <;> exact ⟨rfl, rfl, rfl⟩

theorem Msq.run_abandonRoutine (m : Msq) : m.abandonRoutine.pointer = m.pointer ∧
    m.abandonRoutine.runCount = m.runCount ∧ m.abandonRoutine.scan = m.scan := by
  unfold Msq.abandonRoutine
  split <;> exact ⟨rfl, rfl, rfl⟩

theorem Msq.abandonRoutine_ne_routine (m : Msq) (c : ChannelNo) : m.abandonRoutine.conv ≠ .converting .routine c := by
  unfold Msq.abandonRoutine
  split
  case isTrue => exact nofun
  case isFalse other => exact fun e => other (by rw [Msq.convertingFor, e]; exact decide_eq_true rfl)

/-- Without a run in progress the arbiter starts no conversion of the routine. -/
theorem Msq.arbitrate_ne_routine {m : Msq} (list : List ChannelNo) (none : m.runCount = 0)
    (quiet : ∀ c, m.conv ≠ .converting .routine c) (c : ChannelNo) :
    (m.arbitrate list).conv ≠ .converting .routine c := by
  have idle : ¬ m.runCount > 0 := by omega
  unfold Msq.arbitrate
  split
  · split
    · exact nofun
    · split
      · exact nofun
      · split
        · exact nofun
        · split
          · exact nofun
          · exact quiet c
  · exact quiet c

/-- A list replaced ends the run in progress and leaves no conversion of it. -/
theorem State.msq_endRun : s.endRun.msq.pointer = 1 ∧ s.endRun.msq.runCount = 0 ∧
    (∀ c, s.endRun.msq.conv ≠ .converting .routine c) ∧ s.endRun.msq.entries = s.msq.entries ∧
    s.endRun.msq.scan = s.msq.scan := by
  obtain ⟨pointer, count, scan⟩ :=
    ({ s.msq with pointer := 1, runCount := 0 } : Msq).abandonRoutine.run_arbitrate s.set.routine
  obtain ⟨pointer', count', scan'⟩ := ({ s.msq with pointer := 1, runCount := 0 } : Msq).run_abandonRoutine
  refine ⟨pointer.trans pointer', count.trans count', ?_, ?_, scan.trans scan'⟩
  · exact Msq.arbitrate_ne_routine _ count' (Msq.abandonRoutine_ne_routine _)
  · exact (Msq.entries_arbitrate _ _).trans (Msq.entries_abandonRoutine _)

theorem State.writeRoutine_eq (l : List ChannelNo) : s.writeRoutine l =
    if s.svl.settings.routine = l then
      { s with svl := { s.svl with
        settings := { s.svl.settings with routine := l }
        unstored := true } }
    else State.endRun { s with svl := { s.svl with
      settings := { s.svl.settings with routine := l }
      unstored := true } } := rfl

theorem settingPut_routine {index k : Byte} {entries : List Byte} (first : index = 0)
    (fits : entries.length = k.toNat) :
    settingPut 28 index (k :: entries) = putRoutine entries := by
  rw [settingPut, if_pos (show (28 : Byte) = routineId from rfl)]
  exact if_pos ⟨first, fits⟩

theorem putRoutine_of_busy {entries : List Byte} (busy : s.svl.store ≠ .idle) :
    putRoutine entries s = (s, .of .busy) := if_pos (by simpa using mt (StoreState.isIdle_iff _).1 busy)

theorem putRoutine_of_none {entries : List Byte} (idle : s.svl.store = .idle) (none : channels entries = none) :
    putRoutine entries s = (s, .of .badField) := by
  unfold putRoutine
  rw [if_neg (by rw [idle]; decide), none]

theorem putRoutine_of_some {entries : List Byte} {l : List ChannelNo} (idle : s.svl.store = .idle)
    (some : channels entries = some l) (fits : 1 ≤ l.length ∧ l.length ≤ 16) :
    putRoutine entries s = (s.writeRoutine l, .of .done) := by
  unfold putRoutine
  rw [if_neg (by rw [idle]; decide), some]
  exact if_pos fits

/-- An identifier, an index or a length that names no setting. -/
theorem settingPut_of_unknown {id index : Byte} {rest : List Byte} (other : id ≠ 28)
    (unknown : Cell.ofBytes id index = none ∨ rest.length ≠ 2) : settingPut id index rest = refuse .badField := by
  unfold settingPut
  rw [if_neg (show id ≠ routineId from other)]
  split
  next c hi lo e =>
    obtain none | length := unknown
    · exact nomatch none.symm.trans e
    · exact absurd rfl length
  next => rfl

theorem settingPut_of_misfit {index : Byte} {rest : List Byte}
    (misfit : index ≠ 0 ∨ rest.length ≠ (rest.headD 0).toNat + 1) : settingPut 28 index rest = refuse .badField := by
  cases rest with
  | nil => rfl
  | cons k entries =>
    rw [settingPut, if_pos (show (28 : Byte) = routineId from rfl)]
    refine if_neg fun ⟨first, fits⟩ => ?_
    obtain index | length := misfit
    · exact index first
    · exact length (congrArg (· + 1) fits)

/-- A list whose count matches its entries is put as they stand. -/
theorem settingPutChecked_list {index : Byte} {rest : List Byte} (long : 2 ≤ rest.length) (short : rest.length ≤ 17)
    (first : index = 0) (fits : rest.length = (rest.headD 0).toNat + 1) :
    settingPutChecked 28 index rest = putRoutine (rest.drop 1) := by
  rw [settingPutChecked_of_fit long short]
  cases rest with
  | nil => exact absurd long (by simp)
  | cons k entries => exact settingPut_routine first (Nat.succ.inj fits)

end Put

/-- Settles O14: the checks in their order, the owner's change for each setting, and the forms that are refused. -/
theorem settingPutWritesTheWorkingValue : Obligations.SettingPutWritesTheWorkingValue := by
  refine ⟨fun id index hi lo c s ready calm other cell => ?_, fun entries s ready calm idle some few => ?_,
    fun id index rest s ready calm => ⟨fun misfit => ?_, fun long short => ⟨fun other unknown => ?_,
      fun routine misfit => ?_, fun routine first fits => ⟨fun busy => ?_, fun idle large => ?_⟩⟩⟩⟩
  · have put {t : State} {a : Answer} (e : putCell c (c.ofHalf (hi ++ lo)) s = (t, a)) (calm : t.calm) :
        exec (.settingPut id index [hi, lo]) s = .next (t.answer 0x21 a) :=
      exec_settingPut ready (by rw [settingPut_cell other cell, e]) calm
    refine ⟨fun busy => put (putCell_of_busy busy) calm, fun idle range => put (putCell_of_outOfRange idle range) calm,
      fun idle range only up => put (putCell_of_running idle range only up) calm,
      fun idle range free crossed => put (putCell_of_crossed idle range free crossed) calm,
      fun idle range free ok => ?_⟩
    refine ⟨_, _, rfl, put (putCell_of_ok idle range free ok) ?_, fun same => if_pos same, fun changed => ?_⟩
    · unfold State.writeCell
      dsimp only
      split
      · exact calm
      · exact (congrArg Rsv.due State.rsv_settingChanged).trans calm
    · have owner : s.writeCell c (c.ofHalf (hi ++ lo)) = State.settingChanged c { s with svl := { s.svl with
          settings := c.put (c.ofHalf (hi ++ lo)) s.svl.settings
          unstored := true } } := if_neg changed
      rw [owner]
      exact State.settingChanged_tells c _
  · have fits : (BitVec.ofNat 8 entries.length).toNat = entries.length := by
      rw [BitVec.toNat_ofNat, Nat.mod_eq_of_lt (by omega)]
    have taken : settingPutChecked 28 0 (BitVec.ofNat 8 entries.length :: entries.map fun c => BitVec.ofNat 8 c.val) s =
        (s.writeRoutine entries, .of .done) := by
      rw [settingPutChecked_of_fit (by simpa using some) (by simpa using Nat.lt_succ_of_le few),
        settingPut_routine rfl (by rw [fits, List.length_map])]
      exact putRoutine_of_some idle (channels_ofNat entries) ⟨some, few⟩
    refine ⟨_, _, rfl, exec_settingPut ready taken ?_, fun same => if_pos same, fun changed => ?_⟩
    · rw [State.writeRoutine_eq]
      split <;> exact calm
    · rw [State.writeRoutine_eq, if_neg changed]
      obtain ⟨pointer, count, quiet, entries, scan⟩ := State.msq_endRun (s := { s with svl := { s.svl with
        settings := { s.svl.settings with routine := entries }
        unstored := true } })
      exact ⟨pointer, count, quiet, entries, scan, rfl⟩
  · exact exec_settingPut ready (by rw [settingPutChecked_of_misfit misfit]; rfl) calm
  · exact exec_settingPut ready
      (by rw [settingPutChecked_of_fit long short, settingPut_of_unknown other unknown]; rfl) calm
  · subst routine
    exact exec_settingPut ready (by rw [settingPutChecked_of_fit long short, settingPut_of_misfit misfit]; rfl) calm
  · subst routine
    exact exec_settingPut ready
      (by rw [settingPutChecked_list long short first fits, putRoutine_of_busy busy]; rfl) calm
  · subst routine
    have none := putRoutine_of_none idle (channels_of_large large)
    exact exec_settingPut ready (by rw [settingPutChecked_list long short first fits, none]; rfl) calm

end Sys2Proof.Machine
